-- ==== Sys2Proof/Word.lean ====
section
/-!
DEFINITION. The words of the machine: bit vectors for what the manual shifts, masks or shows to software, and the one
sparse container (a list of index and value pairs in canonical form) that memories, register files and tiles share.
-/

namespace Sys2Proof

/-- A 32-bit register or instruction word (R4, R15). -/
abbrev Word := BitVec 32
/-- A byte of memory (R3). -/
abbrev Byte := BitVec 8
/-- A lane mask: bit l stands for lane l (R15). -/
abbrev Mask := BitVec 32
/-- A 56-bit device virtual address held in a register (R12). -/
abbrev Addr56 := BitVec 56
/-- Sparse data by index, strictly rising, without entries equal to the default of its place. -/
abbrev Sparse (α : Type) := List (Nat × α)

end Sys2Proof
end

