-- ==== Sys2Proof/Machine/Bits.lean ====
section
/-!
DEFINITION. Bit fields, extension, byte order and small list helpers that every layer shares (R3, R31, R33).
-/

namespace Sys2Proof.Machine

/-- Bits [hi:lo] of a natural number. -/
def field (x hi lo : Nat) : Nat := (x >>> lo) % 2 ^ (hi + 1 - lo)
/-- Bit k of a natural number. -/
def nbit (x k : Nat) : Bool := x.testBit k
/-- Bits [hi:lo] of a word, as a number. -/
def wfield (w : Word) (hi lo : Nat) : Nat := field w.toNat hi lo
/-- Sext(x, n) of R31. -/
def sextN (n x : Nat) : Int := if n = 0 then 0 else
  let y := x % 2 ^ n
  if 2 ^ (n - 1) ≤ y then (y : Int) - (2 ^ n : Nat) else (y : Int)
/-- The low n bits of an integer: the result "modulo 2^n" of R33. -/
def wrapN (n : Nat) (x : Int) : Nat := (x % ((2 ^ n : Nat) : Int)).toNat
/-- The low 32 bits of an integer. -/
def w32 (x : Int) : Word := BitVec.ofInt 32 x
/-- Clamping to a range: Sat of R31. -/
def clampI (lo hi x : Int) : Int := if x < lo then lo else if hi < x then hi else x
/-- Least and greatest In or Nn value (R33). -/
def typeMin (signed : Bool) (n : Nat) : Int := if signed then -((2 ^ (n - 1) : Nat) : Int) else 0
def typeMax (signed : Bool) (n : Nat) : Int :=
  if signed then ((2 ^ (n - 1) : Nat) : Int) - 1 else ((2 ^ n : Nat) : Int) - 1
/-- Reading n bits as In or Nn. -/
def readInt (signed : Bool) (n x : Nat) : Int := if signed then sextN n x else ((x % 2 ^ n : Nat) : Int)
/-- Number of one bits among the low n. -/
def popN (n x : Nat) : Nat := ((List.range n).filter fun k => x.testBit k).length
/-- Leading zeros of an n-bit pattern. -/
def clzN (n x : Nat) : Nat := if x % 2 ^ n = 0 then n else n - 1 - Nat.log2 (x % 2 ^ n)
/-- Trailing zeros of an n-bit pattern. -/
def ctzN (n x : Nat) : Nat := ((List.range n).find? fun k => x.testBit k).getD n
/-- Bit reversal of an n-bit pattern. -/
def revN (n x : Nat) : Nat :=
  (List.range n).foldl (fun a k => if x.testBit k then a + 2 ^ (n - 1 - k) else a) 0
/-- The number whose bits are given from bit 0 up. -/
def ofBits (l : List Bool) : Nat := l.foldr (fun b a => 2 * a + b.toNat) 0
/-- A mask from a predicate on lanes. -/
def maskOf (f : Nat → Bool) : Mask := BitVec.ofNat 32 (ofBits ((List.range 32).map f))
/-- Bit l of a mask. -/
def inMask (m : Mask) (l : Nat) : Bool := m.getLsbD l
/-- The lanes of a mask, ascending. -/
def lanesOf (m : Mask) : List Nat := (List.range 32).filter (inMask m)
/-- The lowest lane of a mask, if any. -/
def lowestLane (m : Mask) : Option Nat := (List.range 32).find? (inMask m)
/-- Number of lanes of a mask. -/
def laneCount (m : Mask) : Nat := (lanesOf m).length

/-- The little-endian value of bytes (R3). -/
def leNat : List Byte → Nat
  | [] => 0
  | b :: t => b.toNat + 256 * leNat t
/-- The n little-endian bytes of a value (R3). -/
def leBytes : Nat → Nat → List Byte
  | 0, _ => []
  | n + 1, x => BitVec.ofNat 8 x :: leBytes n (x / 256)
/-- The big-endian value of bytes, for network fields. -/
def beNat (l : List Byte) : Nat := l.foldl (fun a b => 256 * a + b.toNat) 0
/-- The n big-endian bytes of a value. -/
def beBytes (n x : Nat) : List Byte := (leBytes n x).reverse
/-- The 32-bit words of a byte list, little-endian. -/
def wordsOf : List Byte → List Word
  | a :: b :: c :: d :: t => BitVec.ofNat 32 (leNat [a, b, c, d]) :: wordsOf t
  | _ => []
/-- The bytes of 32-bit words, little-endian. -/
def bytesOf (l : List Word) : List Byte := l.flatMap fun w => leBytes 4 w.toNat
/-- Word i of a list, 0 past its end. -/
def wordAt (l : List Word) (i : Nat) : Word := l.getD i 0
/-- The 64-bit value of words i and i + 1. -/
def wide64 (l : List Word) (i : Nat) : Nat := (wordAt l i).toNat + 2 ^ 32 * (wordAt l (i + 1)).toNat

/-- Replacing entry i of a list by a function of it. -/
def upd (l : List α) (i : Nat) (f : α → α) : List α := l.modify i f
/-- Inserting into a sorted list after entries that do not exceed it, and the stable sort by it. -/
def insertBy (le : α → α → Bool) (x : α) : List α → List α
  | [] => [x]
  | h :: t => if le x h then x :: h :: t else h :: insertBy le x t
def sortBy (le : α → α → Bool) : List α → List α
  | [] => []
  | h :: t => insertBy le h (sortBy le t)
/-- 2^n as an integer. -/
def pow2I (n : Nat) : Int := ((2 ^ n : Nat) : Int)
/-- floor(a / b) for integers, toward −∞. -/
def floorDiv (a b : Int) : Int := a.fdiv b
/-- Truncating division, toward zero. -/
def truncDiv (a b : Int) : Int := a.tdiv b
/-- The floor of the square root, by bisection on n + 1 bits. -/
def isqrtAux : Nat → Nat → Nat → Nat
  | 0, _, r => r
  | k + 1, x, r => let r' := r + 2 ^ k; if r' * r' ≤ x then isqrtAux k x r' else isqrtAux k x r
def isqrt (x : Nat) : Nat := isqrtAux (Nat.log2 x / 2 + 1) x 0
/-- ceil(a / b) for naturals. -/
def ceilDiv (a b : Nat) : Nat := (a + b - 1) / b
/-- Whether a number is a power of two. -/
def isPow2 (x : Nat) : Bool := x != 0 && 2 ^ Nat.log2 x == x

end Sys2Proof.Machine
end

