-- ==== Sys2Proof/Machine/Bptc.lean ====
section
/-!
DEFINITION. Decoding of BPTC blocks, BC6H and BC7 (R322). The rule names the Khronos Data Format Specification for the mode tables, the
partition tables, the anchors, the endpoint layouts and the weights; those tables are not in the manual and are given here (log 11).
-/

namespace Sys2Proof.Machine

/-! ## What both formats share -/

/-- n bits of a block from a position. -/
def bitsAt (x at' n : Nat) : Nat := x / 2 ^ at' % 2 ^ n
/-- The partitions into two and into three subsets: two bits for each texel, texel 0 lowest. -/
def partitions2 : List Nat :=
  [0x50505050, 0x40404040, 0x54545454, 0x54505040, 0x50404000, 0x55545450, 0x55545040, 0x54504000, 0x50400000, 0x55555450, 0x55544000, 0x54400000, 0x55555440, 0x55550000, 0x55555500, 0x55000000] ++
  [0x55150100, 0x00004054, 0x15010000, 0x00405054, 0x00004050, 0x15050100, 0x05010000, 0x40505054, 0x00404050, 0x05010100, 0x14141414, 0x05141450, 0x01155440, 0x00555500, 0x15014054, 0x05414150] ++
  [0x44444444, 0x55005500, 0x11441144, 0x05055050, 0x05500550, 0x11114444, 0x41144114, 0x44111144, 0x15055054, 0x01055040, 0x05041050, 0x05455150, 0x14414114, 0x50050550, 0x41411414, 0x00141400] ++
  [0x00041504, 0x00105410, 0x10541000, 0x04150400, 0x50410514, 0x41051450, 0x05415014, 0x14054150, 0x41050514, 0x41505014, 0x40011554, 0x54150140, 0x50505500, 0x00555050, 0x15151010, 0x54540404]
def partitions3 : List Nat :=
  [0xAA685050, 0x6A5A5040, 0x5A5A4200, 0x5450A0A8, 0xA5A50000, 0xA0A05050, 0x5555A0A0, 0x5A5A5050, 0xAA550000, 0xAA555500, 0xAAAA5500, 0x90909090, 0x94949494, 0xA4A4A4A4, 0xA9A59450, 0x2A0A4250] ++
  [0xA5945040, 0x0A425054, 0xA5A5A500, 0x55A0A0A0, 0xA8A85454, 0x6A6A4040, 0xA4A45000, 0x1A1A0500, 0x0050A4A4, 0xAAA59090, 0x14696914, 0x69691400, 0xA08585A0, 0xAA821414, 0x50A4A450, 0x6A5A0200] ++
  [0xA9A58000, 0x5090A0A8, 0xA8A09050, 0x24242424, 0x00AA5500, 0x24924924, 0x24499224, 0x50A50A50, 0x500AA550, 0xAAAA4444, 0x66660000, 0xA5A0A5A0, 0x50A050A0, 0x69286928, 0x44AAAA44, 0x66666600] ++
  [0xAA444444, 0x54A854A8, 0x95809580, 0x96969600, 0xA85454A8, 0x80959580, 0xAA141414, 0x96960000, 0xAAAA1414, 0xA05050A0, 0xA0A5A5A0, 0x96000000, 0x40804080, 0xA9A8A9A8, 0xAAAAAA44, 0x2A4A5254]
/-- The anchor texels of the second of two subsets, and of the second and third of three. -/
def anchors2 : List Nat :=
  [15, 15, 15, 15, 15, 15, 15, 15, 15, 15, 15, 15, 15, 15, 15, 15, 15, 2, 8, 2, 2, 8, 8, 15, 2, 8, 2, 2, 8, 8, 2, 2, 15, 15, 6, 8, 2, 8,
    15, 15, 2, 8, 2, 2, 2, 15, 15, 6, 6, 2, 6, 8, 15, 15, 2, 2, 15, 15, 15, 15, 15, 2, 2, 15]
def anchors3b : List Nat :=
  [3, 3, 15, 15, 8, 3, 15, 15, 8, 8, 6, 6, 6, 5, 3, 3, 3, 3, 8, 15, 3, 3, 6, 10, 5, 8, 8, 6, 8, 5, 15, 15, 8, 15, 3, 5, 6, 10, 8, 15, 15,
    3, 15, 5, 15, 15, 15, 15, 3, 15, 5, 5, 5, 8, 5, 10, 5, 10, 8, 13, 15, 12, 3, 3]
def anchors3c : List Nat :=
  [15, 8, 8, 3, 15, 15, 3, 8, 15, 15, 15, 15, 15, 15, 15, 8, 15, 8, 15, 3, 15, 8, 15, 8, 3, 15, 6, 10, 15, 15, 10, 8, 15, 3, 15, 10, 10,
    8, 9, 10, 6, 15, 8, 15, 3, 6, 6, 8, 15, 3, 15, 15, 15, 15, 15, 15, 15, 15, 15, 15, 3, 15, 15, 8]
/-- The subset of a texel. -/
def subsetOf (subsets part k : Nat) : Nat :=
  match subsets with
  | 2 => bitsAt (partitions2.getD part 0) (2 * k) 2
  | 3 => bitsAt (partitions3.getD part 0) (2 * k) 2
  | _ => 0
/-- Whether a texel is the anchor of its subset: its index has one bit less. -/
def isAnchor (subsets part k : Nat) : Bool :=
  k == 0 ||
    match subsets with
    | 2 => k == anchors2.getD part 0
    | 3 => k == anchors3b.getD part 0 || k == anchors3c.getD part 0
    | _ => false
/-- The index of a texel, of n bits but for anchors, in a field that starts at a position. -/
def texelIndex (x at' n subsets part k : Nat) : Nat :=
  let width (j : Nat) : Nat := n - (isAnchor subsets part j).toNat
  bitsAt x (at' + ((List.range k).map width).sum) (width k)
/-- The weights of an index of two, three or four bits. -/
def bptcWeight (n i : Nat) : Nat :=
  match n with
  | 2 => [0, 21, 43, 64].getD i 0
  | 3 => [0, 9, 18, 27, 37, 46, 55, 64].getD i 0
  | _ => [0, 4, 9, 13, 17, 21, 26, 30, 34, 38, 43, 47, 51, 55, 60, 64].getD i 0
/-- Interpolation between two endpoints, rounding down (R322). -/
def bptcMix (w : Nat) (a b : Int) : Int := floorDiv ((64 - (w : Int)) * a + w * b + 32) 64

/-! ## BC7 -/

/-- A mode of BC7: subsets, partition bits, rotation bits, index-selection bit, colour bits, alpha bits, a P bit for each endpoint, a P bit
for each subset, index bits, second index bits. -/
structure Bc7Mode where
  ns : Nat
  pb : Nat
  rb : Nat
  isb : Nat
  cb : Nat
  ab : Nat
  epb : Nat
  spb : Nat
  ib : Nat
  ib2 : Nat
deriving DecidableEq, Repr, Inhabited
/-- The eight modes. -/
def bc7Mode : Nat → Bc7Mode
  | 0 => ⟨3, 4, 0, 0, 4, 0, 1, 0, 3, 0⟩
  | 1 => ⟨2, 6, 0, 0, 6, 0, 0, 1, 3, 0⟩
  | 2 => ⟨3, 6, 0, 0, 5, 0, 0, 0, 2, 0⟩
  | 3 => ⟨2, 6, 0, 0, 7, 0, 1, 0, 2, 0⟩
  | 4 => ⟨1, 0, 2, 1, 5, 6, 0, 0, 2, 3⟩
  | 5 => ⟨1, 0, 2, 0, 7, 8, 0, 0, 2, 2⟩
  | 6 => ⟨1, 0, 0, 0, 7, 7, 1, 0, 4, 0⟩
  | _ => ⟨2, 6, 0, 0, 5, 5, 1, 0, 2, 0⟩
/-- An endpoint of n bits widened to 8 by repeating its top bits. -/
def widen8 (n v : Nat) : Nat := v * 2 ^ (8 - n) + v / 2 ^ (2 * n - 8)
/-- A channel of an endpoint of a BC7 block, as 8 bits; alpha is 255 in a mode without it. -/
def bc7End (m : Bc7Mode) (x c0 e ch : Nat) : Nat :=
  let n := if ch = 3 then m.ab else m.cb
  if n = 0 then 255 else
    let v := bitsAt x (c0 + if ch = 3 then 6 * m.ns * m.cb + e * m.ab else (ch * 2 * m.ns + e) * m.cb) n
    let p := c0 + 2 * m.ns * (3 * m.cb + m.ab)
    if m.epb = 1 then widen8 (n + 1) (2 * v + bitsAt x (p + e) 1)
    else if m.spb = 1 then widen8 (n + 1) (2 * v + bitsAt x (p + e / 2) 1)
    else widen8 n v
/-- The four 8-bit channels of a texel of a BC7 block whose first byte is not 0. -/
def bc7 (x k : Nat) : List Nat :=
  let mode := ((List.range 8).find? fun j => x.testBit j).getD 0
  let m := bc7Mode mode
  let part := bitsAt x (mode + 1) m.pb
  let rot := bitsAt x (mode + 1 + m.pb) m.rb
  let swap := bitsAt x (mode + 1 + m.pb + m.rb) m.isb
  let c0 := mode + 1 + m.pb + m.rb + m.isb
  let i0 := c0 + 2 * m.ns * (3 * m.cb + m.ab) + m.epb * (2 * m.ns) + m.spb * m.ns
  let w1 := bptcWeight m.ib (texelIndex x i0 m.ib m.ns part k)
  let w2 := if m.ib2 = 0 then w1 else bptcWeight m.ib2 (texelIndex x (i0 + 16 * m.ib - m.ns) m.ib2 1 0 k)
  let e := 2 * subsetOf m.ns part k
  let chan (ch : Nat) : Nat :=
    let w := if decide (ch = 3) == decide (swap = 0) then w2 else w1
    (bptcMix w (bc7End m x c0 e ch) (bc7End m x c0 (e + 1) ch)).toNat
  let c := (List.range 4).map chan
  if rot = 0 then c
  else (List.range 4).map fun ch => c.getD (if ch = 3 then rot - 1 else if ch = rot - 1 then 3 else ch) 0

/-! ## BC6H -/

/-- The fields of a mode of BC6H after its mode bits, from the lowest bit: the value (4 × channel + endpoint w, x, y or z), its lowest bit
there, and the number of bits. -/
def bc6Layout : Nat → List (Nat × Nat × Nat)
  | 0 => [(6, 4, 1), (10, 4, 1), (11, 4, 1), (0, 0, 10), (4, 0, 10), (8, 0, 10), (1, 0, 5), (7, 4, 1), (6, 0, 4), (5, 0, 5), (11, 0, 1),
    (7, 0, 4), (9, 0, 5), (11, 1, 1), (10, 0, 4), (2, 0, 5), (11, 2, 1), (3, 0, 5), (11, 3, 1)]
  | 1 => [(6, 5, 1), (7, 4, 1), (7, 5, 1), (0, 0, 7), (11, 0, 1), (11, 1, 1), (10, 4, 1), (4, 0, 7), (10, 5, 1), (11, 2, 1), (6, 4, 1),
    (8, 0, 7), (11, 3, 1), (11, 5, 1), (11, 4, 1), (1, 0, 6), (6, 0, 4), (5, 0, 6), (7, 0, 4), (9, 0, 6), (10, 0, 4), (2, 0, 6), (3, 0,
    6)]
  | 2 => [(0, 0, 10), (4, 0, 10), (8, 0, 10), (1, 0, 5), (0, 10, 1), (6, 0, 4), (5, 0, 4), (4, 10, 1), (11, 0, 1), (7, 0, 4), (9, 0, 4),
    (8, 10, 1), (11, 1, 1), (10, 0, 4), (2, 0, 5), (11, 2, 1), (3, 0, 5), (11, 3, 1)]
  | 6 => [(0, 0, 10), (4, 0, 10), (8, 0, 10), (1, 0, 4), (0, 10, 1), (7, 4, 1), (6, 0, 4), (5, 0, 5), (4, 10, 1), (7, 0, 4), (9, 0, 4),
    (8, 10, 1), (11, 1, 1), (10, 0, 4), (2, 0, 4), (11, 0, 1), (11, 2, 1), (3, 0, 4), (6, 4, 1), (11, 3, 1)]
  | 10 => [(0, 0, 10), (4, 0, 10), (8, 0, 10), (1, 0, 4), (0, 10, 1), (10, 4, 1), (6, 0, 4), (5, 0, 4), (4, 10, 1), (11, 0, 1), (7, 0,
    4), (9, 0, 5), (8, 10, 1), (10, 0, 4), (2, 0, 4), (11, 1, 1), (11, 2, 1), (3, 0, 4), (11, 4, 1), (11, 3, 1)]
  | 14 => [(0, 0, 9), (10, 4, 1), (4, 0, 9), (6, 4, 1), (8, 0, 9), (11, 4, 1), (1, 0, 5), (7, 4, 1), (6, 0, 4), (5, 0, 5), (11, 0, 1),
    (7, 0, 4), (9, 0, 5), (11, 1, 1), (10, 0, 4), (2, 0, 5), (11, 2, 1), (3, 0, 5), (11, 3, 1)]
  | 18 => [(0, 0, 8), (7, 4, 1), (10, 4, 1), (4, 0, 8), (11, 2, 1), (6, 4, 1), (8, 0, 8), (11, 3, 1), (11, 4, 1), (1, 0, 6), (6, 0, 4),
    (5, 0, 5), (11, 0, 1), (7, 0, 4), (9, 0, 5), (11, 1, 1), (10, 0, 4), (2, 0, 6), (3, 0, 6)]
  | 22 => [(0, 0, 8), (11, 0, 1), (10, 4, 1), (4, 0, 8), (6, 5, 1), (6, 4, 1), (8, 0, 8), (7, 5, 1), (11, 4, 1), (1, 0, 5), (7, 4, 1),
    (6, 0, 4), (5, 0, 6), (7, 0, 4), (9, 0, 5), (11, 1, 1), (10, 0, 4), (2, 0, 5), (11, 2, 1), (3, 0, 5), (11, 3, 1)]
  | 26 => [(0, 0, 8), (11, 1, 1), (10, 4, 1), (4, 0, 8), (10, 5, 1), (6, 4, 1), (8, 0, 8), (11, 5, 1), (11, 4, 1), (1, 0, 5), (7, 4, 1),
    (6, 0, 4), (5, 0, 5), (11, 0, 1), (7, 0, 4), (9, 0, 6), (10, 0, 4), (2, 0, 5), (11, 2, 1), (3, 0, 5), (11, 3, 1)]
  | 30 => [(0, 0, 6), (7, 4, 1), (11, 0, 1), (11, 1, 1), (10, 4, 1), (4, 0, 6), (6, 5, 1), (10, 5, 1), (11, 2, 1), (6, 4, 1), (8, 0, 6),
    (7, 5, 1), (11, 3, 1), (11, 5, 1), (11, 4, 1), (1, 0, 6), (6, 0, 4), (5, 0, 6), (7, 0, 4), (9, 0, 6), (10, 0, 4), (2, 0, 6), (3, 0,
    6)]
  | 3 => [(0, 0, 10), (4, 0, 10), (8, 0, 10), (1, 0, 10), (5, 0, 10), (9, 0, 10)]
  | 7 => [(0, 0, 10), (4, 0, 10), (8, 0, 10), (1, 0, 9), (0, 10, 1), (5, 0, 9), (4, 10, 1), (9, 0, 9), (8, 10, 1)]
  | 11 => [(0, 0, 10), (4, 0, 10), (8, 0, 10), (1, 0, 8), (0, 11, 1), (0, 10, 1), (5, 0, 8), (4, 11, 1), (4, 10, 1), (9, 0, 8), (8, 11,
    1), (8, 10, 1)]
  | 15 => [(0, 0, 10), (4, 0, 10), (8, 0, 10), (1, 0, 4), (0, 15, 1), (0, 14, 1), (0, 13, 1), (0, 12, 1), (0, 11, 1), (0, 10, 1), (5, 0,
    4), (4, 15, 1), (4, 14, 1), (4, 13, 1), (4, 12, 1), (4, 11, 1), (4, 10, 1), (9, 0, 4), (8, 15, 1), (8, 14, 1), (8, 13, 1), (8, 12,
    1), (8, 11, 1), (8, 10, 1)]
  | _ => []
/-- The bits of a mode's w endpoints, and of the x, y and z values of each channel. -/
def bc6Bits : Nat → Nat × List Nat
  | 0 => (10, [5, 5, 5])
  | 1 => (7, [6, 6, 6])
  | 2 => (11, [5, 4, 4])
  | 6 => (11, [4, 5, 4])
  | 10 => (11, [4, 4, 5])
  | 14 => (9, [5, 5, 5])
  | 18 => (8, [6, 5, 5])
  | 22 => (8, [5, 6, 5])
  | 26 => (8, [5, 5, 6])
  | 30 => (6, [6, 6, 6])
  | 3 => (10, [10, 10, 10])
  | 7 => (11, [9, 9, 9])
  | 11 => (12, [8, 8, 8])
  | 15 => (16, [4, 4, 4])
  | _ => (0, [])
/-- A value of a block, collected from its fields. -/
def bc6Value (x v : Nat) : List (Nat × Nat × Nat) → Nat → Nat
  | [], _ => 0
  | (u, lo, n) :: t, at' => (if u = v then bitsAt x at' n * 2 ^ lo else 0) + bc6Value x v t (at' + n)
/-- The mode bits of a block: two where they are 0 or 1, else five. -/
def bc6Mode (x : Nat) : Nat := if x % 4 < 2 then x % 4 else x % 32
/-- Whether the x, y and z values of a mode are differences from w. -/
def bc6Differs (m : Nat) : Bool := m != 30 && m != 3
/-- An endpoint of a channel as the mode gives it, modulo its bits; read as signed for SF16. -/
def bc6End (signed : Bool) (x m ch e : Nat) : Int :=
  let at0 := if m < 2 then 2 else 5
  let (p, d) := bc6Bits m
  let raw (e : Nat) : Nat := bc6Value x (4 * ch + e) (bc6Layout m) at0
  let v : Nat := if e = 0 ∨ bc6Differs m = false then raw e else wrapN p ((raw 0 : Int) + readInt true (d.getD ch 0) (raw e))
  readInt signed p v
/-- Unquantising an endpoint of p bits. -/
def bc6Unquant (signed : Bool) (p : Nat) (v : Int) : Int :=
  if signed then
    if 16 ≤ p then v else
      let a := v.natAbs
      let q : Nat := if a = 0 then 0 else if 2 ^ (p - 1) - 1 ≤ a then 0x7FFF else (a * 32768 + 16384) / 2 ^ (p - 1)
      if v < 0 then -(q : Int) else q
  else if 15 ≤ p then v else
    let a := v.toNat
    if a = 0 then 0 else if a = 2 ^ p - 1 then 0xFFFF else ((a * 32768 + 16384) / 2 ^ (p - 1) : Nat)
/-- The F16 pattern of an interpolated value. -/
def bc6Half (signed : Bool) (v : Int) : Nat :=
  if !signed then v.toNat * 31 / 64 else if v < 0 then 0x8000 + v.natAbs * 31 / 32 else v.toNat * 31 / 32
/-- The three F16 patterns of a texel of a BC6H block in an assigned mode. -/
def bc6h (signed : Bool) (x k : Nat) : List Nat :=
  let m := bc6Mode x
  let two := m != 3 && m != 7 && m != 11 && m != 15
  let ns := if two then 2 else 1
  let n := if two then 3 else 4
  let part := if two then bitsAt x 77 5 else 0
  let w := bptcWeight n (texelIndex x (if two then 82 else 65) n ns part k)
  let e := 2 * subsetOf ns part k
  let p := (bc6Bits m).1
  (List.range 3).map fun ch =>
    bc6Half signed (bptcMix w (bc6Unquant signed p (bc6End signed x m ch e)) (bc6Unquant signed p (bc6End signed x m ch (e + 1))))

end Sys2Proof.Machine
end

