-- ==== Sys2Proof/Syntax.lean ====
section
/-!
DEFINITION. The instructions and events of the JO-960: one constructor of `Instr` per row of spec/opcode_table.json.
An instruction row carries the operand fields of its word class (R58, R60, R62, R70 to R72); an event row carries what
arrives, or which part of the machine acts. The meaning of each is in Machine alone.
-/

namespace Sys2Proof

/-- The operand field [23:0] of a C32 word (R58). -/
structure C32 where
  f : BitVec 24
deriving DecidableEq, Repr, Inhabited

/-- The operand fields of an S64 word (R60); with I = 1 the last three together are imm32. -/
structure S64 where
  sd : BitVec 9
  sa : BitVec 9
  imm : Bool
  cf : BitVec 3
  sb : BitVec 9
  sc : BitVec 9
  aux : BitVec 14
deriving DecidableEq, Repr, Inhabited

/-- A V96 source A or B (R62). -/
structure VSrc where
  route : BitVec 8
  abs : Bool
  neg : Bool
  elem : BitVec 3
  sel : BitVec 10
deriving DecidableEq, Repr, Inhabited

/-- The operand fields of a V96 word (R62). -/
structure V96 where
  vd : BitVec 8
  nw : Bool
  lat : BitVec 3
  pe : Bool
  pi : BitVec 3
  pn : Bool
  ew : BitVec 2
  rnd : BitVec 3
  a : VSrc
  b : VSrc
  cRoute : BitVec 8
  cSel : BitVec 10
deriving DecidableEq, Repr, Inhabited

/-- The operand fields of an E96 memory-family word (R70, R71). -/
structure EMem where
  d : BitVec 8
  pe : Bool
  pi : BitVec 3
  pn : Bool
  sa : BitVec 9
  heap : Bool
  scope : BitVec 3
  sub : BitVec 4
  off : BitVec 24
  policy : BitVec 3
  mode : BitVec 2
  width : BitVec 3
  vb : BitVec 8
  vdat : BitVec 8
  va : BitVec 8
deriving DecidableEq, Repr, Inhabited

/-- The operand fields of an E96 engine-family word (R70, R72). -/
structure EEng where
  d : BitVec 8
  pe : Bool
  pi : BitVec 3
  pn : Bool
  sa : BitVec 9
  imm : BitVec 32
  sub : BitVec 6
  va : BitVec 8
  sc : BitVec 9
  sb : BitVec 9
deriving DecidableEq, Repr, Inhabited

/-- A split, by the index of its group in State.groups and its entry number 0 to 3 (R150). -/
structure SplitRef where
  group : Nat
  split : Nat
deriving DecidableEq, Repr, Inhabited

/-- The caches that may evict on their own (R213, R229), with the bytes of the sector that leave: L1 and the cluster cache keep valid bits
for each byte, the sampler cache holds whole sectors. -/
inductive CacheLevel where
  | l1 (bytes : BitVec 64) | cluster (bytes : BitVec 64) | sampler
deriving DecidableEq, Repr, Inhabited

/-- Why Clove-S saves a block (R203, R394, R397). -/
inductive SaveWhy where
  | preempt | streamOut | waitYield
deriving DecidableEq, Repr, Inhabited

/-- One bind record (R183). -/
structure BindRecord where
  launch : Nat
  block : Nat
  prio : Nat
  ngrp : Nat
  cslot : Nat
  cpos : Nat
  scrLen : Nat
  scrOff : Nat
  gslots : BitVec 64
  recAddr : Nat
  gen : Nat
deriving DecidableEq, Repr, Inhabited

/-- Where Clove-S puts a restored or migrated block (R397, R457): the core, slot-table entry, context slot and group
slots of each part, and the scratchpad offset in units of 4 KiB. -/
structure Place where
  parts : List (Nat × Nat × Nat × BitVec 64)
  scrOff : Nat
deriving DecidableEq, Repr, Inhabited

/-- The storage that an ECC error strikes (R433, R434), or a GDDR7 link whose CRC fails. Sector numbers count 64 bytes; a sector of L2 is
clean where GDDR7 holds the same bytes. -/
inductive StorageUnit where
  | gddr (sector : Nat)
  | link (device : Nat)
  | weightStore (sector : Nat)
  | l2 (sector : Nat) (clean : Bool)
  | sram (cluster sector : Nat)
  | l1 (core key : Nat)
  | sampler (core key : Nat)
  | vreg (group reg lane : Nat)
  | sreg (who : SplitRef) (number : Nat)
  | latch (who : SplitRef) (n lane : Nat)
  | tile (cluster tile element : Nat)
deriving DecidableEq, Repr, Inhabited

/-- The kinds of queue pair (R411). -/
inductive QKind where
  | command
  | window
deriving DecidableEq, Repr, Inhabited

/-- What self-test and training find in stage 3 of the boot (R426, R432). -/
structure SelfTest where
  failing : BitVec 24
  memoryOk : Bool
deriving DecidableEq, Repr, Inhabited

/-- A command message of R412 whose header is well formed, less its OP, which the constructor gives. -/
structure Cmd where
  q : Nat
  tag : Word
  ctx : Word
  body : List Word
deriving DecidableEq, Repr, Inhabited

/-- The rows of spec/opcode_table.json. The V96 rows stand last: a compiled constructor with fields has a bounded number. -/
inductive Instr where
  /-- NOP (R105): Takes an issue slot and does nothing else; a split with a live latch may issue it. -/
  | nop (o : C32)
  /-- BRA (R98): Branches the whole split, unconditionally or when flag c(flag) equals the sense bit. -/
  | bra (o : C32)
  /-- BRD (R194): Branches lanes by predicate; it moves the split, falls through, or diverges it into two splits. -/
  | brd (o : C32)
  /-- CALL (R99): Writes the return address to s30:s31 and branches to the target. -/
  | call (o : C32)
  /-- RET (R100): Sets PC from s30:s31 with no landing-pad check. -/
  | ret (o : C32)
  /-- EXIT (R198): After the counters reach 0, exits every lane of the split and frees its entry, with the implicit release when the group ends. -/
  | exit (o : C32)
  /-- WAITC (R107): Holds the split until every wait counter is at or below its limit. -/
  | waitc (o : C32)
  /-- BAR.sync (R191): Arrives the split's lanes at a named barrier and then waits for the phase to complete. -/
  | barSync (o : C32)
  /-- BAR.arrive (R191): Arrives the split's lanes at a named barrier phase without waiting. -/
  | barArrive (o : C32)
  /-- BAR.wait (R193): Waits for completion of the phase that the group's latest arrival joined. -/
  | barWait (o : C32)
  /-- JOIN (R196): Puts the split in JOIN until it holds every unexited lane or n cycles pass. -/
  | join (o : C32)
  /-- YIELD (R197): After the counters reach 0, enters WAIT so that a deferred split may take the entry. -/
  | yield (o : C32)
  /-- SLEEP (R106): Keeps the split from issuing for at least n cycles. -/
  | sleep (o : C32)
  /-- LPAD (R102): Landing pad; acts as NOP when executed. -/
  | lpad (o : C32)
  /-- TRAP (R109): Enters the trap handler with cause SOFTWARE after completing. -/
  | trap (o : C32)
  /-- BKPT (R109): Enters the trap handler with cause BREAKPOINT without completing. -/
  | bkpt (o : C32)
  /-- RTE (R383): Restores c0-c3, applies a replay mask or resume mark, leaves trap mode and returns to TRAPPC. -/
  | rte (o : C32)
  /-- FENCE.full (R267): Full fence: the release actions and then the acquire actions on the named paths at the scope. -/
  | fenceFull (o : C32)
  /-- FENCE.acq (R268): Acquire fence: the acquire actions on the named paths at the scope. -/
  | fenceAcq (o : C32)
  /-- FENCE.rel (R268): Release fence: the release actions on the named paths at the scope. -/
  | fenceRel (o : C32)
  /-- SEGW (R200): Sets the group's segment width to 2^n lanes. -/
  | segw (o : C32)
  /-- SMOV (R85): Scalar move of sb to sd. -/
  | smov (o : S64)
  /-- SADD (R85): 32-bit scalar add. -/
  | sadd (o : S64)
  /-- SSUB (R85): 32-bit scalar subtract. -/
  | ssub (o : S64)
  /-- SMUL (R85): Low 32 bits of a scalar product. -/
  | smul (o : S64)
  /-- SMULHI.N (R85): High 32 bits of an unsigned scalar product. -/
  | smulhiN (o : S64)
  /-- SMULHI.I (R85): High 32 bits of a signed scalar product. -/
  | smulhiI (o : S64)
  /-- SAND (R85): Scalar bitwise AND. -/
  | sand (o : S64)
  /-- SOR (R85): Scalar bitwise OR. -/
  | sor (o : S64)
  /-- SXOR (R85): Scalar bitwise XOR. -/
  | sxor (o : S64)
  /-- SANDN (R85): Scalar sa AND NOT sb. -/
  | sandn (o : S64)
  /-- SSHL (R86): Scalar shift left. -/
  | sshl (o : S64)
  /-- SSHR (R86): Scalar logical shift right. -/
  | sshr (o : S64)
  /-- SSRA (R86): Scalar arithmetic shift right. -/
  | ssra (o : S64)
  /-- SMIN.I (R85): Signed scalar minimum. -/
  | sminI (o : S64)
  /-- SMAX.I (R85): Signed scalar maximum. -/
  | smaxI (o : S64)
  /-- SMIN.N (R85): Unsigned scalar minimum. -/
  | sminN (o : S64)
  /-- SMAX.N (R85): Unsigned scalar maximum. -/
  | smaxN (o : S64)
  /-- SBFE.N (R87): Unsigned scalar bit-field extract. -/
  | sbfeN (o : S64)
  /-- SBFE.I (R87): Signed scalar bit-field extract. -/
  | sbfeI (o : S64)
  /-- SBFI (R87): Scalar bit-field insert. -/
  | sbfi (o : S64)
  /-- SPOPC (R88): Scalar population count. -/
  | spopc (o : S64)
  /-- SCLZ (R88): Scalar count of leading zeros. -/
  | sclz (o : S64)
  /-- SCTZ (R88): Scalar count of trailing zeros. -/
  | sctz (o : S64)
  /-- SBREV (R88): Scalar bit reversal. -/
  | sbrev (o : S64)
  /-- SSEL (R89): Selects sa or sb by a condition flag. -/
  | ssel (o : S64)
  /-- SCMP.I (R92): Signed 32-bit scalar compare into a condition flag. -/
  | scmpI (o : S64)
  /-- SCMP.N (R92): Unsigned 32-bit scalar compare into a condition flag. -/
  | scmpN (o : S64)
  /-- SADD.B64 (R90): 64-bit scalar pair add. -/
  | saddB64 (o : S64)
  /-- SSUB.B64 (R90): 64-bit scalar pair subtract. -/
  | ssubB64 (o : S64)
  /-- SMUL.B64 (R90): Low 64 bits of a scalar pair product. -/
  | smulB64 (o : S64)
  /-- SSHL.B64 (R90): 64-bit scalar pair shift left. -/
  | sshlB64 (o : S64)
  /-- SSHR.B64 (R90): 64-bit scalar pair logical shift right. -/
  | sshrB64 (o : S64)
  /-- SCMP.I64 (R92): Signed 64-bit scalar compare into a condition flag. -/
  | scmpI64 (o : S64)
  /-- SCMP.N64 (R92): Unsigned 64-bit scalar compare into a condition flag. -/
  | scmpN64 (o : S64)
  /-- SFADD (R94): Scalar F32 add, rounded once. -/
  | sfadd (o : S64)
  /-- SFMUL (R94): Scalar F32 multiply, rounded once. -/
  | sfmul (o : S64)
  /-- SFFMA (R94): Scalar F32 fused multiply-add. -/
  | sffma (o : S64)
  /-- SFMIN (R95): Scalar F32 minimum. -/
  | sfmin (o : S64)
  /-- SFMAX (R95): Scalar F32 maximum. -/
  | sfmax (o : S64)
  /-- SFCMP (R96): Scalar F32 compare into a condition flag. -/
  | sfcmp (o : S64)
  /-- SCVT.F32.I32 (R97): Scalar conversion of I32 to F32. -/
  | scvtF32I32 (o : S64)
  /-- SCVT.I32.F32 (R97): Scalar conversion of F32 to I32, clamped. -/
  | scvtI32F32 (o : S64)
  /-- SRCP (R97): Scalar F32 reciprocal, rounded once. -/
  | srcp (o : S64)
  /-- SRD (R103): Reads a system register into sd after the access checks of R20. -/
  | srd (o : S64)
  /-- CYCLO_READ (R24): A read of CYCLO returns counter bits [31:0] and captures bits [63:32] into the split's CYCHI. -/
  | cycloRead (o : S64)
  /-- SWR (R104): Writes a system register that has no row of its own, after the access and value checks. -/
  | swr (o : S64)
  /-- CARVE_WRITE (R223): A write of SPS starts growth (BUSY) or a shrink (PEND) of the scratchpad carve-out. -/
  | carveWrite (cluster : Nat) (value : Word)
  /-- CARVE_GROWTH_DONE (R223): When the last converting cache line is invalid, the units join the scratchpad and BUSY clears. -/
  | carveGrowthDone (cluster : Nat)
  /-- CARVE_SHRINK_DONE (R223): When no resident block overlaps the removed units, they become empty cache ways and PEND clears. -/
  | carveShrinkDone (cluster : Nat)
  /-- CLKRATIO_WRITE (R399): A write of RATIO changes the cluster's lane clock at least 64 cycles later. -/
  | clkratioWrite (cluster : Nat) (value : Word)
  /-- CTXCTL_GO (R393): Writing GO switches the core's active context slot to a resident TARGET within 100 cycles. -/
  | ctxctlGo (core : Nat) (value : Word)
  /-- BRX (R101): Indirect branch to a register target after the landing-pad check. -/
  | brx (o : S64)
  /-- CALLX (R101): Indirect call after the landing-pad check; writes the link pair. -/
  | callx (o : S64)
  /-- VACQ (R201): Maps a v-register block to the group, blocking or with .nb. -/
  | vacq (o : S64)
  /-- VREL (R201): Unmaps a v-register block of the group. -/
  | vrel (o : S64)
  /-- LAUNCH (R202): Checks a launch record and copies it into the group's pending-launch queue. -/
  | launch (o : S64)
  /-- SWAITG (R203): Waits until a memory word reaches a target, then acquires at the scope. -/
  | swaitg (o : S64)
  /-- SWAITG_POLL (R203): The awaited word is read again after an atomic update reaches its home slice, or at least every 4,096 cycles. -/
  | swaitgPoll (who : SplitRef)
  /-- SLD (R247): Scalar load through a buffer record. -/
  | sld (o : S64)
  /-- SST (R247): Scalar store through a buffer record. -/
  | sst (o : S64)
  /-- SATOM (R247): Scalar atomic through a buffer record. -/
  | satom (o : S64)
  /-- SSLD (R247): Scalar load from the block's scratchpad. -/
  | ssld (o : S64)
  /-- SSST (R247): Scalar store to the block's scratchpad. -/
  | ssst (o : S64)
  /-- WAITA (R245): Sleeps until a scratchpad word meets its condition, then optionally acquires. -/
  | waita (o : S64)
  /-- WAITA_POLL (R245): The awaited scratchpad word is tested again after each write to its 64-B word, or at least every 1,024 cycles. -/
  | waitaPoll (who : SplitRef)
  /-- SACQ (R252): Acquires a sync object or the implicit object: reads RSEQ and invalidates clean bytes. -/
  | sacq (o : S64)
  /-- SREL (R253): Releases a sync object or the implicit object: writes back dirty bytes and increments RSEQ. -/
  | srel (o : S64)
  /-- SOBIND (R251): Binds an address region to a sync object and writes a status. -/
  | sobind (o : S64)
  /-- SOUNBIND (R251): Removes the binding of a region and writes a status. -/
  | sounbind (o : S64)
  /-- VLD (R238): Vector load through a buffer record at a scope and policy. -/
  | vld (o : EMem)
  /-- VST (R238): Vector store through a buffer record at a scope and policy. -/
  | vst (o : EMem)
  /-- VATOM.op (R242): Vector atomic read-modify-write at the home slice or target, with lane combining. -/
  | vatom (o : EMem)
  /-- VSLD (R244): Vector load from the block's scratchpad. -/
  | vsld (o : EMem)
  /-- VSST (R244): Vector store to the block's scratchpad. -/
  | vsst (o : EMem)
  /-- VSATOM.op (R244): Vector atomic in the scratchpad. -/
  | vsatom (o : EMem)
  /-- VPREF (R240): Prefetches the sectors of in-bounds lanes toward the core. -/
  | vpref (o : EMem)
  /-- VLDW (R239): Loads 64 contiguous bytes into 16 registers per lane. -/
  | vldw (o : EMem)
  /-- MEMORY_COMPLETION (R236): A counted memory access completes: data and flags are written and its counter falls. -/
  | memoryCompletion (group op : Nat)
  /-- CACHE_EVICTION (R214): An evicted line sends only its dirty bytes with a byte mask to the next level. -/
  | cacheEviction (level : CacheLevel) (index sector : Nat)
  /-- PAGE_FAULT_SERVICE (R385): Clove-M serves a fault record, mapping a frame or refusing the line. -/
  | pageFaultService (group split : Nat)
  /-- REPLAY (R386): Resends the parked lanes' line requests once their faults are resolved; the split becomes READY past the instruction when they complete. -/
  | replay (who : SplitRef)
  /-- ASYNC_TRAP_DELIVERY (R382): A pending asynchronous cause is delivered to the split that holds the issuing lane at an instruction boundary. -/
  | asyncTrapDelivery (group : Nat)
  /-- TSAMPLE (R326): Filtered texture sample through a heap entry. -/
  | tsample (o : EEng)
  /-- TFETCH (R326): Unfiltered texel or buffer fetch through a heap entry. -/
  | tfetch (o : EEng)
  /-- TGATHER4 (R326): Gathers one component of four texels. -/
  | tgather4 (o : EEng)
  /-- TQUERY (R326): Queries texture level size or buffer extent. -/
  | tquery (o : EEng)
  /-- TREC (R326): Reads the eight words of a heap entry into scalars. -/
  | trec (o : EEng)
  /-- TEXTURE_COMPLETION (R326): A texture instruction's destinations are written and XC falls. -/
  | textureCompletion (group op : Nat)
  /-- MMA (R292): Versioned matrix multiply-add of two operand tiles into an accumulator tile. -/
  | mma (o : EEng)
  /-- MZERO (R293): Versioned clear of a tile and setting of its anchor. -/
  | mzero (o : EEng)
  /-- MRD (R294): Reads and rounds 32 tile elements into a vector register. -/
  | mrd (o : EEng)
  /-- MST (R295): Rounds a tile and stores it, with an optional completion word. -/
  | mst (o : EEng)
  /-- MLD (R296): Versioned load of a tile from memory. -/
  | mld (o : EEng)
  /-- MVER (R297): Reads a tile's status word or tail version. -/
  | mver (o : EEng)
  /-- MWAIT (R298): Holds until a tile's completed version reaches E. -/
  | mwait (o : EEng)
  /-- MATRIX_COMMAND_COMPLETION (R280): A matrix command is performed and completes: the tile is updated and VER advances, or the payload or lanes are written, and flags are ORed in. -/
  | matrixCommandCompletion (cluster index : Nat)
  /-- CPY (R312): Copy-engine payload copy. -/
  | cpy (o : EEng)
  /-- CPYM (R313): Copy to the scratchpad followed by an offered follow-on MMA. -/
  | cpym (o : EEng)
  /-- CPUB (R315): Copies into a shadow copy and publishes it to a sync object. -/
  | cpub (o : EEng)
  /-- CPENC (R317): Encodes F16 4 x 4 blocks with the fixed-rate block coder. -/
  | cpenc (o : EEng)
  /-- CPDEC (R317): Decodes fixed-rate coded blocks to F16. -/
  | cpdec (o : EEng)
  /-- CPREM (R312): Copy with one end in a fabric or system window. -/
  | cprem (o : EEng)
  /-- COPY_ACCEPTANCE (R301): A queue entry frees, the waiting copy command is accepted and XC falls. -/
  | copyAcceptance (cluster : Nat)
  /-- COPY_COMMAND_COMPLETION (R309): A copy command's last step is accepted and its completion word is written. -/
  | copyCommandCompletion (cluster index : Nat)
  /-- FOLLOW_ON_OFFER (R313): The follow-on MMA is tested each cycle against the tile version and is accepted, waits or is refused. -/
  | followOnOffer (cluster index : Nat)
  /-- GZLATCH (R336): Latches the warp breakpoints of an IDLE strip from the latest or default gaze and captures its deadline. -/
  | gzlatch (o : EEng)
  /-- VWARP.proj (R338): Projects a vertex through the view's matrix to 1/256-pixel coordinates. -/
  | vwarpProj (o : EEng)
  /-- VWARP.pos (R339): Gives the display position and spacing of a warped-grid cell. -/
  | vwarpPos (o : EEng)
  /-- VWARP.geom (R339): Gives the strip's latched grid geometry. -/
  | vwarpGeom (o : EEng)
  /-- RTRI (R340): Sets up a triangle slot and writes a setup status. -/
  | rtri (o : EEng)
  /-- RWALK (R344): Walks a triangle slot from a token, giving covered cells to lanes. -/
  | rwalk (o : EEng)
  /-- RASTER_WALK_COMPLETION (R343): RWALK's lane results and output token are written and XC falls. -/
  | rasterWalkCompletion (group op : Nat)
  /-- LRES (R350): Resamples a view tile through the lens model into display pixels. -/
  | lres (o : EEng)
  /-- LRES_COMPLETION (R349): LRES results are written and XC falls. -/
  | lresCompletion (group op : Nat)
  /-- TEMIT (R353): Hands a view's strip payload over to the display serialiser. -/
  | temit (o : EEng)
  /-- STRIP_PACKET_TRANSMISSION (R354): The serialiser sends a handed-over view as UDP strip packets and returns the strip to IDLE when every view has gone. -/
  | stripPacketTransmission (set strip view : Nat)
  /-- STRIP_EXPIRY (R351): A latched strip reaches its deadline and moves to FALLBACK. -/
  | stripExpiry (set strip : Nat)
  /-- RTRACE (R372): Starts a ray in each active lane, from a record or a warped cell. -/
  | rtrace (o : EEng)
  /-- RNEXT (R373): Resumes rays stopped at an any-hit event, applying the recorded decision. -/
  | rnext (o : EEng)
  /-- RCOMMIT (R373): Records an any-hit decision for rays in EVENT. -/
  | rcommit (o : EEng)
  /-- RSPAWN (R374): Pushes child rays into the cluster's spawn queue. -/
  | rspawn (o : EEng)
  /-- RPOP (R375): Pops ray records from the spawn queue into lanes. -/
  | rpop (o : EEng)
  /-- RAY_RESULT (R372): A ray reaches an event or ends; its result is written and XC falls when every lane is written. -/
  | rayResult (group op : Nat)
  /-- SPAWN_PUSH (R374): A blocking RSPAWN's waiting record takes a freed queue entry. -/
  | spawnPush (group op : Nat)
  /-- SLEEP_EXPIRY (R106): n cycles after SLEEP, the split becomes READY. -/
  | sleepExpiry (who : SplitRef)
  /-- JOIN_LIMIT (R196): n cycles after JOIN, the split becomes READY past the JOIN. -/
  | joinLimit (who : SplitRef)
  /-- WAIT_CONDITION_HOLDS (R152): A split in WAIT whose condition holds becomes READY past the waiting instruction. -/
  | waitConditionHolds (who : SplitRef)
  /-- SPLIT_MERGE (R158): Resident splits at one PC merge into the lowest-numbered of them. -/
  | splitMerge (group : Nat)
  /-- SPLIT_DEFERRAL (R157): A waiting split is exchanged onto the deferred list while the oldest deferred entry is revived. -/
  | splitDeferral (group : Nat)
  /-- LAUNCH_TAKE (R181): Clove-S takes a pending-launch queue entry of a group, freeing it. -/
  | launchTake (group : Nat)
  /-- BLOCK_START (R185): A block whose bind records are BOUND and whose resources are free starts all its groups in one cycle. -/
  | blockStart (ctx launch block : Nat)
  /-- LAUNCH_COMPLETION (R175): An instance or launch completes: its writes are released and the completion counter is incremented. -/
  | launchCompletion (ctx launch : Nat)
  /-- BLOCK_SAVE (R394): Clove-S saves a block part to the save area for pre-emption, slot stream-out or SWAITG .yield. -/
  | blockSave (block : Nat) (why : SaveWhy)
  /-- BLOCK_RESTORE (R397): A saved block is restored and rebound, keeping its architectural state. -/
  | blockRestore (block : Nat) (place : Place)
  /-- MIGRATION (R405): Clove-S moves a block from a hot cluster to a cooler one by save and restore. -/
  | migration (block : Nat) (place : Place)
  /-- THERMHR_SAMPLE (R400): Clove-S samples every cluster's heat and current every 10 us. -/
  | thermhrSample (readings : List (BitVec 8 × BitVec 8))
  /-- FSTEP_RAISE (R406): While every busy cluster is over THOT, FSTEP rises by 1 every 100 us. -/
  | fstepRaise
  /-- FSTEP_LOWER (R406): After 1 ms with every cluster at least 5 C below THOT, FSTEP falls by 1. -/
  | fstepLower
  /-- RATIO_LOWER (R406): At FSTEP 6, a cluster over THOT + 10 C for 1 ms has its RATIO lowered. -/
  | ratioLower (cluster : Nat)
  /-- CLUSTER_IDLE (R401): After 1,024 cycles with no issue or engine command, the cluster becomes IDLE. -/
  | clusterIdle (cluster : Nat)
  /-- CLUSTER_ADMISSION (R402): The slew limiter admits the next queued cluster, at most one per 128 cycles. -/
  | clusterAdmission
  /-- FILLER_OPERATION (R403): Freed ALU or engine cycles are filled so that activity falls by at most 1/16 per 64 lane cycles. -/
  | fillerOperation (cluster energy : Nat)
  /-- REFRESH_WINDOW (R227): A weight-store region enters or leaves its refresh window, and delayed reads proceed when it ends. -/
  | refreshWindow (region : Nat)
  /-- STORAGE_ERROR (R433): An ECC error is corrected and counted, or poisons its storage unit. -/
  | storageError (what : StorageUnit) (corrected : Bool)
  /-- SUBMIT (R413): Host command that checks a launch record and launches it, answering with LAUNCHID. -/
  | submit (c : Cmd)
  /-- CTX_CREATE (R413): Host command that creates a context with its heap, trap base, save area and window queue pair. -/
  | ctxCreate (c : Cmd)
  /-- CTX_DESTROY (R415): Host command that destroys a context as a failure does and answers when every resource is released. -/
  | ctxDestroy (c : Cmd)
  /-- MAP (R413): Host command that maps device memory, a window or a weight-store grant. -/
  | map (c : Cmd)
  /-- UNMAP (R413): Host command that removes mappings of a TYPE in a range, in the order of R212. -/
  | unmap (c : Cmd)
  /-- SYNCSUM (R417): Host command that returns a summary of the device at one instant. -/
  | syncsum (c : Cmd)
  /-- XLATE (R413): Host command that reports the translation of a VA, optionally faulting it in. -/
  | xlate (c : Cmd)
  /-- VSET (R331): Host command that loads or reloads a view set with its descriptor and route table. -/
  | vset (c : Cmd)
  /-- VSET_UNBIND (R352): Host command that unbinds a view set once every strip is IDLE. -/
  | vsetUnbind (c : Cmd)
  /-- WSMODE_LOAD (R425): Host command that puts the weight store in LOAD mode after reads in flight drain. -/
  | wsmodeLoad (c : Cmd)
  /-- WSMODE_READ (R226): Host command that invalidates cached weight-store lines and returns the store to READ. -/
  | wsmodeRead (c : Cmd)
  /-- CONFIG (R413): Host command that sets DEVICEID, THOT, the remote timeout and ETS weights. -/
  | config (c : Cmd)
  /-- PORTCFG (R410): Host command that configures a subport's addresses, VLAN and MTU. -/
  | portcfg (c : Cmd)
  /-- FLASH_BEGIN (R429): Opens a firmware update of a slot that is not running and erases it. -/
  | flashBegin (c : Cmd)
  /-- FLASH_WRITE (R429): Writes firmware data at the next offset of the open slot. -/
  | flashWrite (c : Cmd)
  /-- FLASH_COMMIT (R429): Checks the written image and gives its slot a new generation. -/
  | flashCommit (c : Cmd)
  /-- GAZE_PACKET (R333): A gaze UDP datagram is accepted into the latest gaze of each set on its port, or dropped and counted. -/
  | gazePacket (port : BitVec 16) (payload : List Byte)
  /-- RDMA_WRITE (R411): An inbound RoCEv2 write to a context's VA or to the weight store, checked by its key. -/
  | rdmaWrite (q : Nat) (key : Word) (src : BitVec 128) (addr : BitVec 64) (data : List Byte)
  /-- RDMA_READ (R411): An inbound RoCEv2 read of a context's VA. -/
  | rdmaRead (q : Nat) (key : Word) (src : BitVec 128) (addr : BitVec 64) (len : Nat)
  /-- RDMA_COMPARE_AND_SWAP (R411): An inbound 8-byte RoCEv2 compare-and-swap. -/
  | rdmaCompareAndSwap (q : Nat) (key : Word) (src : BitVec 128) (addr compare swap : BitVec 64)
  /-- RDMA_FETCH_AND_ADD (R411): An inbound 8-byte RoCEv2 fetch-and-add. -/
  | rdmaFetchAndAdd (q : Nat) (key : Word) (src : BitVec 128) (addr operand : BitVec 64)
  /-- JARIAN_ATOMIC_REQUEST (R421): An inbound Jarian atomic message is performed at the home slice at scope .fab and answered. -/
  | jarianAtomicRequest (q : Nat) (src : BitVec 128) (payload : List Byte)
  /-- JARIAN_ATOMIC_RESPONSE (R421): The response to an outbound Jarian atomic arrives and acknowledges the access. -/
  | jarianAtomicResponse (q : Nat) (payload : List Byte)
  /-- WINDOW_ACKNOWLEDGEMENT (R420): The target acknowledges a window load or store, completing its lanes. -/
  | windowAcknowledgement (request : Nat) (data : List Byte)
  /-- REMOTE_TIMEOUT (R423): A window access gets no acknowledgement within the remote timeout. -/
  | remoteTimeout (request : Nat)
  /-- CM_REQ (R431): An IBTA connection request sets up a queue pair and, with the attestation prefix, returns a signed report. -/
  | cmReq (q : Nat) (kind : QKind) (priv : List Byte)
  /-- LINK_UP (R410): A subport's link comes up and takes its IPv6 link-local address with duplicate address detection. -/
  | linkUp (port sub : Nat) (duplicate : Bool)
  /-- LINK_DOWN (R356): A subport's link goes down; strip packets for it are dropped and counted. -/
  | linkDown (port sub : Nat)
  /-- ARP_REQUEST (R410): The module answers ARP for its own addresses. -/
  | arpRequest (port sub : Nat) (vlan : BitVec 12) (target : BitVec 32)
  /-- NEIGHBOUR_SOLICITATION (R410): The module answers IPv6 neighbour solicitations for its own addresses. -/
  | neighbourSolicitation (port sub : Nat) (vlan : BitVec 12) (target : BitVec 128)
  /-- PFC_PAUSE (R409): An 802.1Qbb PFC frame pauses or resumes a priority of the egress port. -/
  | pfcPause (port sub : Nat) (paused : BitVec 8)
  /-- UNACCEPTED_FRAME (R409): A frame that no supported layer accepts, or an IP fragment, is dropped and counted. -/
  | unacceptedFrame (port : Nat) (fragment : Bool)
  /-- POWER_ON (R426): The module boots through firmware check, training, self-test and port bring-up. -/
  | powerOn (test : SelfTest)
  /-- HARDWARE_TRIP (R436): A sensor at 120 C or more, or over-power for 1 ms, stops everything until a power cycle. -/
  | hardwareTrip
  /-- ILLEGAL_OPCODE (R55): A fetched word whose opcode is unassigned in its class traps ILLEGAL_OPCODE. -/
  | illegalOpcode (w : Word)
  /-- MALFORMED_MESSAGE (R412): A command message with a wrong MAGIC, VERS or LEN, or an unassigned OP, is answered with status 1 and not performed. -/
  | malformedMessage (q : Nat) (message : List Word)
  /-- REMOTE_FAULT (R423): The target answers a window access with a remote-access-error NAK, and the initiating split traps REMOTE_FAULT. -/
  | remoteFault (request : Nat)
  /-- BIND_RECORD (R184): Clove-S writes a bind record into an EMPTY slot-table entry, making it BOUND, or clears a DONE entry to EMPTY. -/
  | bindRecord (core entry ctx : Nat) (record : Option BindRecord)
  /-- VADD.I32 (R122): Vector integer add. -/
  | vaddI32 (o : V96)
  /-- VSUB.I32 (R122): Vector integer subtract. -/
  | vsubI32 (o : V96)
  /-- VMULLO.I32 (R122): Low bits of a vector integer product. -/
  | vmulloI32 (o : V96)
  /-- VMULHI.I32 (R122): High 32 bits of a signed vector product. -/
  | vmulhiI32 (o : V96)
  /-- VMULHI.N32 (R122): High 32 bits of an unsigned vector product. -/
  | vmulhiN32 (o : V96)
  /-- VMAD.I32 (R122): Vector integer multiply-add. -/
  | vmadI32 (o : V96)
  /-- VABSDIFF.N32 (R122): Vector unsigned absolute difference. -/
  | vabsdiffN32 (o : V96)
  /-- VMIN.I32 (R122): Vector signed minimum. -/
  | vminI32 (o : V96)
  /-- VMAX.I32 (R122): Vector signed maximum. -/
  | vmaxI32 (o : V96)
  /-- VMIN.N32 (R122): Vector unsigned minimum. -/
  | vminN32 (o : V96)
  /-- VMAX.N32 (R122): Vector unsigned maximum. -/
  | vmaxN32 (o : V96)
  /-- VAND (R122): Vector bitwise AND. -/
  | vand (o : V96)
  /-- VOR (R122): Vector bitwise OR. -/
  | vor (o : V96)
  /-- VXOR (R122): Vector bitwise XOR. -/
  | vxor (o : V96)
  /-- VANDN (R122): Vector a AND NOT b. -/
  | vandn (o : V96)
  /-- VSHL (R123): Vector shift left. -/
  | vshl (o : V96)
  /-- VSHR (R123): Vector logical shift right. -/
  | vshr (o : V96)
  /-- VSRA (R123): Vector arithmetic shift right. -/
  | vsra (o : V96)
  /-- VROTL (R123): Vector rotate left. -/
  | vrotl (o : V96)
  /-- VBFE.N (R124): Vector unsigned bit-field extract. -/
  | vbfeN (o : V96)
  /-- VBFE.I (R124): Vector signed bit-field extract. -/
  | vbfeI (o : V96)
  /-- VBFI (R124): Vector bit-field insert. -/
  | vbfi (o : V96)
  /-- VPOPC (R122): Vector population count. -/
  | vpopc (o : V96)
  /-- VCLZ (R122): Vector count of leading zeros. -/
  | vclz (o : V96)
  /-- VBREV (R122): Vector bit reversal. -/
  | vbrev (o : V96)
  /-- VSEL (R125): Per-lane select of A or B by C. -/
  | vsel (o : V96)
  /-- VADDSAT.I32 (R126): Vector signed saturating add. -/
  | vaddsatI32 (o : V96)
  /-- VADDSAT.N32 (R126): Vector unsigned saturating add. -/
  | vaddsatN32 (o : V96)
  /-- VSUBSAT.I32 (R126): Vector signed saturating subtract. -/
  | vsubsatI32 (o : V96)
  /-- VSUBSAT.N32 (R126): Vector unsigned saturating subtract. -/
  | vsubsatN32 (o : V96)
  /-- VDOT4.I8 (R127): Signed 4 x 8-bit dot product with accumulate. -/
  | vdot4I8 (o : V96)
  /-- VDOT4.N8 (R127): Unsigned 4 x 8-bit dot product with accumulate. -/
  | vdot4N8 (o : V96)
  /-- VADD.I64 (R128): Vector 64-bit add. -/
  | vaddI64 (o : V96)
  /-- VSUB.I64 (R128): Vector 64-bit subtract. -/
  | vsubI64 (o : V96)
  /-- VMULLO.I64 (R128): Low 64 bits of a 64-bit vector product. -/
  | vmulloI64 (o : V96)
  /-- VMULHI.I64 (R128): High 64 bits of a signed 64-bit vector product. -/
  | vmulhiI64 (o : V96)
  /-- VMULHI.N64 (R128): High 64 bits of an unsigned 64-bit vector product. -/
  | vmulhiN64 (o : V96)
  /-- VMIN.I64 (R128): Vector 64-bit signed minimum. -/
  | vminI64 (o : V96)
  /-- VMAX.I64 (R128): Vector 64-bit signed maximum. -/
  | vmaxI64 (o : V96)
  /-- VMIN.N64 (R128): Vector 64-bit unsigned minimum. -/
  | vminN64 (o : V96)
  /-- VMAX.N64 (R128): Vector 64-bit unsigned maximum. -/
  | vmaxN64 (o : V96)
  /-- VSHL.B64 (R128): Vector 64-bit shift left. -/
  | vshlB64 (o : V96)
  /-- VSHR.B64 (R128): Vector 64-bit logical shift right. -/
  | vshrB64 (o : V96)
  /-- VSRA.I64 (R128): Vector 64-bit arithmetic shift right. -/
  | vsraI64 (o : V96)
  /-- VMULW.I32 (R128): Vector signed widening 32 x 32 to 64-bit multiply. -/
  | vmulwI32 (o : V96)
  /-- VMULW.N32 (R128): Vector unsigned widening 32 x 32 to 64-bit multiply. -/
  | vmulwN32 (o : V96)
  /-- VMADW.I32 (R128): Vector signed widening multiply-add into 64 bits. -/
  | vmadwI32 (o : V96)
  /-- VMADW.N32 (R128): Vector unsigned widening multiply-add into 64 bits. -/
  | vmadwN32 (o : V96)
  /-- VCMP.I32 (R129): Signed 32-bit vector compare into a predicate or scalar. -/
  | vcmpI32 (o : V96)
  /-- VCMP.N32 (R129): Unsigned 32-bit vector compare into a predicate or scalar. -/
  | vcmpN32 (o : V96)
  /-- VCMP.I64 (R129): Signed 64-bit vector compare into a predicate or scalar. -/
  | vcmpI64 (o : V96)
  /-- VCMP.N64 (R129): Unsigned 64-bit vector compare into a predicate or scalar. -/
  | vcmpN64 (o : V96)
  /-- VCMP.F32 (R129): F32 vector compare into a predicate or scalar. -/
  | vcmpF32 (o : V96)
  /-- VCMP.F16 (R129): F16 vector compare into a predicate or scalar. -/
  | vcmpF16 (o : V96)
  /-- VCLASS.F32 (R130): Tests the F32 class of A against the mask in B. -/
  | vclassF32 (o : V96)
  /-- VFADD (R131): Vector F32 add. -/
  | vfadd (o : V96)
  /-- VFSUB (R131): Vector F32 subtract. -/
  | vfsub (o : V96)
  /-- VFMUL (R131): Vector F32 multiply. -/
  | vfmul (o : V96)
  /-- VFFMA (R131): Vector F32 fused multiply-add. -/
  | vffma (o : V96)
  /-- VFMIN (R132): Vector F32 minimum that ignores a single NaN. -/
  | vfmin (o : V96)
  /-- VFMAX (R132): Vector F32 maximum that ignores a single NaN. -/
  | vfmax (o : V96)
  /-- VFMINX (R132): Vector F32 minimum that propagates NaN. -/
  | vfminx (o : V96)
  /-- VFMAXX (R132): Vector F32 maximum that propagates NaN. -/
  | vfmaxx (o : V96)
  /-- VFFLOOR (R133): Vector F32 floor. -/
  | vffloor (o : V96)
  /-- VFCEIL (R133): Vector F32 ceiling. -/
  | vfceil (o : V96)
  /-- VFTRUNC (R133): Vector F32 truncation to an integer. -/
  | vftrunc (o : V96)
  /-- VFRINT (R133): Vector F32 round to an integer under the mode. -/
  | vfrint (o : V96)
  /-- VFFRACT (R133): Vector F32 fractional part. -/
  | vffract (o : V96)
  /-- VFLDEXP (R134): Vector F32 a times 2^b. -/
  | vfldexp (o : V96)
  /-- VFSAT (R134): Vector F32 saturate to [0, 1]. -/
  | vfsat (o : V96)
  /-- VHADD.F16 (R135): Packed F16 add. -/
  | vhaddF16 (o : V96)
  /-- VHMUL.F16 (R135): Packed F16 multiply. -/
  | vhmulF16 (o : V96)
  /-- VHFMA.F16 (R135): Packed F16 fused multiply-add. -/
  | vhfmaF16 (o : V96)
  /-- VHMIN.F16 (R135): Packed F16 minimum. -/
  | vhminF16 (o : V96)
  /-- VHMAX.F16 (R135): Packed F16 maximum. -/
  | vhmaxF16 (o : V96)
  /-- VHADD.BF16 (R135): Packed BF16 add. -/
  | vhaddBf16 (o : V96)
  /-- VHMUL.BF16 (R135): Packed BF16 multiply. -/
  | vhmulBf16 (o : V96)
  /-- VHFMA.BF16 (R135): Packed BF16 fused multiply-add. -/
  | vhfmaBf16 (o : V96)
  /-- VFMIX.F16 (R136): F16 product added to F32, rounded to F32. -/
  | vfmixF16 (o : V96)
  /-- VDOT2.F16 (R136): Two-element F16 dot product accumulated in F32. -/
  | vdot2F16 (o : V96)
  /-- VDOT2.BF16 (R136): Two-element BF16 dot product accumulated in F32. -/
  | vdot2Bf16 (o : V96)
  /-- VCADD (R137): Complex F32 add. -/
  | vcadd (o : V96)
  /-- VCSUB (R137): Complex F32 subtract. -/
  | vcsub (o : V96)
  /-- VCMUL (R137): Complex F32 multiply. -/
  | vcmul (o : V96)
  /-- VCFMA (R137): Complex F32 multiply-add. -/
  | vcfma (o : V96)
  /-- VCMULJ (R137): Complex F32 multiply by the conjugate. -/
  | vcmulj (o : V96)
  /-- VCFMAJ (R137): Complex F32 conjugate multiply-add. -/
  | vcfmaj (o : V96)
  /-- VCABS2 (R137): Squared magnitude of a complex F32 value. -/
  | vcabs2 (o : V96)
  /-- VCSCL (R137): Complex F32 value scaled by a real. -/
  | vcscl (o : V96)
  /-- VRCP (R139): Vector reciprocal within 1 ulp. -/
  | vrcp (o : V96)
  /-- VRSQ (R139): Vector reciprocal square root. -/
  | vrsq (o : V96)
  /-- VSQRT (R139): Correctly rounded vector square root. -/
  | vsqrt (o : V96)
  /-- VEXP2 (R139): Vector 2^a. -/
  | vexp2 (o : V96)
  /-- VLOG2 (R139): Vector log2 a. -/
  | vlog2 (o : V96)
  /-- VSINPI (R139): Vector sin(pi a). -/
  | vsinpi (o : V96)
  /-- VCOSPI (R139): Vector cos(pi a). -/
  | vcospi (o : V96)
  /-- VSINCOSPI (R139): Vector pair of sin(pi a) and cos(pi a). -/
  | vsincospi (o : V96)
  /-- VDIV (R139): Correctly rounded vector division. -/
  | vdiv (o : V96)
  /-- VTANH (R139): Vector tanh a. -/
  | vtanh (o : V96)
  /-- VCVT.F32.I32 (R140): Converts I32 to F32. -/
  | vcvtF32I32 (o : V96)
  /-- VCVT.F32.N32 (R140): Converts N32 to F32. -/
  | vcvtF32N32 (o : V96)
  /-- VCVT.I32.F32 (R140): Converts F32 to I32, clamped. -/
  | vcvtI32F32 (o : V96)
  /-- VCVT.N32.F32 (R140): Converts F32 to N32, clamped. -/
  | vcvtN32F32 (o : V96)
  /-- VCVT.F32.F16 (R140): Converts an F16 element to F32. -/
  | vcvtF32F16 (o : V96)
  /-- VCVT.F32.BF16 (R140): Converts a BF16 element to F32. -/
  | vcvtF32Bf16 (o : V96)
  /-- VPACK.F16 (R141): Rounds two F32 values into packed F16. -/
  | vpackF16 (o : V96)
  /-- VPACK.BF16 (R141): Rounds two F32 values into packed BF16. -/
  | vpackBf16 (o : V96)
  /-- VCVT.F32.I64 (R140): Converts I64 to F32. -/
  | vcvtF32I64 (o : V96)
  /-- VCVT.I64.F32 (R140): Converts F32 to I64, clamped. -/
  | vcvtI64F32 (o : V96)
  /-- VCVTN.TO (R142): Encodes an F32 value into one narrow-format slot of vd. -/
  | vcvtnTo (o : V96)
  /-- VCVTN.FROM (R143): Decodes a narrow-format slot into F32. -/
  | vcvtnFrom (o : V96)
  /-- VMXSCALE (R144): Derives an E8M0 block scale from a magnitude and a format word. -/
  | vmxscale (o : V96)
  /-- VMOV (R204): Vector move or shuffle through a route. -/
  | vmov (o : V96)
  /-- VRDLANE (R204): Reads one lane's value of A into a scalar. -/
  | vrdlane (o : V96)
  /-- VWRLANE (R204): Writes A into vd of one lane of each segment. -/
  | vwrlane (o : V96)
  /-- VLANEID (R204): Gives each lane an index value chosen by A. -/
  | vlaneid (o : V96)
  /-- VBSHUF (R146): Byte permute of a register pair under control bytes. -/
  | vbshuf (o : V96)
  /-- VFUNNEL (R147): Funnel shift of a register pair. -/
  | vfunnel (o : V96)
  /-- VRNGRD (R204): Reads, or steps and reads, the lane's random state. -/
  | vrngrd (o : V96)
  /-- VRNGWR (R204): Writes the lane's random state. -/
  | vrngwr (o : V96)
  /-- VBRX (R195): Per-lane indirect branch with landing-pad checks, dividing the split by target. -/
  | vbrx (o : V96)
  /-- VRED.ADD.I32 (R206): Segment integer sum reduction. -/
  | vredAddI32 (o : V96)
  /-- VRED.ADD.F32 (R206): Segment F32 sum reduction in ascending lane order. -/
  | vredAddF32 (o : V96)
  /-- VRED.MIN.I32 (R206): Segment signed minimum reduction. -/
  | vredMinI32 (o : V96)
  /-- VRED.MAX.I32 (R206): Segment signed maximum reduction. -/
  | vredMaxI32 (o : V96)
  /-- VRED.MIN.F32 (R206): Segment F32 minimum reduction. -/
  | vredMinF32 (o : V96)
  /-- VRED.MAX.F32 (R206): Segment F32 maximum reduction. -/
  | vredMaxF32 (o : V96)
  /-- VRED.AND (R206): Segment bitwise AND reduction. -/
  | vredAnd (o : V96)
  /-- VRED.OR (R206): Segment bitwise OR reduction. -/
  | vredOr (o : V96)
  /-- VSCAN.ADD.I32 (R206): Segment inclusive integer sum scan. -/
  | vscanAddI32 (o : V96)
  /-- VSCAN.ADD.F32 (R206): Segment inclusive F32 sum scan. -/
  | vscanAddF32 (o : V96)
  /-- VVOTE.ANY (R207): Segment vote: any participant non-zero. -/
  | vvoteAny (o : V96)
  /-- VVOTE.ALL (R207): Segment vote: all participants non-zero. -/
  | vvoteAll (o : V96)
  /-- VBALLOT (R207): Mask of the segment's participants with non-zero values. -/
  | vballot (o : V96)
  /-- VMATCH (R207): Mask of the segment's participants whose value equals the lane's own. -/
  | vmatch (o : V96)
  /-- VBRANK (R207): Rank of the lane among lower non-zero participants. -/
  | vbrank (o : V96)
  /-- VFIRST (R207): Lowest participant with a non-zero value. -/
  | vfirst (o : V96)
deriving DecidableEq, Repr, Inhabited

/-- An instruction's class, opcode and operand fields (R55): what its words hold; an event has none. -/
inductive IWord where
  | c32 (op : Nat) (o : C32)
  | s64 (op : Nat) (o : S64)
  | v96 (op : Nat) (o : V96)
  | mem (op : Nat) (o : EMem)
  | eng (op : Nat) (o : EEng)
  | other
deriving DecidableEq, Repr, Inhabited

end Sys2Proof
end

