-- ==== Sys2Proof/Machine/Encoding.lean ====
section
/-!
DEFINITION. The opcode maps of R73 to R76: which opcode and operand fields an instruction has, and back. BAR, FENCE and VWARP
share an opcode among their rows and are told apart by kind or mode; SRD of CYCLO is a row of its own (R24, R103).
-/

namespace Sys2Proof.Machine

/-- The opcode map from an instruction to its class, opcode and operand fields; events have no word. -/
def toIWord : Instr → IWord
  | .nop o => .c32 0x0 o
  | .bra o => .c32 0x1 o
  | .brd o => .c32 0x2 o
  | .call o => .c32 0x3 o
  | .ret o => .c32 0x4 o
  | .exit o => .c32 0x5 o
  | .waitc o => .c32 0x6 o
  | .barSync o => .c32 0x7 o
  | .barArrive o => .c32 0x7 o
  | .barWait o => .c32 0x7 o
  | .join o => .c32 0x8 o
  | .yield o => .c32 0x9 o
  | .sleep o => .c32 0xa o
  | .lpad o => .c32 0xb o
  | .trap o => .c32 0xc o
  | .bkpt o => .c32 0xd o
  | .rte o => .c32 0xe o
  | .fenceFull o => .c32 0xf o
  | .fenceAcq o => .c32 0xf o
  | .fenceRel o => .c32 0xf o
  | .segw o => .c32 0x10 o
  | .smov o => .s64 0x0 o
  | .sadd o => .s64 0x1 o
  | .ssub o => .s64 0x2 o
  | .smul o => .s64 0x3 o
  | .smulhiN o => .s64 0x4 o
  | .smulhiI o => .s64 0x5 o
  | .sand o => .s64 0x6 o
  | .sor o => .s64 0x7 o
  | .sxor o => .s64 0x8 o
  | .sandn o => .s64 0x9 o
  | .sshl o => .s64 0xa o
  | .sshr o => .s64 0xb o
  | .ssra o => .s64 0xc o
  | .sminI o => .s64 0xd o
  | .smaxI o => .s64 0xe o
  | .sminN o => .s64 0xf o
  | .smaxN o => .s64 0x10 o
  | .sbfeN o => .s64 0x11 o
  | .sbfeI o => .s64 0x12 o
  | .sbfi o => .s64 0x13 o
  | .spopc o => .s64 0x14 o
  | .sclz o => .s64 0x15 o
  | .sctz o => .s64 0x16 o
  | .sbrev o => .s64 0x17 o
  | .ssel o => .s64 0x18 o
  | .scmpI o => .s64 0x19 o
  | .scmpN o => .s64 0x1a o
  | .saddB64 o => .s64 0x1b o
  | .ssubB64 o => .s64 0x1c o
  | .smulB64 o => .s64 0x1d o
  | .sshlB64 o => .s64 0x1e o
  | .sshrB64 o => .s64 0x1f o
  | .scmpI64 o => .s64 0x20 o
  | .scmpN64 o => .s64 0x21 o
  | .sfadd o => .s64 0x28 o
  | .sfmul o => .s64 0x29 o
  | .sffma o => .s64 0x2a o
  | .sfmin o => .s64 0x2b o
  | .sfmax o => .s64 0x2c o
  | .sfcmp o => .s64 0x2d o
  | .scvtF32I32 o => .s64 0x2e o
  | .scvtI32F32 o => .s64 0x2f o
  | .srcp o => .s64 0x30 o
  | .srd o => .s64 0x38 o
  | .cycloRead o => .s64 0x38 o
  | .swr o => .s64 0x39 o
  | .carveWrite _ _ => .other
  | .carveGrowthDone _ => .other
  | .carveShrinkDone _ => .other
  | .clkratioWrite _ _ => .other
  | .ctxctlGo _ _ => .other
  | .brx o => .s64 0x3a o
  | .callx o => .s64 0x3b o
  | .vacq o => .s64 0x3c o
  | .vrel o => .s64 0x3d o
  | .launch o => .s64 0x3e o
  | .swaitg o => .s64 0x3f o
  | .swaitgPoll _ => .other
  | .sld o => .s64 0x40 o
  | .sst o => .s64 0x41 o
  | .satom o => .s64 0x42 o
  | .ssld o => .s64 0x43 o
  | .ssst o => .s64 0x44 o
  | .waita o => .s64 0x45 o
  | .waitaPoll _ => .other
  | .sacq o => .s64 0x46 o
  | .srel o => .s64 0x47 o
  | .sobind o => .s64 0x48 o
  | .sounbind o => .s64 0x49 o
  | .vaddI32 o => .v96 0x0 o
  | .vsubI32 o => .v96 0x1 o
  | .vmulloI32 o => .v96 0x2 o
  | .vmulhiI32 o => .v96 0x3 o
  | .vmulhiN32 o => .v96 0x4 o
  | .vmadI32 o => .v96 0x5 o
  | .vabsdiffN32 o => .v96 0x6 o
  | .vminI32 o => .v96 0x7 o
  | .vmaxI32 o => .v96 0x8 o
  | .vminN32 o => .v96 0x9 o
  | .vmaxN32 o => .v96 0xa o
  | .vand o => .v96 0xb o
  | .vor o => .v96 0xc o
  | .vxor o => .v96 0xd o
  | .vandn o => .v96 0xe o
  | .vshl o => .v96 0xf o
  | .vshr o => .v96 0x10 o
  | .vsra o => .v96 0x11 o
  | .vrotl o => .v96 0x12 o
  | .vbfeN o => .v96 0x13 o
  | .vbfeI o => .v96 0x14 o
  | .vbfi o => .v96 0x15 o
  | .vpopc o => .v96 0x16 o
  | .vclz o => .v96 0x17 o
  | .vbrev o => .v96 0x18 o
  | .vsel o => .v96 0x19 o
  | .vaddsatI32 o => .v96 0x1a o
  | .vaddsatN32 o => .v96 0x1b o
  | .vsubsatI32 o => .v96 0x1c o
  | .vsubsatN32 o => .v96 0x1d o
  | .vdot4I8 o => .v96 0x1e o
  | .vdot4N8 o => .v96 0x1f o
  | .vaddI64 o => .v96 0x20 o
  | .vsubI64 o => .v96 0x21 o
  | .vmulloI64 o => .v96 0x22 o
  | .vmulhiI64 o => .v96 0x23 o
  | .vmulhiN64 o => .v96 0x24 o
  | .vminI64 o => .v96 0x25 o
  | .vmaxI64 o => .v96 0x26 o
  | .vminN64 o => .v96 0x27 o
  | .vmaxN64 o => .v96 0x28 o
  | .vshlB64 o => .v96 0x29 o
  | .vshrB64 o => .v96 0x2a o
  | .vsraI64 o => .v96 0x2b o
  | .vmulwI32 o => .v96 0x2c o
  | .vmulwN32 o => .v96 0x2d o
  | .vmadwI32 o => .v96 0x2e o
  | .vmadwN32 o => .v96 0x2f o
  | .vcmpI32 o => .v96 0x30 o
  | .vcmpN32 o => .v96 0x31 o
  | .vcmpI64 o => .v96 0x32 o
  | .vcmpN64 o => .v96 0x33 o
  | .vcmpF32 o => .v96 0x34 o
  | .vcmpF16 o => .v96 0x35 o
  | .vclassF32 o => .v96 0x36 o
  | .vfadd o => .v96 0x40 o
  | .vfsub o => .v96 0x41 o
  | .vfmul o => .v96 0x42 o
  | .vffma o => .v96 0x43 o
  | .vfmin o => .v96 0x44 o
  | .vfmax o => .v96 0x45 o
  | .vfminx o => .v96 0x46 o
  | .vfmaxx o => .v96 0x47 o
  | .vffloor o => .v96 0x48 o
  | .vfceil o => .v96 0x49 o
  | .vftrunc o => .v96 0x4a o
  | .vfrint o => .v96 0x4b o
  | .vffract o => .v96 0x4c o
  | .vfldexp o => .v96 0x4d o
  | .vfsat o => .v96 0x4e o
  | .vhaddF16 o => .v96 0x50 o
  | .vhmulF16 o => .v96 0x51 o
  | .vhfmaF16 o => .v96 0x52 o
  | .vhminF16 o => .v96 0x53 o
  | .vhmaxF16 o => .v96 0x54 o
  | .vhaddBf16 o => .v96 0x55 o
  | .vhmulBf16 o => .v96 0x56 o
  | .vhfmaBf16 o => .v96 0x57 o
  | .vfmixF16 o => .v96 0x58 o
  | .vdot2F16 o => .v96 0x59 o
  | .vdot2Bf16 o => .v96 0x5a o
  | .vcadd o => .v96 0x60 o
  | .vcsub o => .v96 0x61 o
  | .vcmul o => .v96 0x62 o
  | .vcfma o => .v96 0x63 o
  | .vcmulj o => .v96 0x64 o
  | .vcfmaj o => .v96 0x65 o
  | .vcabs2 o => .v96 0x66 o
  | .vcscl o => .v96 0x67 o
  | .vrcp o => .v96 0x70 o
  | .vrsq o => .v96 0x71 o
  | .vsqrt o => .v96 0x72 o
  | .vexp2 o => .v96 0x73 o
  | .vlog2 o => .v96 0x74 o
  | .vsinpi o => .v96 0x75 o
  | .vcospi o => .v96 0x76 o
  | .vsincospi o => .v96 0x77 o
  | .vdiv o => .v96 0x78 o
  | .vtanh o => .v96 0x79 o
  | .vcvtF32I32 o => .v96 0x80 o
  | .vcvtF32N32 o => .v96 0x81 o
  | .vcvtI32F32 o => .v96 0x82 o
  | .vcvtN32F32 o => .v96 0x83 o
  | .vcvtF32F16 o => .v96 0x84 o
  | .vcvtF32Bf16 o => .v96 0x85 o
  | .vpackF16 o => .v96 0x86 o
  | .vpackBf16 o => .v96 0x87 o
  | .vcvtF32I64 o => .v96 0x88 o
  | .vcvtI64F32 o => .v96 0x89 o
  | .vcvtnTo o => .v96 0x8a o
  | .vcvtnFrom o => .v96 0x8b o
  | .vmxscale o => .v96 0x8c o
  | .vmov o => .v96 0x90 o
  | .vrdlane o => .v96 0x91 o
  | .vwrlane o => .v96 0x92 o
  | .vlaneid o => .v96 0x93 o
  | .vbshuf o => .v96 0x94 o
  | .vfunnel o => .v96 0x95 o
  | .vrngrd o => .v96 0x96 o
  | .vrngwr o => .v96 0x97 o
  | .vbrx o => .v96 0x98 o
  | .vredAddI32 o => .v96 0xa0 o
  | .vredAddF32 o => .v96 0xa1 o
  | .vredMinI32 o => .v96 0xa2 o
  | .vredMaxI32 o => .v96 0xa3 o
  | .vredMinF32 o => .v96 0xa4 o
  | .vredMaxF32 o => .v96 0xa5 o
  | .vredAnd o => .v96 0xa6 o
  | .vredOr o => .v96 0xa7 o
  | .vscanAddI32 o => .v96 0xa8 o
  | .vscanAddF32 o => .v96 0xa9 o
  | .vvoteAny o => .v96 0xaa o
  | .vvoteAll o => .v96 0xab o
  | .vballot o => .v96 0xac o
  | .vmatch o => .v96 0xad o
  | .vbrank o => .v96 0xae o
  | .vfirst o => .v96 0xaf o
  | .vld o => .mem 0x0 o
  | .vst o => .mem 0x1 o
  | .vatom o => .mem 0x2 o
  | .vsld o => .mem 0x3 o
  | .vsst o => .mem 0x4 o
  | .vsatom o => .mem 0x5 o
  | .vpref o => .mem 0x6 o
  | .vldw o => .mem 0x7 o
  | .memoryCompletion _ _ => .other
  | .cacheEviction _ _ _ => .other
  | .pageFaultService _ _ => .other
  | .replay _ => .other
  | .asyncTrapDelivery _ => .other
  | .tsample o => .eng 0x10 o
  | .tfetch o => .eng 0x11 o
  | .tgather4 o => .eng 0x12 o
  | .tquery o => .eng 0x13 o
  | .trec o => .eng 0x14 o
  | .textureCompletion _ _ => .other
  | .mma o => .eng 0x20 o
  | .mzero o => .eng 0x21 o
  | .mrd o => .eng 0x22 o
  | .mst o => .eng 0x23 o
  | .mld o => .eng 0x24 o
  | .mver o => .eng 0x25 o
  | .mwait o => .eng 0x26 o
  | .matrixCommandCompletion _ _ => .other
  | .cpy o => .eng 0x30 o
  | .cpym o => .eng 0x31 o
  | .cpub o => .eng 0x32 o
  | .cpenc o => .eng 0x33 o
  | .cpdec o => .eng 0x34 o
  | .cprem o => .eng 0x35 o
  | .copyAcceptance _ => .other
  | .copyCommandCompletion _ _ => .other
  | .followOnOffer _ _ => .other
  | .gzlatch o => .eng 0x40 o
  | .vwarpProj o => .eng 0x41 o
  | .vwarpPos o => .eng 0x41 o
  | .vwarpGeom o => .eng 0x41 o
  | .rtri o => .eng 0x42 o
  | .rwalk o => .eng 0x43 o
  | .rasterWalkCompletion _ _ => .other
  | .lres o => .eng 0x44 o
  | .lresCompletion _ _ => .other
  | .temit o => .eng 0x45 o
  | .stripPacketTransmission _ _ _ => .other
  | .stripExpiry _ _ => .other
  | .rtrace o => .eng 0x50 o
  | .rnext o => .eng 0x51 o
  | .rcommit o => .eng 0x52 o
  | .rspawn o => .eng 0x53 o
  | .rpop o => .eng 0x54 o
  | .rayResult _ _ => .other
  | .spawnPush _ _ => .other
  | .sleepExpiry _ => .other
  | .joinLimit _ => .other
  | .waitConditionHolds _ => .other
  | .splitMerge _ => .other
  | .splitDeferral _ => .other
  | .launchTake _ => .other
  | .blockStart _ _ _ => .other
  | .launchCompletion _ _ => .other
  | .blockSave _ _ => .other
  | .blockRestore _ _ => .other
  | .migration _ _ => .other
  | .thermhrSample _ => .other
  | .fstepRaise => .other
  | .fstepLower => .other
  | .ratioLower _ => .other
  | .clusterIdle _ => .other
  | .clusterAdmission => .other
  | .fillerOperation _ _ => .other
  | .refreshWindow _ => .other
  | .storageError _ _ => .other
  | .submit _ => .other
  | .ctxCreate _ => .other
  | .ctxDestroy _ => .other
  | .map _ => .other
  | .unmap _ => .other
  | .syncsum _ => .other
  | .xlate _ => .other
  | .vset _ => .other
  | .vsetUnbind _ => .other
  | .wsmodeLoad _ => .other
  | .wsmodeRead _ => .other
  | .config _ => .other
  | .portcfg _ => .other
  | .flashBegin _ => .other
  | .flashWrite _ => .other
  | .flashCommit _ => .other
  | .gazePacket _ _ => .other
  | .rdmaWrite _ _ _ _ _ => .other
  | .rdmaRead _ _ _ _ _ => .other
  | .rdmaCompareAndSwap _ _ _ _ _ _ => .other
  | .rdmaFetchAndAdd _ _ _ _ _ => .other
  | .jarianAtomicRequest _ _ _ => .other
  | .jarianAtomicResponse _ _ => .other
  | .windowAcknowledgement _ _ => .other
  | .remoteTimeout _ => .other
  | .cmReq _ _ _ => .other
  | .linkUp _ _ _ => .other
  | .linkDown _ _ => .other
  | .arpRequest _ _ _ _ => .other
  | .neighbourSolicitation _ _ _ _ => .other
  | .pfcPause _ _ _ => .other
  | .unacceptedFrame _ _ => .other
  | .powerOn _ => .other
  | .hardwareTrip => .other
  | .illegalOpcode _ => .other
  | .malformedMessage _ _ => .other
  | .remoteFault _ => .other
  | .bindRecord _ _ _ _ => .other

/-- The C32 opcode map. -/
def ofC32 (op : Nat) (o : C32) : Option Instr :=
  match op with
  | 0x0 => some (.nop o)
  | 0x1 => some (.bra o)
  | 0x2 => some (.brd o)
  | 0x3 => some (.call o)
  | 0x4 => some (.ret o)
  | 0x5 => some (.exit o)
  | 0x6 => some (.waitc o)
  | 0x7 => match (o.f >>> 22).toNat with | 1 => some (.barArrive o) | 2 => some (.barWait o) | _ => some (.barSync o)
  | 0x8 => some (.join o)
  | 0x9 => some (.yield o)
  | 0xa => some (.sleep o)
  | 0xb => some (.lpad o)
  | 0xc => some (.trap o)
  | 0xd => some (.bkpt o)
  | 0xe => some (.rte o)
  | 0xf => match (o.f >>> 19).toNat % 4 with | 1 => some (.fenceAcq o) | 2 => some (.fenceRel o) | _ => some (.fenceFull o)
  | 0x10 => some (.segw o)
  | _ => none

/-- The S64 opcode map. -/
def ofS64 (op : Nat) (o : S64) : Option Instr :=
  match op with
  | 0x0 => some (.smov o)
  | 0x1 => some (.sadd o)
  | 0x2 => some (.ssub o)
  | 0x3 => some (.smul o)
  | 0x4 => some (.smulhiN o)
  | 0x5 => some (.smulhiI o)
  | 0x6 => some (.sand o)
  | 0x7 => some (.sor o)
  | 0x8 => some (.sxor o)
  | 0x9 => some (.sandn o)
  | 0xa => some (.sshl o)
  | 0xb => some (.sshr o)
  | 0xc => some (.ssra o)
  | 0xd => some (.sminI o)
  | 0xe => some (.smaxI o)
  | 0xf => some (.sminN o)
  | 0x10 => some (.smaxN o)
  | 0x11 => some (.sbfeN o)
  | 0x12 => some (.sbfeI o)
  | 0x13 => some (.sbfi o)
  | 0x14 => some (.spopc o)
  | 0x15 => some (.sclz o)
  | 0x16 => some (.sctz o)
  | 0x17 => some (.sbrev o)
  | 0x18 => some (.ssel o)
  | 0x19 => some (.scmpI o)
  | 0x1a => some (.scmpN o)
  | 0x1b => some (.saddB64 o)
  | 0x1c => some (.ssubB64 o)
  | 0x1d => some (.smulB64 o)
  | 0x1e => some (.sshlB64 o)
  | 0x1f => some (.sshrB64 o)
  | 0x20 => some (.scmpI64 o)
  | 0x21 => some (.scmpN64 o)
  | 0x28 => some (.sfadd o)
  | 0x29 => some (.sfmul o)
  | 0x2a => some (.sffma o)
  | 0x2b => some (.sfmin o)
  | 0x2c => some (.sfmax o)
  | 0x2d => some (.sfcmp o)
  | 0x2e => some (.scvtF32I32 o)
  | 0x2f => some (.scvtI32F32 o)
  | 0x30 => some (.srcp o)
  | 0x38 => if !o.imm && o.aux.toNat % 256 == 0x20 then some (.cycloRead o) else some (.srd o)
  | 0x39 => some (.swr o)
  | 0x3a => some (.brx o)
  | 0x3b => some (.callx o)
  | 0x3c => some (.vacq o)
  | 0x3d => some (.vrel o)
  | 0x3e => some (.launch o)
  | 0x3f => some (.swaitg o)
  | 0x40 => some (.sld o)
  | 0x41 => some (.sst o)
  | 0x42 => some (.satom o)
  | 0x43 => some (.ssld o)
  | 0x44 => some (.ssst o)
  | 0x45 => some (.waita o)
  | 0x46 => some (.sacq o)
  | 0x47 => some (.srel o)
  | 0x48 => some (.sobind o)
  | 0x49 => some (.sounbind o)
  | _ => none

/-- Part 0 of the V96 opcode map (R75). Not compiled: the constructors stand past the compiler's bound. -/
noncomputable def v96Rows0 : List (Nat × (V96 → Instr)) :=
  [(0x0, .vaddI32), (0x1, .vsubI32), (0x2, .vmulloI32), (0x3, .vmulhiI32), (0x4, .vmulhiN32),
   (0x5, .vmadI32), (0x6, .vabsdiffN32), (0x7, .vminI32), (0x8, .vmaxI32), (0x9, .vminN32),
   (0xa, .vmaxN32), (0xb, .vand), (0xc, .vor), (0xd, .vxor), (0xe, .vandn),
   (0xf, .vshl), (0x10, .vshr), (0x11, .vsra), (0x12, .vrotl), (0x13, .vbfeN),
   (0x14, .vbfeI), (0x15, .vbfi), (0x16, .vpopc), (0x17, .vclz), (0x18, .vbrev),
   (0x19, .vsel), (0x1a, .vaddsatI32), (0x1b, .vaddsatN32), (0x1c, .vsubsatI32), (0x1d, .vsubsatN32),
   (0x1e, .vdot4I8), (0x1f, .vdot4N8), (0x20, .vaddI64), (0x21, .vsubI64), (0x22, .vmulloI64)]
/-- Part 1 of the V96 opcode map (R75). Not compiled: the constructors stand past the compiler's bound. -/
noncomputable def v96Rows1 : List (Nat × (V96 → Instr)) :=
  [(0x23, .vmulhiI64), (0x24, .vmulhiN64), (0x25, .vminI64), (0x26, .vmaxI64), (0x27, .vminN64),
   (0x28, .vmaxN64), (0x29, .vshlB64), (0x2a, .vshrB64), (0x2b, .vsraI64), (0x2c, .vmulwI32),
   (0x2d, .vmulwN32), (0x2e, .vmadwI32), (0x2f, .vmadwN32), (0x30, .vcmpI32), (0x31, .vcmpN32),
   (0x32, .vcmpI64), (0x33, .vcmpN64), (0x34, .vcmpF32), (0x35, .vcmpF16), (0x36, .vclassF32),
   (0x40, .vfadd), (0x41, .vfsub), (0x42, .vfmul), (0x43, .vffma), (0x44, .vfmin),
   (0x45, .vfmax), (0x46, .vfminx), (0x47, .vfmaxx), (0x48, .vffloor), (0x49, .vfceil),
   (0x4a, .vftrunc), (0x4b, .vfrint), (0x4c, .vffract), (0x4d, .vfldexp), (0x4e, .vfsat)]
/-- Part 2 of the V96 opcode map (R75). Not compiled: the constructors stand past the compiler's bound. -/
noncomputable def v96Rows2 : List (Nat × (V96 → Instr)) :=
  [(0x50, .vhaddF16), (0x51, .vhmulF16), (0x52, .vhfmaF16), (0x53, .vhminF16), (0x54, .vhmaxF16),
   (0x55, .vhaddBf16), (0x56, .vhmulBf16), (0x57, .vhfmaBf16), (0x58, .vfmixF16), (0x59, .vdot2F16),
   (0x5a, .vdot2Bf16), (0x60, .vcadd), (0x61, .vcsub), (0x62, .vcmul), (0x63, .vcfma),
   (0x64, .vcmulj), (0x65, .vcfmaj), (0x66, .vcabs2), (0x67, .vcscl), (0x70, .vrcp),
   (0x71, .vrsq), (0x72, .vsqrt), (0x73, .vexp2), (0x74, .vlog2), (0x75, .vsinpi),
   (0x76, .vcospi), (0x77, .vsincospi), (0x78, .vdiv), (0x79, .vtanh), (0x80, .vcvtF32I32),
   (0x81, .vcvtF32N32), (0x82, .vcvtI32F32), (0x83, .vcvtN32F32), (0x84, .vcvtF32F16), (0x85, .vcvtF32Bf16)]
/-- Part 3 of the V96 opcode map (R75). Not compiled: the constructors stand past the compiler's bound. -/
noncomputable def v96Rows3 : List (Nat × (V96 → Instr)) :=
  [(0x86, .vpackF16), (0x87, .vpackBf16), (0x88, .vcvtF32I64), (0x89, .vcvtI64F32), (0x8a, .vcvtnTo),
   (0x8b, .vcvtnFrom), (0x8c, .vmxscale), (0x90, .vmov), (0x91, .vrdlane), (0x92, .vwrlane),
   (0x93, .vlaneid), (0x94, .vbshuf), (0x95, .vfunnel), (0x96, .vrngrd), (0x97, .vrngwr),
   (0x98, .vbrx), (0xa0, .vredAddI32), (0xa1, .vredAddF32), (0xa2, .vredMinI32), (0xa3, .vredMaxI32),
   (0xa4, .vredMinF32), (0xa5, .vredMaxF32), (0xa6, .vredAnd), (0xa7, .vredOr), (0xa8, .vscanAddI32),
   (0xa9, .vscanAddF32), (0xaa, .vvoteAny), (0xab, .vvoteAll), (0xac, .vballot), (0xad, .vmatch),
   (0xae, .vbrank), (0xaf, .vfirst)]
/-- The V96 opcode map (R75). -/
noncomputable def v96Rows : List (Nat × (V96 → Instr)) := v96Rows0 ++ (v96Rows1 ++ (v96Rows2 ++ (v96Rows3)))
noncomputable def ofV96 (op : Nat) (o : V96) : Option Instr := (v96Rows.lookup op).map fun f => f o

/-- The EMEM opcode map. -/
def ofMem (op : Nat) (o : EMem) : Option Instr :=
  match op with
  | 0x0 => some (.vld o)
  | 0x1 => some (.vst o)
  | 0x2 => some (.vatom o)
  | 0x3 => some (.vsld o)
  | 0x4 => some (.vsst o)
  | 0x5 => some (.vsatom o)
  | 0x6 => some (.vpref o)
  | 0x7 => some (.vldw o)
  | _ => none

/-- The EENG opcode map. -/
def ofEng (op : Nat) (o : EEng) : Option Instr :=
  match op with
  | 0x10 => some (.tsample o)
  | 0x11 => some (.tfetch o)
  | 0x12 => some (.tgather4 o)
  | 0x13 => some (.tquery o)
  | 0x14 => some (.trec o)
  | 0x20 => some (.mma o)
  | 0x21 => some (.mzero o)
  | 0x22 => some (.mrd o)
  | 0x23 => some (.mst o)
  | 0x24 => some (.mld o)
  | 0x25 => some (.mver o)
  | 0x26 => some (.mwait o)
  | 0x30 => some (.cpy o)
  | 0x31 => some (.cpym o)
  | 0x32 => some (.cpub o)
  | 0x33 => some (.cpenc o)
  | 0x34 => some (.cpdec o)
  | 0x35 => some (.cprem o)
  | 0x40 => some (.gzlatch o)
  | 0x41 => match o.sub.toNat % 4 with | 1 => some (.vwarpPos o) | 2 => some (.vwarpGeom o) | _ => some (.vwarpProj o)
  | 0x42 => some (.rtri o)
  | 0x43 => some (.rwalk o)
  | 0x44 => some (.lres o)
  | 0x45 => some (.temit o)
  | 0x50 => some (.rtrace o)
  | 0x51 => some (.rnext o)
  | 0x52 => some (.rcommit o)
  | 0x53 => some (.rspawn o)
  | 0x54 => some (.rpop o)
  | _ => none

/-- The instruction of a word's fields; none where the opcode is unassigned (R55). -/
noncomputable def instrOf : IWord → Option Instr
  | .c32 op o => ofC32 op o
  | .s64 op o => ofS64 op o
  | .v96 op o => ofV96 op o
  | .mem op o => ofMem op o
  | .eng op o => ofEng op o
  | .other => none

end Sys2Proof.Machine
end

