-- ==== Sys2Proof/Machine/OperandRules.lean ====
section
/-!
DEFINITION. Step 4 of R56 for the classes C32, S64 and V96: reserved values, unused fields and operand rules, as far as the
instruction's words decide them (R57 to R69, R83 to R112, R114 to R147, R194 to R207, R247).
-/

namespace Sys2Proof.Machine

/-! ## C32 (R58) -/

/-- Bits [hi:lo] of a C32 operand field. -/
def c32Bits (o : C32) (hi lo : Nat) : Nat := field o.f.toNat hi lo

/-- The operand rules of R58, by opcode. -/
def c32Ok (op : Nat) (o : C32) : Bool :=
  match op with
  | 0x01 => c32Bits o 23 23 == 1 || c32Bits o 22 20 == 0
  | 0x02 | 0x06 => true
  | 0x03 => c32Bits o 23 20 == 0
  | 0x07 => c32Bits o 23 22 != 3 && c32Bits o 17 16 == 0 && (c32Bits o 23 22 != 2 || c32Bits o 15 0 == 0)
  | 0x08 | 0x0A | 0x0B | 0x0D => c32Bits o 23 16 == 0
  | 0x0C => c32Bits o 23 8 == 0
  | 0x0F => c32Bits o 23 21 != 0 && c32Bits o 23 21 != 7 && c32Bits o 20 19 != 3 && c32Bits o 18 15 != 0 && c32Bits o 14 0 == 0
  | 0x10 => c32Bits o 23 3 == 0 && decide (1 ≤ c32Bits o 2 0) && decide (c32Bits o 2 0 ≤ 5)
  | _ => o.f == 0

/-! ## S64 (R60, R61) -/

/-- A selector that a source accepts (R61). -/
def sSrcOk (n : Nat) : Bool := decide (n ≤ 392) || decide (448 ≤ n ∧ n ≤ 511)
/-- A selector that sd accepts: a scalar or a predicate (R61). -/
def sDstOk (n : Nat) : Bool := decide (n < 392)
def sRegOk (n : Nat) : Bool := decide (n < 384)
/-- A pair operand: an even s-register (R17, R61). -/
def sPairOk (n : Nat) : Bool := decide (n < 384) && n % 2 == 0
/-- The first scalar of a record's quad (R27). -/
def sQuadOk (n : Nat) : Bool := decide (n < 384) && n % 4 == 0
def sInline (n : Nat) : Bool := decide (448 ≤ n ∧ n ≤ 511)
/-- imm32 of R60. -/
def simm32 (o : S64) : Word := o.aux ++ o.sc ++ o.sb

/-- A sub-op of R241 with a width it lists. -/
def atomOk (sub width : Nat) : Bool :=
  match sub with
  | 0x1 | 0xD => width == 2
  | 0xB => false
  | _ => width == 2 || width == 3
/-- Whether a sub-op returns the old value (R241). -/
def atomReturns (sub : Nat) : Bool := decide (sub < 0xC)

namespace S64Rules
variable (o : S64)
def sd : Nat := o.sd.toNat
def sa : Nat := o.sa.toNat
def sb : Nat := o.sb.toNat
def sc : Nat := o.sc.toNat
def aux : Nat := o.aux.toNat
def noImm : Bool := !o.imm
def cfOn : Bool := nbit o.cf.toNat 2
def cf0 : Bool := o.cf == 0
/-- sb alone, or an immediate; sc and aux14 unused. -/
def second : Bool := o.imm || (sSrcOk (sb o) && sc o == 0 && aux o == 0)
/-- sb a pair or an inline code, or an immediate. -/
def secondPair : Bool := o.imm || ((sPairOk (sb o) || sInline (sb o)) && sc o == 0 && aux o == 0)
def noSecond : Bool := !o.imm && sb o == 0 && sc o == 0
/-- A scalar register aligned for a width code (R246). -/
def regFor (n width : Nat) : Bool :=
  decide (n < 384) && (match width with | 3 => n % 2 == 0 | 4 => n % 4 == 0 | _ => true)
/-- Width, scope, policy and sub-op of aux14 (R246). -/
def mw : Nat := o.aux.toNat % 8
def mscope : Nat := o.aux.toNat / 8 % 8
def mpol : Nat := o.aux.toNat / 64 % 8
def msub : Nat := o.aux.toNat / 512 % 16
/-- sc of a scalar store or atomic: an s-register, or an inline code up to b32. -/
def storeData : Bool := regFor (sc o) (mw o) || (sInline (sc o) && decide (mw o ≤ 2))
def dst : Bool := sDstOk (sd o) && sSrcOk (sa o)
/-- The operand rules by opcode (R85 to R104, R201 to R203, R245 to R253). -/
def ok (op : Nat) : Bool :=
  (cfOn o || cf0 o) &&
  match op with
  | 0x00 => sDstOk (sd o) && sa o == 0 && second o
  | 0x13 => dst o && (o.imm || (sSrcOk (sb o) && sSrcOk (sc o) && aux o == 0))
  | 0x14 | 0x15 | 0x16 | 0x17 => dst o && noSecond o && aux o == 0
  | 0x18 => dst o && noImm o && sSrcOk (sb o) && sc o == 0 && decide (aux o < 4)
  | 0x19 | 0x1A => decide (sd o < 6) && sSrcOk (sa o) && second o && cfOn o
  | 0x1B | 0x1C | 0x1D => sPairOk (sd o) && sPairOk (sa o) && secondPair o
  | 0x1E | 0x1F => sPairOk (sd o) && sPairOk (sa o) && second o
  | 0x20 | 0x21 => decide (sd o < 6) && sPairOk (sa o) && secondPair o && cfOn o
  | 0x28 | 0x29 => dst o && (o.imm || (sSrcOk (sb o) && sc o == 0 && decide (aux o < 7)))
  | 0x2A => dst o && (o.imm || (sSrcOk (sb o) && sSrcOk (sc o) && decide (aux o < 7)))
  | 0x2D => decide (sd o < 8) && sSrcOk (sa o) && second o && cfOn o
  | 0x2E | 0x2F | 0x30 => dst o && noSecond o && decide (aux o < 7)
  | 0x38 => sDstOk (sd o) && sa o == 0 && noSecond o && decide (aux o < 256)
  | 0x39 => sd o == 0 && sSrcOk (sa o) && noSecond o && decide (aux o < 256) && cf0 o
  | 0x3A | 0x3B =>
    sd o == 0 && sPairOk (sa o) && cf0 o &&
      (if o.imm then wfield (simm32 o) 31 16 == 0 else sSrcOk (sb o) && sc o == 0 && aux o == 0)
  | 0x3C =>
    noImm o && (sRegOk (sb o) || decide (464 ≤ sb o ∧ sb o ≤ 479)) && sd o == 0 && sa o == 0 && sc o == 0 &&
      decide (aux o < 2) && (aux o == 0 || cfOn o)
  | 0x3D =>
    noImm o && (sRegOk (sb o) || decide (464 ≤ sb o ∧ sb o ≤ 479)) && sd o == 0 && sa o == 0 && sc o == 0 &&
      aux o == 0 && cf0 o
  | 0x3E => sRegOk (sd o) && sPairOk (sa o) && noSecond o && decide (aux o < 2)
  | 0x3F =>
    sDstOk (sd o) && sQuadOk (sa o) && noImm o && sSrcOk (sb o) && sc o == 0 && decide (aux o < 16) &&
      decide (1 ≤ aux o % 8 ∧ aux o % 8 ≤ 6)
  | 0x40 | 0x43 =>
    sQuadOk (sa o) && cf0 o &&
      (if o.imm then regFor (sd o) 2
       else sSrcOk (sb o) && sc o == 0 && decide (mw o ≤ 4) && regFor (sd o) (mw o) && decide (aux o < 512) &&
         (if op = 0x40 then decide (mscope o ≤ 6) && decide (mpol o ≤ 4) else mscope o == 0 && mpol o == 0))
  | 0x41 | 0x44 =>
    sQuadOk (sa o) && cf0 o && noImm o && sSrcOk (sb o) && decide (mw o ≤ 4) && storeData o && sd o == 0 &&
      decide (aux o < 512) && (if op = 0x41 then decide (mscope o ≤ 6) && decide (mpol o ≤ 4) else mscope o == 0 && mpol o == 0)
  | 0x42 =>
    sQuadOk (sa o) && cf0 o && noImm o && sSrcOk (sb o) && atomOk (msub o) (mw o) && storeData o &&
      decide (1 ≤ mscope o ∧ mscope o ≤ 6) && decide (mpol o ≤ 4) && decide (aux o < 8192) &&
      (if atomReturns (msub o) then regFor (sd o) (mw o) else sd o == 0)
  | 0x45 =>
    sQuadOk (sa o) && noImm o && sSrcOk (sb o) && sc o == 0 && sDstOk (sd o) && decide (aux o < 16) && aux o % 8 != 7
  | 0x46 | 0x47 =>
    noSecond o && decide (aux o < 16) && sDstOk (sd o) &&
      (if 8 ≤ aux o then decide (1 ≤ aux o % 8 ∧ aux o % 8 ≤ 6) && sa o == 0 && (op == 0x46 || (sd o == 0 && cf0 o))
       else aux o == 0 && sPairOk (sa o))
  | 0x48 => noImm o && sPairOk (sa o) && sPairOk (sb o) && sSrcOk (sc o) && aux o == 0 && sDstOk (sd o)
  | 0x49 => sPairOk (sa o) && noSecond o && aux o == 0 && sDstOk (sd o)
  | _ => dst o && second o
end S64Rules

/-! ## V96 (R62 to R69) -/

/-- The element type of a source (R66, R68). -/
inductive VTy where
  | i | n | b | f | h | g
deriving DecidableEq, Repr, Inhabited

/-- Which selectors a source accepts besides the rules of R64. -/
inductive VSpecial where
  | any
  /-- v-register with route 0 (VRDLANE). -/
  | vreg
  /-- An s-register that holds a format word, without modifiers (R142). -/
  | fmt
  /-- An inline integer or an s-register (the slot of R142). -/
  | slot
  /-- An s-register or an inline integer 0 to 31, without modifiers (R195, R204). -/
  | lane
  /-- An inline integer 0 to k, without modifiers (R204). -/
  | upTo (k : Nat)
  /-- An even v-register or s-register pair (R195). -/
  | target
deriving DecidableEq, Repr, Inhabited

/-- What a source of an instruction is. `packed`: its elements are those of ew; `zeroOnly`: element code 0 only. -/
structure VSrcSig where
  ty : VTy
  pair : Bool := false
  packed : Bool := false
  zeroOnly : Bool := false
  special : VSpecial := .any
deriving DecidableEq, Repr, Inhabited

/-- The rounding field's rule (R63, R91, R117). -/
inductive VRnd where
  | zero | round | noStoch | icond | fcond
deriving DecidableEq, Repr, Inhabited

/-- The destination: 32-bit, pair, scalar or predicate through C, s-register through C, none. -/
inductive VDst where
  | v32 | v64 | sp | sOnly | none
deriving DecidableEq, Repr, Inhabited

/-- The operand signature of a V96 instruction. `old`: the old vd is read as well (R119). -/
structure VSig where
  ews : List Nat
  rnd : VRnd
  dst : VDst
  a : Option VSrcSig
  b : Option VSrcSig
  c : Option VSrcSig
  old : Bool := false
deriving DecidableEq, Repr, Inhabited

def srcI : VSrcSig := { ty := .i }
def srcN : VSrcSig := { ty := .n }
def srcB : VSrcSig := { ty := .b }
def srcF : VSrcSig := { ty := .f }
def srcPk (t : VTy) : VSrcSig := { ty := t, packed := true }
def src64 (t : VTy) : VSrcSig := { ty := t, pair := true, zeroOnly := true }
def src0 (t : VTy) : VSrcSig := { ty := t, zeroOnly := true }
def allEw : List Nat := [0, 1, 2, 3]

/-- Two packed sources of one type. -/
def sigPk (t : VTy) (ews : List Nat) : VSig :=
  { ews := ews, rnd := .zero, dst := .v32, a := some (srcPk t), b := some (srcPk t), c := none }
/-- Unpacked sources with ew 0. -/
def sig32 (rnd : VRnd) (a : VSrcSig) (b c : Option VSrcSig) : VSig :=
  { ews := [0], rnd := rnd, dst := .v32, a := some a, b := b, c := c }
def sig64 (rnd : VRnd) (a : VSrcSig) (b c : Option VSrcSig) : VSig :=
  { ews := [0], rnd := rnd, dst := .v64, a := some a, b := b, c := c }
/-- The bitwise operations, whose ew selects element modifiers only (R122). -/
def sigBits : VSig := { ews := allEw, rnd := .zero, dst := .v32, a := some srcB, b := some srcB, c := none }
def sigCmp (ew : Nat) (rnd : VRnd) (x y : VSrcSig) : VSig :=
  { ews := [ew], rnd := rnd, dst := .sp, a := some x, b := some y, c := none }
/-- Packed F16 or BF16 with ew 1. -/
def sigH (t : VTy) (rnd : VRnd) (three : Bool) : VSig :=
  { ews := [1], rnd := rnd, dst := .v32, a := some (srcPk t), b := some (srcPk t), c := if three then some (srcPk t) else none }
/-- Two 16-bit element sources with an F32 C (R136). -/
def sigMix (t : VTy) : VSig :=
  { ews := [1], rnd := .round, dst := .v32, a := some (srcPk t), b := some (srcPk t), c := some srcF }
def sigLane (special : VSpecial) : VSrcSig := { ty := .n, special := special }

/-- The signatures of opcodes 0x00 to 0x36 (R122 to R130). -/
def vsigInt (op : Nat) : Option VSig :=
  match op with
  | 0x00 | 0x01 | 0x07 | 0x08 | 0x1A | 0x1C => some (sigPk .i allEw)
  | 0x02 => some (sigPk .i [0, 1])
  | 0x03 => some (sig32 .zero srcI (some srcI) none)
  | 0x04 => some (sig32 .zero srcN (some srcN) none)
  | 0x05 => some (sig32 .zero srcI (some srcI) (some srcI))
  | 0x06 | 0x09 | 0x0A | 0x0F | 0x10 | 0x1B | 0x1D => some (sigPk .n allEw)
  | 0x0B | 0x0C | 0x0D | 0x0E => some sigBits
  | 0x11 => some (sigPk .i allEw)
  | 0x12 | 0x13 => some (sig32 .zero srcN (some srcN) none)
  | 0x14 => some (sig32 .zero srcI (some srcI) none)
  | 0x15 => some (sig32 .zero srcN (some srcN) (some srcN))
  | 0x16 | 0x17 | 0x18 => some (sig32 .zero srcN none none)
  | 0x19 => some (sig32 .zero srcB (some srcB) (some srcB))
  | 0x1E => some { sigPk .i [2] with c := some srcI }
  | 0x1F => some { sigPk .n [2] with c := some srcN }
  | 0x20 | 0x21 | 0x22 | 0x23 | 0x25 | 0x26 => some (sig64 .zero (src64 .i) (some (src64 .i)) none)
  | 0x24 | 0x27 | 0x28 => some (sig64 .zero (src64 .n) (some (src64 .n)) none)
  | 0x29 | 0x2A => some (sig64 .zero (src64 .b) (some (src0 .b)) none)
  | 0x2B => some (sig64 .zero (src64 .i) (some (src0 .i)) none)
  | 0x2C => some (sig64 .zero srcI (some srcI) none)
  | 0x2D => some (sig64 .zero srcN (some srcN) none)
  | 0x2E => some (sig64 .zero srcI (some srcI) (some (src64 .i)))
  | 0x2F => some (sig64 .zero srcN (some srcN) (some (src64 .n)))
  | 0x30 => some (sigCmp 0 .icond srcI srcI)
  | 0x31 => some (sigCmp 0 .icond srcN srcN)
  | 0x32 => some (sigCmp 0 .icond (src64 .i) (src64 .i))
  | 0x33 => some (sigCmp 0 .icond (src64 .n) (src64 .n))
  | 0x34 => some (sigCmp 0 .fcond srcF srcF)
  | 0x35 => some (sigCmp 1 .fcond (srcPk .h) (srcPk .h))
  | 0x36 => some (sigCmp 0 .zero srcF srcN)
  | _ => none

/-- The signatures of opcodes 0x40 to 0x79 (R131 to R139). VSINCOSPI is a 32-bit operation with a pair of results, whose source takes the
element codes of one (DEDUCED, log 24). -/
def vsigFloat (op : Nat) : Option VSig :=
  match op with
  | 0x40 | 0x41 | 0x42 => some (sig32 .round srcF (some srcF) none)
  | 0x43 => some (sig32 .round srcF (some srcF) (some srcF))
  | 0x44 | 0x45 | 0x46 | 0x47 => some (sig32 .zero srcF (some srcF) none)
  | 0x4B => some (sig32 .round srcF none none)
  | 0x48 | 0x49 | 0x4A | 0x4C | 0x4E => some (sig32 .zero srcF none none)
  | 0x4D => some (sig32 .round srcF (some srcI) none)
  | 0x50 | 0x51 => some (sigH .h .round false)
  | 0x52 => some (sigH .h .round true)
  | 0x53 | 0x54 => some (sigH .h .zero false)
  | 0x55 | 0x56 => some (sigH .g .round false)
  | 0x57 => some (sigH .g .round true)
  | 0x58 | 0x59 => some (sigMix .h)
  | 0x5A => some (sigMix .g)
  | 0x60 | 0x61 | 0x62 | 0x64 => some (sig64 .round (src64 .f) (some (src64 .f)) none)
  | 0x63 | 0x65 => some (sig64 .round (src64 .f) (some (src64 .f)) (some (src64 .f)))
  | 0x66 => some (sig32 .round (src64 .f) none none)
  | 0x67 => some (sig64 .round (src64 .f) (some (src0 .f)) none)
  | 0x70 | 0x71 | 0x73 | 0x74 | 0x75 | 0x76 | 0x79 => some (sig32 .zero srcF none none)
  | 0x72 => some (sig32 .round srcF none none)
  | 0x77 => some (sig64 .zero srcF none none)
  | 0x78 => some (sig32 .round srcF (some srcF) none)
  | _ => none

/-- The signatures of opcodes 0x80 to 0xAF (R140 to R147, R195, R204 to R207). R204 names no type for A of VRDLANE, VWRLANE and VRNGWR: VRDLANE's
is read as bits, as VMOV's is, and that of the other two as an unsigned integer (DEDUCED, log 24). -/
def vsigMove (op : Nat) : Option VSig :=
  match op with
  | 0x80 => some (sig32 .round srcI none none)
  | 0x81 => some (sig32 .round srcN none none)
  | 0x82 | 0x83 => some (sig32 .round srcF none none)
  | 0x84 => some { ews := [1], rnd := .zero, dst := .v32, a := some (srcPk .h), b := none, c := none }
  | 0x85 => some { ews := [1], rnd := .zero, dst := .v32, a := some (srcPk .g), b := none, c := none }
  | 0x86 | 0x87 => some (sig32 .round srcF (some srcF) none)
  | 0x88 => some (sig32 .round (src64 .i) none none)
  | 0x89 => some (sig64 .round (src0 .f) none none)
  | 0x8A => some { sig32 .round srcF (some (sigLane .fmt)) (some (sigLane .slot)) with old := true }
  | 0x8B => some (sig32 .zero (src0 .b) (some (sigLane .fmt)) (some (sigLane .slot)))
  | 0x8C => some (sig32 .zero srcF (some (sigLane .fmt)) none)
  | 0x90 => some (sig32 .zero srcB none none)
  | 0x91 => some { ews := [0], rnd := .zero, dst := .sOnly, a := some { ty := .b, special := .vreg }, b := some (sigLane .lane), c := none }
  | 0x92 => some (sig32 .zero srcN (some (sigLane .lane)) none)
  | 0x93 => some (sig32 .zero (sigLane (.upTo 5)) none none)
  | 0x94 | 0x95 => some (sig32 .zero srcB (some srcB) (some srcB))
  | 0x96 => some (sig32 .zero (sigLane (.upTo 1)) none none)
  | 0x97 => some { sig32 .zero srcN none none with dst := .none }
  | 0x98 =>
    some { ews := [0], rnd := .zero, dst := .none, a := some { ty := .b, pair := true, zeroOnly := true, special := .target },
           b := some (sigLane .lane), c := none }
  | 0xA0 | 0xA2 | 0xA3 | 0xA8 => some (sig32 .zero srcI none none)
  | 0xA1 | 0xA9 => some (sig32 .noStoch srcF none none)
  | 0xA4 | 0xA5 => some (sig32 .zero srcF none none)
  | 0xA6 | 0xA7 | 0xAC | 0xAD | 0xAE | 0xAF => some (sig32 .zero srcB none none)
  | 0xAA | 0xAB => some { sig32 .zero srcB none none with dst := .sp }
  | _ => none

/-- The operand signature of a V96 opcode. -/
def vsig (op : Nat) : Option VSig :=
  if op < 0x40 then vsigInt op else if op < 0x80 then vsigFloat op else vsigMove op

/-- Selector classes of R64. -/
def selV (n : Nat) : Bool := decide (n < 256)
def selB (n : Nat) : Bool := decide (256 ≤ n ∧ n < 264)
def selP (n : Nat) : Bool := decide (264 ≤ n ∧ n < 272)
def selS (n : Nat) : Bool := decide (512 ≤ n ∧ n < 896)
def selI (n : Nat) : Bool := decide (896 ≤ n ∧ n < 960)
def selK (n : Nat) : Bool := decide (960 ≤ n ∧ n < 976)

/-- The route byte's rules (R69). -/
def routeOk (route sel : Nat) : Bool :=
  let mode := route / 32
  mode != 7 && (mode != 0 || route == 0) && (mode == 0 || selV sel || selB sel || selP sel)
/-- The element codes defined at an element width (R68). -/
def elemOk (ty : VTy) (ew code : Nat) : Bool :=
  match ew with
  | 0 => decide (code ≤ if ty == .f then 2 else 6)
  | 1 => decide (code ≤ 3)
  | 2 => decide (code ≤ 5)
  | _ => code == 0
/-- A selector under its signature (R64, R66). The 32-bit amount of a 64-bit shift takes an inline FP constant as its F32 pattern (DEDUCED,
log 24). -/
def selOk (sig : VSrcSig) (ew sel route : Nat) : Bool :=
  (selV sel || selB sel || selP sel || selS sel || selI sel || selK sel) && routeOk route sel &&
  (!sig.pair || ((selV sel && sel % 2 == 0) || (selS sel && sel % 2 == 0) || selI sel || (selK sel && sig.ty == .f))) &&
  (!selK sel || sig.ty == .f || sig.ty == .h || sig.ty == .g || !sig.packed || ew == 0) &&
  match sig.special with
  | .any => true
  | .vreg => selV sel && route == 0
  | .fmt => selS sel
  | .slot => selS sel || selI sel
  | .lane => selS sel || (selI sel && decide (928 ≤ sel))
  | .upTo k => selI sel && decide (928 ≤ sel ∧ sel ≤ 928 + k)
  | .target => selV sel || selS sel
/-- The modifiers of A or B under a signature (R32, R68, R137). -/
def modsOk (sig : VSrcSig) (ew : Nat) (x : VSrc) : Bool :=
  match sig.special with
  | .fmt | .slot | .lane | .upTo _ => x.elem == 0 && !x.abs && !x.neg
  | _ =>
    (if sig.zeroOnly then x.elem == 0 else elemOk sig.ty ew x.elem.toNat) &&
    (sig.ty != .b || (!x.abs && !x.neg)) && (!(sig.pair && sig.ty == .f) || !x.abs)
def vsrcZero (x : VSrc) : Bool := x.route == 0 && !x.abs && !x.neg && x.elem == 0 && x.sel == 0
def vsrcOk (sig : Option VSrcSig) (ew : Nat) (x : VSrc) : Bool :=
  match sig with
  | none => vsrcZero x
  | some g => selOk g ew x.sel.toNat x.route.toNat && modsOk g ew x
def vrndOk (r : VRnd) (code : Nat) : Bool :=
  match r with
  | .zero => code == 0
  | .round => decide (code ≤ 6)
  | .noStoch => decide (code ≤ 5)
  | .icond => decide (code ≤ 5)
  | .fcond => true
/-- The destination fields (R63, R67). -/
def vdstOk (g : VSig) (o : V96) : Bool :=
  match g.dst with
  | .v32 => true
  | .v64 => o.lat == 0 && (o.nw || o.vd.toNat % 2 == 0)
  | .sp => o.vd == 0 && !o.nw && o.lat == 0 && o.cRoute == 0 && (selS o.cSel.toNat || selP o.cSel.toNat)
  | .sOnly => o.vd == 0 && !o.nw && o.lat == 0 && o.cRoute == 0 && selS o.cSel.toNat
  | .none => o.vd == 0 && !o.nw && o.lat == 0
/-- The operand rules of a V96 opcode. -/
def v96Ok (op : Nat) (o : V96) : Bool :=
  match vsig op with
  | none => false
  | some g =>
    let ew := o.ew.toNat
    (o.pe || (o.pi == 0 && !o.pn)) && g.ews.contains ew && vrndOk g.rnd o.rnd.toNat &&
    (o.lat == 0 || decide (4 ≤ o.lat.toNat)) && vdstOk g o &&
    vsrcOk g.a ew o.a && vsrcOk g.b ew o.b &&
    (match g.c with
     | some c => selOk c ew o.cSel.toNat o.cRoute.toNat
     | none => g.dst == .sp || g.dst == .sOnly || (o.cSel == 0 && o.cRoute == 0))

/-- The v-registers that step 7 of R56 checks for a V96 word: sources, PERM index registers, and the destination unless nw (R63). -/
def v96Regs (op : Nat) (o : V96) : List Nat :=
  match vsig op with
  | none => []
  | some g =>
    let src (sig : Option VSrcSig) (sel route : Nat) : List Nat :=
      match sig with
      | none => []
      | some _ => (if selV sel then [sel] else []) ++ (if route / 32 = 4 then [224 + route % 32] else [])
    src g.a o.a.sel.toNat o.a.route.toNat ++ src g.b o.b.sel.toNat o.b.route.toNat ++ src g.c o.cSel.toNat o.cRoute.toNat ++
      (if (g.dst == .v32 || g.dst == .v64) && !o.nw then [o.vd.toNat] else [])
/-- The latches that a V96 word reads, with their kill marks. -/
def v96Latches (op : Nat) (o : V96) : List (Nat × Bool) :=
  match vsig op with
  | none => []
  | some g =>
    let src (sig : Option VSrcSig) (sel : Nat) : List (Nat × Bool) :=
      if sig.isSome && selB sel then [((sel - 256) % 4, decide (260 ≤ sel))] else []
    src g.a o.a.sel.toNat ++ src g.b o.b.sel.toNat ++ src g.c o.cSel.toNat

end Sys2Proof.Machine
end

