-- ==== Sys2Proof/Machine/EngineRules.lean ====
section
/-!
DEFINITION. Step 4 of R56 for the class E96: the fields that each memory and engine instruction uses (R231, R234, and the
operand lists of chapters 12 to 17), the v-registers that step 7 checks, and the rules of all classes together.
-/

namespace Sys2Proof.Machine

/-- A v-register aligned for a width code (R234). -/
def vregFor (n width : Nat) : Bool := match width with | 3 => n % 2 == 0 | 4 => n % 4 == 0 | _ => true

/-- The operand rules of the memory family (R231, R234, R241). -/
def memOk (op : Nat) (o : EMem) : Bool :=
  let w := o.width.toNat
  let scope := o.scope.toNat
  let sub := o.sub.toNat
  (o.pe || (o.pi == 0 && !o.pn)) && decide (o.mode.toNat ≤ 2) && (o.mode == 0 || o.va == 0) &&
  decide (o.policy.toNat ≤ 4) && decide (scope ≤ 6) &&
  (if o.heap then sRegOk o.sa.toNat else sQuadOk o.sa.toNat) &&
  match op with
  | 0 => o.vdat == 0 && o.vb == 0 && decide (w ≤ 4) && sub == 0 && vregFor o.d.toNat w
  | 1 => o.d == 0 && o.vb == 0 && decide (w ≤ 4) && sub == 0 && vregFor o.vdat.toNat w
  | 2 | 5 =>
    atomOk sub w && vregFor o.vdat.toNat w && (if atomReturns sub then vregFor o.d.toNat w else o.d == 0) &&
    (if sub = 0xA then vregFor o.vb.toNat w else o.vb == 0) &&
    (if op = 2 then decide (1 ≤ scope) else scope == 0 && o.policy == 0 && !o.heap)
  | 3 => o.vdat == 0 && o.vb == 0 && decide (w ≤ 4) && sub == 0 && vregFor o.d.toNat w && scope == 0 && o.policy == 0 && !o.heap
  | 4 => o.d == 0 && o.vb == 0 && decide (w ≤ 4) && sub == 0 && vregFor o.vdat.toNat w && scope == 0 && o.policy == 0 && !o.heap
  | 6 => o.d == 0 && o.vdat == 0 && o.vb == 0 && decide (w ≤ 4) && sub == 0 && scope == 0
  | 7 => o.d.toNat % 16 == 0 && o.vdat == 0 && o.vb == 0 && w == 0 && sub == 0
  | _ => false

/-- The v-registers that a memory instruction reads or writes. -/
def memRegs (op : Nat) (o : EMem) : List Nat :=
  (if o.mode == 0 then [o.va.toNat] else []) ++
  match op with
  | 0 | 3 | 7 => [o.d.toNat]
  | 1 | 4 => [o.vdat.toNat]
  | 2 | 5 =>
    [o.vdat.toNat] ++ (if atomReturns o.sub.toNat then [o.d.toNat] else []) ++ (if o.sub.toNat = 0xA then [o.vb.toNat] else [])
  | _ => []
/-- The v-register words whose lanes a memory instruction reads. -/
def memReads (op : Nat) (o : EMem) : List Nat :=
  let wide (n : Nat) : List Nat := (List.range (if o.width = 4 then 4 else if o.width = 3 then 2 else 1)).map (n + ·)
  (if o.mode == 0 then [o.va.toNat] else []) ++
  match op with
  | 1 | 4 => wide o.vdat.toNat
  | 2 | 5 => wide o.vdat.toNat ++ (if o.sub.toNat = 0xA then wide o.vb.toNat else [])
  | _ => []

/-- A single scalar operand: an s-register or an inline code (R289, R325). -/
def oneOk (n : Nat) : Bool := sRegOk n || sInline n
/-- The sub-op bits of an engine word, and its immediate. -/
def eSub (o : EEng) (hi lo : Nat) : Nat := field o.sub.toNat hi lo
def eImm (o : EEng) (hi lo : Nat) : Nat := wfield o.imm hi lo
def eNoPred (o : EEng) : Bool := !o.pe && o.pi == 0 && !o.pn
def ePred (o : EEng) : Bool := o.pe || (o.pi == 0 && !o.pn)
def eSa (o : EEng) : Nat := o.sa.toNat
def eSb (o : EEng) : Nat := o.sb.toNat
def eSc (o : EEng) : Nat := o.sc.toNat
def eVa (o : EEng) : Nat := o.va.toNat
def eD (o : EEng) : Nat := o.d.toNat
/-- The operand rules of the matrix instructions (R289). -/
def matrixOk (op : Nat) (o : EEng) : Bool :=
  let tile := decide (eD o < 8)
  let none (n : Nat) : Bool := n == 0
  (if op = 0x22 then ePred o else eNoPred o) && o.va == 0 &&
  match op with
  | 0x20 => tile && oneOk (eSa o) && sQuadOk (eSb o) && oneOk (eSc o) && eSub o 5 4 == 0 && o.imm == 0
  | 0x21 => tile && none (eSa o) && (if eSub o 0 0 = 1 then sQuadOk (eSb o) else oneOk (eSb o)) && oneOk (eSc o) &&
      eSub o 5 1 == 0 && o.imm == 0
  | 0x22 => oneOk (eSa o) && none (eSb o) && oneOk (eSc o) && eSub o 5 2 == 0 && eImm o 31 6 == 0
  | 0x23 => tile && (if eSub o 4 4 = 1 then sQuadOk (eSa o) else oneOk (eSa o)) && decide (eSub o 2 0 ≤ 5) &&
      (if eSub o 2 0 = 4 then oneOk (eSb o) else none (eSb o)) && oneOk (eSc o) && (eSub o 5 5 == 1 || o.imm == 0)
  | 0x24 => tile && (if eSub o 2 2 = 1 then sQuadOk (eSa o) else oneOk (eSa o)) &&
      (if eSub o 3 3 = 1 then oneOk (eSb o) else none (eSb o)) && oneOk (eSc o) && eSub o 5 4 == 0 && o.imm == 0
  | 0x25 => tile && none (eSa o) && sRegOk (eSb o) && none (eSc o) && eSub o 5 1 == 0 && o.imm == 0
  | _ => tile && none (eSa o) && none (eSb o) && oneOk (eSc o) && o.sub == 0 && o.imm == 0

/-- A quad of scalars, or an octet (R302). -/
def sOctOk (n : Nat) : Bool := decide (n < 384) && n % 8 == 0
/-- The operand rules of the copy instructions (R302). -/
def copyOk (op : Nat) (o : EEng) : Bool :=
  let cw := if op = 0x31 then eSub o 4 4 else eSub o 2 2
  eNoPred o && o.va == 0 && sQuadOk (eSa o) && sQuadOk (eSb o) && (cw == 1 || o.imm == 0) &&
  (if op = 0x31 then decide (eD o < 8) else o.d == 0) &&
  match op with
  | 0x30 | 0x35 => oneOk (eSc o) && eSub o 5 4 == 0
  | 0x31 => sOctOk (eSc o)
  | 0x32 => sQuadOk (eSc o) && eSub o 5 4 == 0 && eSub o 1 1 == 0
  | _ => sQuadOk (eSc o) && eSub o 5 4 == 0

/-- The operand rules of the texture instructions (R325). The scalar that sb names for a level is an s-register: R325 states no other selector
codes for it (DEDUCED, log 39). -/
def textureOk (op : Nat) (o : EEng) : Bool :=
  let div := eSub o 5 5 == 1
  let lodm := eSub o 1 0
  o.sc == 0 && oneOk (eSa o) &&
  if op = 0x14 then eNoPred o && o.d == 0 && o.va == 0 && o.sub == 0 && o.imm == 0 && sOctOk (eSb o)
  else
    ePred o && eD o % 4 == 0 && (div || eImm o 31 24 == 0) &&
    if op = 0x13 then sRegOk (eSb o) && o.va == 0 && eSub o 4 0 == 0 && eImm o 23 0 == 0
    else
      eVa o % 4 == 0 && lodm != 3 && (if lodm = 2 then sRegOk (eSb o) else eSb o == 0) && (op == 0x12 || eSub o 4 3 == 0) &&
      eImm o 23 8 == 0
/-- The v-registers that a texture instruction reads in its lanes (R325). -/
def textureReads (op : Nat) (o : EEng) : List Nat :=
  (if eSub o 5 5 = 1 then [eImm o 31 24] else []) ++
  if op = 0x13 ∨ op = 0x14 then []
  else [eVa o, eVa o + 1] ++ (if eSub o 2 2 = 1 then [eVa o + 2] else []) ++ (if eSub o 1 0 = 1 then [eVa o + 3] else [])

/-- The operand rules of the view and display instructions (R336, R337, R340, R343, R349, R353). The strip index of VWARP.pos and .geom is an
s-register or an inline code 448 to 511, as the view index is (DEDUCED, log 39). -/
def viewOk (op : Nat) (o : EEng) : Bool :=
  let mode := eSub o 1 0
  let zero (l : List Nat) : Bool := l.all (· == 0)
  match op with
  | 0x40 => oneOk (eSa o) && sRegOk (eSb o) && eNoPred o && zero [eD o, eSc o, eVa o, o.sub.toNat, o.imm.toNat]
  | 0x41 =>
    ePred o && eD o % 4 == 0 && oneOk (eSa o) && mode != 3 && zero [eSub o 5 2, eSc o, o.imm.toNat] &&
      (if mode = 0 then eSb o == 0 else oneOk (eSb o)) &&
      (if mode = 0 then eVa o % 4 == 0 else mode == 1 || eVa o == 0)
  | 0x42 =>
    decide (eD o < 4) && eNoPred o && sOctOk (eSa o) && sRegOk (eSb o) && mode != 3 && zero [eSub o 5 2, eSc o, eVa o, o.imm.toNat]
  | 0x43 => ePred o && eD o % 4 == 0 && oneOk (eSa o) && sRegOk (eSb o) && zero [eSub o 5 2, eSc o, eVa o, o.imm.toNat]
  | 0x44 => ePred o && eD o % 4 == 0 && sQuadOk (eSa o) && oneOk (eSb o) && zero [eSub o 5 1, eSc o, o.imm.toNat]
  | _ => eNoPred o && sQuadOk (eSa o) && oneOk (eSb o) && sRegOk (eSc o) && mode != 3 && zero [eSub o 5 2, eD o, eVa o, o.imm.toNat]
/-- The v-registers that a view instruction reads in its lanes. -/
def viewReads (op : Nat) (o : EEng) : List Nat :=
  match op with
  | 0x41 => (match eSub o 1 0 with | 0 => [eVa o, eVa o + 1, eVa o + 2, eVa o + 3] | 1 => [eVa o] | _ => [])
  | 0x44 => [eVa o]
  | _ => []

/-- A ray record of nine v-registers (R363). One that would run past v255 is refused, for which no outcome is stated (DESIGN CHOICE, log 24). -/
def rayRegOk (n : Nat) : Bool := n % 4 == 0 && decide (n + 8 < 256)
/-- The operand rules of the ray instructions (R371). -/
def rayOk (op : Nat) (o : EEng) : Bool :=
  let zero (l : List Nat) : Bool := l.all (· == 0)
  let pat := eSub o 0 0 == 1
  let spl := eSub o 1 1 == 1
  ePred o &&
  match op with
  | 0x50 =>
    eD o % 8 == 0 && sQuadOk (eSa o) && (if pat then oneOk (eSb o) else eSb o == 0) && (if spl then sQuadOk (eSc o) else eSc o == 0) &&
      (pat || rayRegOk (eVa o)) && eSub o 5 2 == 0 && eImm o 31 16 == 0 && eImm o 7 4 == 0
  | 0x51 => eD o % 8 == 0 && zero [eSa o, eSb o, eSc o, eVa o, o.sub.toNat, o.imm.toNat]
  | 0x52 => zero [eD o, eSa o, eSb o, eSc o, eVa o, eSub o 5 2, o.imm.toNat]
  | 0x53 => rayRegOk (eVa o) && zero [eSa o, eSb o, eSc o, eSub o 5 1, o.imm.toNat]
  | _ => rayRegOk (eD o) && sRegOk (eSb o) && zero [eSa o, eSc o, eVa o, o.sub.toNat, o.imm.toNat]
/-- The v-registers that a ray instruction reads in its lanes. -/
def rayReads (op : Nat) (o : EEng) : List Nat :=
  match op with
  | 0x50 => if eSub o 0 0 = 1 then [eVa o] else (List.range 9).map (eVa o + ·)
  | 0x53 => (List.range 9).map (eVa o + ·)
  | _ => []

/-- The operand rules of the engine family. -/
def engOk (op : Nat) (o : EEng) : Bool :=
  if 0x20 ≤ op ∧ op ≤ 0x26 then matrixOk op o
  else if 0x30 ≤ op ∧ op ≤ 0x35 then copyOk op o
  else if 0x10 ≤ op ∧ op ≤ 0x14 then textureOk op o
  else if 0x40 ≤ op ∧ op ≤ 0x45 then viewOk op o
  else rayOk op o
/-- The v-registers that an engine instruction reads or writes. -/
def engRegs (op : Nat) (o : EEng) : List Nat :=
  match op with
  | 0x22 => [eD o]
  | 0x10 | 0x11 | 0x12 | 0x13 => eD o :: textureReads op o
  | 0x41 | 0x43 | 0x44 => eD o :: viewReads op o
  | 0x50 | 0x51 | 0x53 => eD o :: rayReads op o
  | 0x54 => [eD o, eD o + 8]
  | _ => []
/-- The v-registers whose lanes an engine instruction reads. -/
def engReads (op : Nat) (o : EEng) : List Nat :=
  if 0x10 ≤ op ∧ op ≤ 0x13 then textureReads op o else viewReads op o ++ rayReads op o
/-- n scalars from a number on. -/
def sRun (n k : Nat) : List Nat := (List.range k).map (n + ·)
/-- The scalar selectors an engine instruction reads. -/
def engSels (op : Nat) (o : EEng) : List Nat :=
  match op with
  | 0x10 | 0x11 | 0x12 => if eSub o 1 0 = 2 then [eSa o, eSb o] else [eSa o]
  | 0x13 => [eSa o, eSb o]
  | 0x14 => [eSa o]
  | 0x20 => eSa o :: eSc o :: sRun (eSb o) 4
  | 0x21 => eSc o :: (if eSub o 0 0 = 1 then sRun (eSb o) 4 else [eSb o])
  | 0x22 => [eSa o, eSc o]
  | 0x23 => eSc o :: ((if eSub o 4 4 = 1 then sRun (eSa o) 4 else [eSa o]) ++ if eSub o 2 0 = 4 then [eSb o] else [])
  | 0x24 => eSc o :: ((if eSub o 2 2 = 1 then sRun (eSa o) 4 else [eSa o]) ++ if eSub o 3 3 = 1 then [eSb o] else [])
  | 0x26 => [eSc o]
  | 0x30 | 0x35 => eSc o :: (sRun (eSa o) 4 ++ sRun (eSb o) 4)
  | 0x31 => sRun (eSa o) 4 ++ sRun (eSb o) 4 ++ sRun (eSc o) 7
  | 0x32 => sRun (eSa o) 4 ++ sRun (eSb o) 4 ++ sRun (eSc o) 3
  | 0x33 | 0x34 => sRun (eSa o) 4 ++ sRun (eSb o) 4 ++ sRun (eSc o) 4
  | 0x40 | 0x43 => [eSa o]
  | 0x41 => if eSub o 1 0 = 0 then [eSa o] else [eSa o, eSb o]
  | 0x42 => sRun (eSa o) 7
  | 0x44 | 0x45 => eSb o :: sRun (eSa o) 4
  | 0x50 =>
    sRun (eSa o) 4 ++ (if eSub o 0 0 = 1 then [eSb o] else []) ++ if eSub o 1 1 = 1 then sRun (eSc o) 4 else []
  | _ => []

/-- The scalar selectors that an S64 word reads. -/
def s64Sels (op : Nat) (o : S64) : List Nat :=
  let sa := o.sa.toNat
  let sb := o.sb.toNat
  let pair (n : Nat) : List Nat := [n, n + 1]
  let quad : List Nat := [sa, sa + 1, sa + 2, sa + 3]
  let second : List Nat := if o.imm then [] else [sb]
  match op with
  | 0x00 => second
  | 0x13 | 0x2A => sa :: (if o.imm then [o.sd.toNat] else [sb, o.sc.toNat])
  | 0x14 | 0x15 | 0x16 | 0x17 | 0x2E | 0x2F | 0x30 | 0x39 => [sa]
  | 0x1B | 0x1C | 0x1D | 0x20 | 0x21 => pair sa ++ (if o.imm then [] else if sInline sb then [] else pair sb)
  | 0x1E | 0x1F => pair sa ++ second
  | 0x38 => []
  | 0x3A | 0x3B => pair sa ++ second
  | 0x3C | 0x3D => [sb]
  | 0x3E => pair sa
  | 0x3F | 0x45 => quad ++ [sb]
  | 0x40 | 0x43 => quad ++ second
  | 0x41 | 0x44 =>
    quad ++ [sb] ++ (List.range (match S64Rules.mw o with | 3 => 2 | 4 => 4 | _ => 1)).map (o.sc.toNat + ·)
  | 0x42 =>
    let n := if S64Rules.mw o = 3 then 2 else 1
    quad ++ [sb] ++ (List.range n).map (o.sc.toNat + ·) ++
      (if S64Rules.msub o = 0xA then (List.range n).map (o.sd.toNat + ·) else [])
  | 0x46 | 0x47 => if 8 ≤ o.aux.toNat then [] else pair sa
  | 0x48 => pair sa ++ pair sb ++ [o.sc.toNat]
  | 0x49 => pair sa
  | _ => sa :: second

/-- Step 4 of R56 for a word of any class. -/
def operandsOk : IWord → Bool
  | .c32 op o => c32Ok op o
  | .s64 op o => S64Rules.ok o op
  | .v96 op o => v96Ok op o
  | .mem op o => memOk op o
  | .eng op o => engOk op o
  | .other => true
/-- The v-registers that step 7 of R56 checks. -/
def wordRegs : IWord → List Nat
  | .v96 op o => v96Regs op o
  | .mem op o => memRegs op o
  | .eng op o => engRegs op o
  | _ => []

end Sys2Proof.Machine
end

