-- ==== Sys2Proof/Config.lean ====
section
/-!
DEFINITION. What an implementation fixes and the free values: constants without a body, so that nothing can be proved of
what they are. Each is named in an assumption log entry.
-/

namespace Sys2Proof.Config

/-- A fresh value that the manual leaves open; applied to the plain counter `State.fresh` (R9, log 9). -/
opaque freeNat : Nat → Nat
/-- The one fixed F32 value that a special function returns for its operand, tried against the bound of R139 (R138, log 10).
The first argument is the opcode of the function. -/
opaque sfuValue : Nat → BitVec 32 → BitVec 32
/-- The number from which the private key of the module's identity is drawn (R430, log 12). -/
opaque identitySeed : Nat
/-- The root-key digest fused at manufacture (R427, log 12). -/
opaque rootKeyDigest : BitVec 384
/-- The base of the module's block of 48 MAC addresses (R410, log 13). -/
opaque macBase : BitVec 48
/-- The breakout of each port, fixed at manufacture: 0, 1 or 2 (R409, R419, log 13). -/
opaque breakout : Nat → Fin 3
/-- The remote keys that Clove-M returns for a context (R411, R413, log 13). -/
opaque remoteKey : Nat → Bool → BitVec 32

end Sys2Proof.Config
end

