-- ==== Sys2Proof/Machine/Float.lean ====
section
/-!
DEFINITION. Float formats, exact values and rounding (R35 to R41), and the IEEE special cases that the scalar and the
vector instructions share (R94 to R97, R131 to R134). Values are exact rationals; only Round narrows them.
-/

namespace Sys2Proof.Machine

/-- The bits of FLAGS (R22). -/
abbrev Fl := BitVec 9
def flNV : Fl := 1
def flDZ : Fl := 2
def flOF : Fl := 4
def flUF : Fl := 8
def flNX : Fl := 16
def flACCLOSS : Fl := 32
def flACCOVF : Fl := 64
def flOOB : Fl := 128
def flCVTSAT : Fl := 256
/-- A flag if a condition holds. -/
def flIf (b : Bool) (f : Fl) : Fl := if b then f else 0

/-- 2^k for an integer k. -/
def pow2 (k : Int) : Rat := if 0 ≤ k then ((2 ^ k.toNat : Nat) : Rat) else mkRat 1 (2 ^ (-k).toNat)
def absR (x : Rat) : Rat := if x < 0 then -x else x
def minR (a b : Rat) : Rat := if b < a then b else a
def maxR (a b : Rat) : Rat := if a < b then b else a
/-- floor(log2 x) for x > 0. -/
def log2floor (x : Rat) : Int :=
  let n := x.num.toNat
  let d := x.den
  let e : Int := (Nat.log2 n : Int) - (Nat.log2 d : Int)
  if pow2 e ≤ x then e else e - 1

/-- One step of xorshift32 (R41). -/
def rngStep (st : Word) : Word :=
  let a := st ^^^ (st <<< 13)
  let b := a ^^^ (a >>> 17)
  b ^^^ (b <<< 5)

/-- A grid of R38: precision p and the exponent q of its finest step; a fixed-point grid has one step only. -/
structure Grid where
  p : Nat
  q : Int
  fixed : Bool
deriving DecidableEq, Repr, Inhabited

/-- The exponent of the step at magnitude x; `bounded` says whether the exponent is bounded below. -/
def Grid.stepExp (g : Grid) (bounded : Bool) (x : Rat) : Int :=
  if g.fixed then g.q else
    let e := log2floor x - ((g.p : Int) - 1)
    if bounded && decide (e < g.q) then g.q else e
/-- The value whose index among the non-negative grid values is k (R38, R44). -/
def Grid.value (g : Grid) (k : Nat) : Rat :=
  if g.fixed then (k : Rat) * pow2 g.q else
    let h := 2 ^ (g.p - 1)
    if k < h then (k : Rat) * pow2 g.q else
      let j := k / h - 1
      ((k - j * h : Nat) : Rat) * pow2 (g.q + j)
/-- The index of a grid value with step exponent s and multiple f. -/
def Grid.index (g : Grid) (s : Int) (f : Nat) : Nat :=
  if g.fixed then f else ((s - g.q).toNat) * 2 ^ (g.p - 1) + f

/-- The choice of R38 between the two magnitudes around x: whether the greater magnitude is taken. `frac` is the distance
from the lesser magnitude in steps, `odd` says that the lesser magnitude's code is odd, u is the draw. -/
def roundUp (mode : Nat) (neg : Bool) (frac : Rat) (odd : Bool) (u : Nat) : Bool :=
  let half : Rat := mkRat 1 2
  match mode with
  | 1 => decide (half < frac) || (decide (frac = half) && odd)
  | 2 => false
  | 3 => !neg
  | 4 => neg
  | 5 => decide (half ≤ frac)
  | _ => -- stochastic: hi if u ≤ floor((x - lo) / (hi - lo) * 2^32)
    let pos := if neg then 1 - frac else frac
    let hi := decide ((u : Int) ≤ (pos * ((2 ^ 32 : Nat) : Rat)).floor)
    if neg then !hi else hi

/-- The result of R38: the index of the chosen magnitude, inexactness, tininess (R40) and the random state. -/
structure Rounded where
  idx : Nat
  inexact : Bool
  tiny : Bool
  up : Bool
  rng : Word
deriving DecidableEq, Repr, Inhabited

/-- Round of R38 for a magnitude x > 0 with a sign. -/
def roundMag (g : Grid) (mode : Nat) (neg : Bool) (x : Rat) (rng : Word) : Rounded :=
  let s := g.stepExp true x
  let y := x / pow2 s
  let f := y.floor.toNat
  let frac := y - (f : Rat)
  let k := g.index s f
  if frac = 0 then { idx := k, inexact := false, tiny := false, up := false, rng := rng } else
    let rng' := if mode = 6 then rngStep rng else rng
    let up := roundUp mode neg frac (k % 2 = 1) rng'.toNat
    let least := pow2 (g.q + ((g.p : Int) - 1))
    let tiny := if g.fixed then false else if least ≤ x then false else
      -- R40: the second rounding, to the significand width with an unbounded exponent
      let s2 := g.stepExp false x
      let y2 := x / pow2 s2
      let f2 := y2.floor.toNat
      let fr2 := y2 - (f2 : Rat)
      let up2 := if fr2 = 0 then false else roundUp mode neg fr2 (f2 % 2 = 1) rng'.toNat
      decide (((f2 + up2.toNat : Nat) : Rat) * pow2 s2 < least)
    { idx := k + up.toNat, inexact := true, tiny := tiny, up := up, rng := rng' }

/-- A float format (R35): its grid, the index of the largest finite value, the width and the canonical NaN. -/
structure FFmt where
  grid : Grid
  maxIdx : Nat
  width : Nat
  nan : Nat
deriving DecidableEq, Repr, Inhabited

def fF32 : FFmt := { grid := ⟨24, -149, false⟩, maxIdx := 0x7F7FFFFF, width := 32, nan := 0x7FC00000 }
def fF16 : FFmt := { grid := ⟨11, -24, false⟩, maxIdx := 0x7BFF, width := 16, nan := 0x7E00 }
def fBF16 : FFmt := { grid := ⟨8, -133, false⟩, maxIdx := 0x7F7F, width := 16, nan := 0x7FC0 }
/-- The pattern of +∞. -/
def FFmt.infBits (f : FFmt) : Nat := f.maxIdx + 1
/-- The sign bit's weight. -/
def FFmt.signBit (f : FFmt) : Nat := 2 ^ (f.width - 1)
/-- The index of the smallest normal. -/
def FFmt.minNormal (f : FFmt) : Nat := 2 ^ (f.grid.p - 1)

/-- A float value: NaN (signalling or quiet), infinity by sign, or a sign and an exact magnitude. -/
inductive FVal where
  | nan (signalling : Bool)
  | inf (neg : Bool)
  | fin (neg : Bool) (mag : Rat)
deriving DecidableEq, Repr, Inhabited

/-- The value of a pattern, without flush (R35). -/
def FFmt.decode (f : FFmt) (bits : Nat) : FVal :=
  let b := bits % 2 ^ f.width
  let neg := decide (f.signBit ≤ b)
  let k := b % f.signBit
  if f.maxIdx + 1 < k then .nan (decide ((k - f.infBits) < 2 ^ (f.grid.p - 2)))
  else if k = f.maxIdx + 1 then .inf neg
  else .fin neg (f.grid.value k)
/-- The value of a pattern under a flush control (R37): a flushed input sets no flag. -/
def FFmt.decodeFz (f : FFmt) (fz : Bool) (bits : Nat) : FVal :=
  match f.decode bits with
  | .fin neg m => if fz && decide (m < f.grid.value f.minNormal) then .fin neg 0 else .fin neg m
  | v => v

/-- A result pattern with its flags and the random state after it. -/
structure FRes where
  bits : Nat
  flags : Fl
  rng : Word
deriving DecidableEq, Repr, Inhabited

def FFmt.nanRes (f : FFmt) (flags : Fl) (rng : Word) : FRes := { bits := f.nan, flags := flags, rng := rng }
def FFmt.infRes (f : FFmt) (neg : Bool) (flags : Fl) (rng : Word) : FRes :=
  { bits := f.infBits + (if neg then f.signBit else 0), flags := flags, rng := rng }
def FFmt.zeroRes (f : FFmt) (neg : Bool) (flags : Fl) (rng : Word) : FRes :=
  { bits := if neg then f.signBit else 0, flags := flags, rng := rng }

/-- R39: the pattern of an overflow. `up` says that the greater magnitude was chosen. -/
def FFmt.overflow (f : FFmt) (mode : Nat) (neg up : Bool) : Nat :=
  let toInf := match mode with
    | 1 => true | 5 => true | 2 => false | 3 => !neg | 4 => neg | _ => up
  (if toInf then f.infBits else f.maxIdx) + (if neg then f.signBit else 0)

/-- Round(x, fmt, mode) of R38 to R40 with the flush of R37, for a sign and a magnitude. A magnitude 0 is exact and keeps
the sign given. In a format without mantissa bits the lower neighbour of the second rounding counts as odd, so that a tie goes up (DESIGN
CHOICE, log 26). -/
def FFmt.roundMag (f : FFmt) (fz : Bool) (mode : Nat) (neg : Bool) (x : Rat) (rng : Word) : FRes :=
  if x = 0 then f.zeroRes neg 0 rng else
    let r := Machine.roundMag f.grid mode neg x rng
    let sgn := if neg then f.signBit else 0
    if f.maxIdx < r.idx then
      { bits := f.overflow mode neg r.up,
        flags := flOF ||| flNX, rng := r.rng }
    else
      let fl := flIf r.inexact flNX ||| flIf r.tiny flUF
      if fz && decide (0 < r.idx) && decide (r.idx < f.minNormal) then
        { bits := sgn, flags := fl ||| flUF ||| flNX, rng := r.rng }
      else { bits := sgn + r.idx, flags := fl, rng := r.rng }

/-- The rounding environment of one operation: mode 1 to 6 and the flush control of its format. -/
structure REnv where
  mode : Nat
  fz : Bool
deriving DecidableEq, Repr, Inhabited

def FVal.isNan : FVal → Bool | .nan _ => true | _ => false
def FVal.isSnan : FVal → Bool | .nan s => s | _ => false
def FVal.isInf : FVal → Bool | .inf _ => true | _ => false
def FVal.isZero : FVal → Bool | .fin _ m => decide (m = 0) | _ => false
def FVal.neg : FVal → Bool | .nan _ => false | .inf n => n | .fin n _ => n
def FVal.flip : FVal → FVal | .nan s => .nan s | .inf n => .inf (!n) | .fin n m => .fin (!n) m
/-- The signed value of a finite number. -/
def FVal.rat : FVal → Rat | .fin n m => if n then -m else m | _ => 0
/-- NV for any signalling NaN among the inputs (R36). -/
def snanFlag (l : List FVal) : Fl := flIf (l.any FVal.isSnan) flNV

/-- An exact product with IEEE signs: none is the invalid product 0 × ∞ (R94). The NaN product of a signalling NaN is signalling, so that a sum
that uses it sets NV (R36). -/
def fmulExact : FVal → FVal → Option FVal
  | .nan a, .nan b => some (.nan (a || b))
  | .nan a, _ => some (.nan a)
  | _, .nan b => some (.nan b)
  | .inf a, .inf b => some (.inf (a != b))
  | .inf a, .fin b m => if m = 0 then none else some (.inf (a != b))
  | .fin a m, .inf b => if m = 0 then none else some (.inf (a != b))
  | .fin a m, .fin b n => some (.fin (a != b) (m * n))

/-- Rounding an exact sum of terms under R94: an invalid term or infinities of opposite sign give NaN with NV, a NaN input
gives NaN, an exact zero sum is +0, or −0 under toward −∞, unless every addend is −0; so (+0) + (+0) is −0 under toward −∞, which is R94's
sentence and not the standard that it cites (DEDUCED, log 26). -/
def FFmt.sum (f : FFmt) (e : REnv) (inputs : List FVal) (terms : List (Option FVal)) (rng : Word) : FRes :=
  let fl := snanFlag inputs
  let ts := terms.filterMap id
  let infs := ts.filter FVal.isInf
  if terms.any Option.isNone then f.nanRes (fl ||| flNV) rng
  else if infs.any FVal.neg && infs.any (fun v => !v.neg) then f.nanRes (fl ||| flNV) rng
  else if inputs.any FVal.isNan then f.nanRes fl rng
  else match infs with
  | v :: _ => f.infRes v.neg fl rng
  | [] =>
    let x := ts.foldl (fun a v => a + v.rat) 0
    if x = 0 then
      f.zeroRes (ts.all FVal.neg || decide (e.mode = 4)) fl rng
    else
      let r := f.roundMag e.fz e.mode (decide (x < 0)) (absR x) rng
      { r with flags := r.flags ||| fl }

/-- a + b (R94). -/
def FFmt.add (f : FFmt) (e : REnv) (a b : FVal) (rng : Word) : FRes := f.sum e [a, b] [some a, some b] rng
/-- a × b (R94): an exact zero product keeps the product's sign. -/
def FFmt.mul (f : FFmt) (e : REnv) (a b : FVal) (rng : Word) : FRes :=
  let fl := snanFlag [a, b]
  match fmulExact a b with
  | none => f.nanRes (fl ||| flNV) rng
  | some (.nan _) => f.nanRes fl rng
  | some (.inf n) => f.infRes n fl rng
  | some (.fin n m) => let r := f.roundMag e.fz e.mode n m rng; { r with flags := r.flags ||| fl }
/-- a × b + c with one rounding (R94). -/
def FFmt.fma (f : FFmt) (e : REnv) (a b c : FVal) (rng : Word) : FRes :=
  f.sum e [a, b, c] [fmulExact a b, some c] rng

/-- The order of two non-NaN values with −0 below +0 when `zeros` asks for it. -/
def FVal.lt (zeros : Bool) : FVal → FVal → Bool
  | .inf true, .inf true => false
  | .inf true, _ => true
  | _, .inf true => false
  | .inf false, _ => false
  | _, .inf false => true
  | a, b => decide (a.rat < b.rat) || (zeros && decide (a.rat = b.rat) && a.neg && !b.neg)
/-- Equality of two non-NaN values, +0 = −0 (R91). -/
def FVal.eqv : FVal → FVal → Bool
  | .inf a, .inf b => a == b
  | .fin a m, .fin b n => decide ((FVal.fin a m).rat = (FVal.fin b n).rat)
  | _, _ => false

/-- The pattern of a value that the format holds exactly. -/
def FFmt.exactBits (f : FFmt) : FVal → Nat
  | .nan _ => f.nan
  | .inf n => f.infBits + (if n then f.signBit else 0)
  | .fin n m => (f.roundMag false 1 n m 1).bits

/-- SFMIN, SFMAX and the packed and vector forms (R95, R132); `prop` makes one NaN decide (R132). -/
def FFmt.minmax (f : FFmt) (max prop : Bool) (a b : FVal) (rng : Word) : FRes :=
  let fl := snanFlag [a, b]
  if a.isNan && b.isNan || (prop && (a.isNan || b.isNan)) then f.nanRes fl rng
  else if a.isNan then { bits := f.exactBits b, flags := fl, rng := rng }
  else if b.isNan then { bits := f.exactBits a, flags := fl, rng := rng }
  else
    let pickB := if max then FVal.lt true a b else FVal.lt true b a
    { bits := f.exactBits (if pickB then b else a), flags := fl, rng := rng }

/-- The conditions of R91 on floats. -/
def fcond (cond : Nat) (a b : FVal) : Bool :=
  let un := a.isNan || b.isNan
  match cond with
  | 0 => !un && a.eqv b
  | 1 => un || !a.eqv b
  | 2 => !un && FVal.lt false a b
  | 3 => !un && (FVal.lt false a b || a.eqv b)
  | 4 => !un && FVal.lt false b a
  | 5 => !un && (FVal.lt false b a || a.eqv b)
  | 6 => un
  | _ => !un
/-- NV of a float compare (R96). -/
def fcondFlags (cond : Nat) (a b : FVal) : Fl :=
  flIf (a.isSnan || b.isSnan || (decide (2 ≤ cond ∧ cond ≤ 5) && (a.isNan || b.isNan))) flNV
/-- The conditions of R91 on integers; codes 6 and 7 are reserved. -/
def icond (cond : Nat) (a b : Int) : Bool :=
  match cond with
  | 0 => decide (a = b) | 1 => decide (a ≠ b) | 2 => decide (a < b) | 3 => decide (a ≤ b)
  | 4 => decide (b < a) | _ => decide (b ≤ a)

/-- Rounding a magnitude to an integer under a mode (R50, R133): the integer magnitude, inexactness, random state. -/
def roundInt (mode : Nat) (neg : Bool) (m : Rat) (rng : Word) : Nat × Bool × Word :=
  if m = 0 then (0, false, rng) else
    let r := roundMag ⟨1, 0, true⟩ mode neg m rng
    (r.idx, r.inexact, r.rng)
/-- Float to integer (R50): rounded under the mode, then clamped; the result pattern has n bits. -/
def toIntRes (signed : Bool) (n mode : Nat) (v : FVal) (rng : Word) : FRes :=
  match v with
  | .nan _ => { bits := 0, flags := flNV ||| flCVTSAT, rng := rng }
  | .inf neg => { bits := wrapN n (if neg then typeMin signed n else typeMax signed n), flags := flNV ||| flCVTSAT, rng := rng }
  | .fin neg m =>
    let (k, nx, rng') := roundInt mode neg m rng
    let i : Int := if neg then -(k : Int) else k
    let c := clampI (typeMin signed n) (typeMax signed n) i
    if c ≠ i then { bits := wrapN n c, flags := flNV ||| flCVTSAT, rng := rng' }
    else { bits := wrapN n i, flags := flIf nx flNX, rng := rng' }
/-- Integer to float (R50). -/
def FFmt.ofInt (f : FFmt) (e : REnv) (i : Int) (rng : Word) : FRes :=
  f.roundMag e.fz e.mode (decide (i < 0)) ((i.natAbs : Nat) : Rat) rng
/-- Exact division with R139's special cases, rounded once (R97 SRCP with a = 1, VDIV); an exact quotient raises no NX (R38; DEDUCED, log 26). -/
def FFmt.div (f : FFmt) (e : REnv) (a b : FVal) (rng : Word) : FRes :=
  let fl := snanFlag [a, b]
  let n := a.neg != b.neg
  match a, b with
  | .nan _, _ => f.nanRes fl rng
  | _, .nan _ => f.nanRes fl rng
  | .inf _, .inf _ => f.nanRes flNV rng
  | .inf _, .fin _ _ => f.infRes n 0 rng
  | .fin _ _, .inf _ => f.zeroRes n 0 rng
  | .fin _ x, .fin _ y =>
    if y = 0 then (if x = 0 then f.nanRes flNV rng else f.infRes n flDZ rng)
    else f.roundMag e.fz e.mode n (x / y) rng
/-- The correctly rounded square root (R139 VSQRT), whose exact results raise no NX (R38; DEDUCED, log 26): a rational that rounds as the root does. The root is scaled so that its
floor has more bits than any grid needs, and a sticky half keeps it off the grid when it is inexact. -/
def sqrtSticky (x : Rat) : Rat :=
  let k : Nat := 512
  let n := (x * pow2 (2 * k : Int)).floor.toNat
  let r := isqrt n
  if ((r * r : Nat) : Rat) = x * pow2 (2 * k : Int) then (r : Rat) * pow2 (-(k : Int))
  else ((r : Rat) + mkRat 1 2) * pow2 (-(k : Int))
def FFmt.sqrt (f : FFmt) (e : REnv) (a : FVal) (rng : Word) : FRes :=
  let fl := snanFlag [a]
  match a with
  | .nan _ => f.nanRes fl rng
  | .inf true => f.nanRes flNV rng
  | .inf false => f.infRes false 0 rng
  | .fin n m => if m = 0 then f.zeroRes n 0 rng else if n then f.nanRes flNV rng
    else f.roundMag e.fz e.mode false (sqrtSticky m) rng

/-- F16 or BF16 to F32 (R50): exact, a signalling NaN gives the canonical NaN and NV, FZ16 on the input, FZ32 on the result. -/
def widen16 (f : FFmt) (fz16 fz32 : Bool) (bits : Nat) : Nat × Fl :=
  match f.decodeFz fz16 bits with
  | .nan s => (fF32.nan, flIf s flNV)
  | .inf n => (fF32.infBits + (if n then fF32.signBit else 0), 0)
  | .fin n m =>
    let r := fF32.roundMag fz32 1 n m 1
    (r.bits, r.flags)
/-- The round of an F32 pattern to F16 or BF16 (R50). -/
def narrow16 (f : FFmt) (mode : Nat) (fz32 fz16 : Bool) (bits : Nat) (rng : Word) : FRes :=
  match fF32.decodeFz fz32 bits with
  | .nan s => f.nanRes (flIf s flNV) rng
  | .inf n => f.infRes n 0 rng
  | .fin n m => f.roundMag fz16 mode n m rng

end Sys2Proof.Machine
end

