-- ==== Sys2Proof/Machine/Narrow.lean ====
section
/-!
DEFINITION. Narrow formats under a format word (R42 to R48), block scales (R49), the exact accumulator (R51 to R54) and
the special functions within their bounds (R138, R139).
-/

namespace Sys2Proof.Machine

/-- The fields of a format word (R42). -/
structure FmtWord where
  scf : Nat
  blk : Nat
  sat : Bool
  spec : Nat
  bias : Nat
  sgn : Bool
  e : Nat
  w : Nat
deriving DecidableEq, Repr, Inhabited

/-- Reading the fields (R42). -/
def FmtWord.ofWord (x : Word) : FmtWord :=
  { scf := wfield x 20 19, blk := wfield x 18 17, sat := nbit x.toNat 16, spec := wfield x 15 14,
    bias := wfield x 13 8, sgn := nbit x.toNat 7, e := wfield x 6 4, w := wfield x 3 0 }
/-- The validity of a format word (R43). -/
def fmtValid (x : Word) : Bool :=
  let f := FmtWord.ofWord x
  wfield x 31 21 == 0 && decide (3 ≤ f.w) && decide (f.w ≤ 8) && decide (f.e ≤ 5) && decide (f.sgn.toNat + f.e ≤ f.w)
    && f.spec != 3 && (f.e != 0 || f.spec == 0) && (f.spec != 1 || decide (1 ≤ f.e)) && (f.spec != 2 || decide (2 ≤ f.e))
    && (f.scf != 3 || f.blk == 0)
/-- Mantissa bits m = w − SGN − e (R42). -/
def FmtWord.m (f : FmtWord) : Nat := f.w - f.sgn.toNat - f.e
/-- The grid of R38 for a narrow format. -/
def FmtWord.grid (f : FmtWord) : Grid :=
  if f.e = 0 then ⟨1, -(f.bias : Int), true⟩ else ⟨f.m + 1, 1 - (f.bias : Int) - (f.m : Int), false⟩
/-- The block length L, 0 when the word carries no scales (R42). -/
def FmtWord.blockLen (f : FmtWord) : Nat := match f.blk with | 1 => 16 | 2 => 32 | 3 => 64 | _ => 0
/-- Bits of a code's slot (R47). -/
def FmtWord.slotBits (f : FmtWord) : Nat := if f.w ≤ 4 then 4 else 8
/-- Bytes of one block scale (R47). -/
def FmtWord.scaleBytes (f : FmtWord) : Nat := if f.scf = 2 then 2 else 1

/-- FormatValue of R44. -/
def formatValue (f : FmtWord) (code : Nat) : FVal :=
  let c := code % 2 ^ f.w
  let sg := f.sgn && nbit c (f.w - 1)
  if f.e = 0 then
    let v : Int := if f.sgn then sextN f.w c else (c : Int)
    .fin (decide (v < 0)) (((v.natAbs : Nat) : Rat) * pow2 (-(f.bias : Int)))
  else
    let ee := field c (f.m + f.e - 1) f.m
    let mm := c % 2 ^ f.m
    let ones := 2 ^ f.e - 1
    if f.spec = 1 ∧ ee = ones ∧ mm = 2 ^ f.m - 1 then .nan false
    else if f.spec = 2 ∧ ee = ones then (if mm ≠ 0 then .nan false else .inf sg)
    else .fin sg (f.grid.value (ee * 2 ^ f.m + mm))
/-- The largest finite magnitude's index in a float format (R45). -/
def FmtWord.maxIdx (f : FmtWord) : Nat :=
  let full := 2 ^ (f.e + f.m) - 1
  match f.spec with
  | 1 => full - 1
  | 2 => (2 ^ f.e - 1) * 2 ^ f.m - 1
  | _ => full
/-- The range limit of a sign (R45, R46): a code. -/
def FmtWord.limitCode (f : FmtWord) (neg : Bool) : Nat :=
  if f.e = 0 then (if f.sgn then (if neg then 2 ^ (f.w - 1) else 2 ^ (f.w - 1) - 1) else (if neg then 0 else 2 ^ f.w - 1))
  else if neg then (if f.sgn then f.maxIdx + 2 ^ (f.w - 1) else 0) else f.maxIdx
/-- The largest finite value (R45): for fixed point its positive limit. -/
def FmtWord.maxValue (f : FmtWord) : Rat :=
  if f.e = 0 then ((f.limitCode false : Nat) : Rat) * pow2 (-(f.bias : Int)) else f.grid.value f.maxIdx
/-- The largest finite magnitude, over both ends of a fixed-point range (R52). -/
def FmtWord.maxMagnitude (f : FmtWord) : Rat :=
  if f.e = 0 then ((if f.sgn then 2 ^ (f.w - 1) else 2 ^ f.w - 1 : Nat) : Rat) * pow2 (-(f.bias : Int)) else f.grid.value f.maxIdx
/-- The NaN code (R46): sign 0, exponent and mantissa all ones. -/
def FmtWord.nanCode (f : FmtWord) : Nat := 2 ^ (f.e + f.m) - 1

/-- Encode of R46: the first case that applies decides. -/
def encodeNarrow (f : FmtWord) (mode : Nat) (x : FVal) (rng : Word) : FRes :=
  let res (c : Nat) (fl : Fl) (r : Word) : FRes := { bits := c, flags := fl, rng := r }
  match x with
  | .nan s =>
    if f.spec = 1 ∨ (f.spec = 2 ∧ 1 ≤ f.m) then res f.nanCode (flIf s flNV) rng else res 0 flNV rng
  | .inf n =>
    if (!n || f.sgn) && f.spec == 2 && !f.sat then
      res ((2 ^ f.e - 1) * 2 ^ f.m + (if n then 2 ^ (f.w - 1) else 0)) 0 rng
    else if f.spec == 1 && !f.sat then res f.nanCode flNV rng
    else res (f.limitCode n) flCVTSAT rng
  | .fin n m =>
    if !f.sgn && n && decide (m ≠ 0) then res 0 (flCVTSAT ||| flNX) rng
    else if m = 0 then res (if n && f.sgn && f.e != 0 then 2 ^ (f.w - 1) else 0) 0 rng
    else
      let r := roundMag f.grid mode n m rng
      let fl := flIf r.inexact flNX ||| flIf r.tiny flUF
      if f.e = 0 then
        let i : Int := if n then -(r.idx : Int) else r.idx
        if typeMin f.sgn f.w ≤ i ∧ i ≤ typeMax f.sgn f.w then res (wrapN f.w i) fl r.rng
        else res (f.limitCode n) (flCVTSAT ||| flNX) r.rng
      else if r.idx ≤ f.maxIdx then res (r.idx + (if n then 2 ^ (f.w - 1) else 0)) fl r.rng
      else if f.sat || f.spec == 0 then res (f.limitCode n) (flCVTSAT ||| flNX) r.rng
      else if f.spec = 2 then
        let ff : FFmt := { grid := f.grid, maxIdx := f.maxIdx, width := f.w + (!f.sgn).toNat, nan := f.nanCode }
        res (ff.overflow mode n r.up) (flOF ||| flNX) r.rng
      else res f.nanCode (flOF ||| flNX) r.rng

/-- The value of a block-scale code (R49). -/
def scaleValue (scf code : Nat) : FVal :=
  match scf with
  | 0 => if code % 256 = 255 then .nan false else .fin false (pow2 ((code % 256 : Nat) - (127 : Int)))
  | 1 => formatValue (FmtWord.ofWord 0x000147C8) code
  | _ => fF16.decode code
/-- A product with NaN for zero times infinity (R49, R53). -/
def fmulNan (a b : FVal) : FVal := (fmulExact a b).getD (.nan false)

/-- AutoAnchor of R52 for two largest magnitudes. -/
def autoAnchor (a b : Rat) : Int := log2floor (a * b) + 1

/-- AccAdd of R53 on one element X with anchor A. -/
def accAdd (x : Int) (anchor : Int) (prods : List FVal) : Int × Fl :=
  let infs := prods.filter FVal.isInf
  if prods.any FVal.isNan || (infs.any FVal.neg && infs.any fun v => !v.neg) then (x, flNV)
  else match infs with
  | v :: _ => if v.neg then (-(pow2I 191), flACCOVF) else (pow2I 191 - 1, flACCOVF)
  | [] =>
    let (s, fl) := prods.foldl (fun (acc : Int × Fl) v =>
      let y := v.rat / pow2 (anchor - 160)
      let t := y.floor
      (acc.1 + t, if ((t : Rat) = y) then acc.2 else acc.2 ||| flACCLOSS)) (x, (0 : Fl))
    if pow2I 191 - 1 < s then (pow2I 191 - 1, fl ||| flACCOVF)
    else if s < -(pow2I 191) then (-(pow2I 191), fl ||| flACCOVF) else (s, fl)

/-- The output formats of AccRound (R54). -/
inductive OutFmt where
  | f32 | f16 | bf16 | i32 | i64 | word (w : Word)
deriving DecidableEq, Repr, Inhabited

/-- AccRound of R54. -/
def accRound (x anchor : Int) (fmt : OutFmt) (mode : Nat) (rng : Word) : FRes :=
  let neg := decide (x < 0)
  let m : Rat := ((x.natAbs : Nat) : Rat) * pow2 (anchor - 160)
  let int (n : Nat) : FRes :=
    let (k, nx, rng') := roundInt mode neg m rng
    let i : Int := if neg then -(k : Int) else k
    let c := clampI (typeMin true n) (typeMax true n) i
    { bits := wrapN n c, flags := flIf (decide (c ≠ i)) flCVTSAT ||| flIf nx flNX, rng := rng' }
  match fmt with
  | .f32 => fF32.roundMag false mode neg m rng
  | .f16 => fF16.roundMag false mode neg m rng
  | .bf16 => fBF16.roundMag false mode neg m rng
  | .i32 => int 32
  | .i64 => int 64
  | .word w => encodeNarrow (FmtWord.ofWord w) mode (.fin neg m) rng

/-- VMXSCALE of R144 on a decoded magnitude. -/
def mxScale (f : FmtWord) (v : FVal) : Nat × Fl :=
  match v with
  | .nan s => (0xFF, flIf s flNV)
  | .inf _ => (0xFF, flNV)
  | .fin _ m =>
    if m = 0 then (127, 0) else
      let c := log2floor m - log2floor f.maxValue + 127
      if c < 0 then (0, flCVTSAT) else if 254 < c then (254, flCVTSAT) else (c.toNat, 0)

/-! Approximations of the transcendental functions by truncated series over the rationals; each is far closer to the exact
value than the bounds of R139, so it decides whether a candidate lies within its bound. -/

/-- Keeping 200 fraction bits, to bound the size of intermediate numbers. -/
def trim (x : Rat) : Rat := ((x * pow2 200).floor : Rat) * pow2 (-200)
/-- Σ x^k/k! from the top down, n terms. -/
def expSeries (x : Rat) : Nat → Rat → Rat
  | 0, acc => 1 + acc
  | k + 1, acc => expSeries x k (trim (x / ((k + 1 : Nat) : Rat) * (1 + acc)))
/-- artanh series 2 Σ z^(2k+1)/(2k+1), n terms from the top. -/
def atanhSeries (z2 : Rat) : Nat → Rat → Rat
  | 0, acc => acc
  | k + 1, acc => atanhSeries z2 k (trim (mkRat 1 (2 * k + 1) + z2 * acc))
/-- ln x for 1/2 ≤ x ≤ 2. -/
def lnNear (x : Rat) : Rat := let z := (x - 1) / (x + 1); 2 * z * atanhSeries (z * z) 80 0
/-- ln 2. -/
def ln2R : Rat := lnNear 2
/-- π by Machin's formula. -/
def atanInv (n : Nat) : Nat → Rat → Rat
  | 0, acc => acc / (n : Rat)
  | k + 1, acc => atanInv n k (trim (mkRat 1 (2 * k + 1) - acc / ((n * n : Nat) : Rat)))
def piR : Rat := 4 * (4 * atanInv 5 60 0 - atanInv 239 20 0)
/-- 2^x. -/
def exp2R (x : Rat) : Rat :=
  let i := x.floor
  pow2 i * expSeries ((x - (i : Rat)) * ln2R) 50 0
/-- log2 x for x > 0. -/
def log2R (x : Rat) : Rat :=
  let e := log2floor x
  (e : Rat) + lnNear (x * pow2 (-e)) / ln2R
/-- Alternating series in y² from the top: Σ (−1)^k y^(2k) / ((d+1)(d+2)…). -/
def trigSeries (y2 : Rat) (d : Nat) : Nat → Rat → Rat
  | 0, acc => 1 - acc
  | k + 1, acc =>
    let n := 2 * (k + 1) + d
    trigSeries y2 d k (trim (y2 / ((n * (n - 1) : Nat) : Rat) * (1 - acc)))
/-- cos(πx) and sin(πx) for |x| ≤ 1/2. -/
def cosNear (x : Rat) : Rat := let y := piR * x; trigSeries (y * y) 0 25 0
def sinNear (x : Rat) : Rat := let y := piR * x; y * trigSeries (y * y) 1 25 0
/-- sin(πx), by the nearest integer. -/
def sinpiR (x : Rat) : Rat :=
  let k := (x + mkRat 1 2).floor
  let s := sinNear (x - (k : Rat))
  if k % 2 = 0 then s else -s
def cospiR (x : Rat) : Rat :=
  let k := (x + mkRat 1 2).floor
  let s := cosNear (x - (k : Rat))
  if k % 2 = 0 then s else -s
/-- tanh x for x > 0. -/
def tanhR (x : Rat) : Rat :=
  if 40 ≤ x then 1 - pow2 (-100)
  else if x < pow2 (-20) then x - x * x * x / 3
  else let t := exp2R (2 * x / ln2R); (t - 1) / (t + 1)

/-- One unit in the last place of F32 at a magnitude (R139). -/
def ulp32 (x : Rat) : Rat := pow2 (fF32.grid.stepExp true x)
/-- The fixed value of R138: the device's value where it lies within the bound (sign included), otherwise the nearest value
to the exact one. The bound on the outcome is the spec's; which value within it is free (log 10). -/
def sfuPick (op : Nat) (arg : Word) (exact bound : Rat) : FRes :=
  let cand := (Config.sfuValue op arg).toNat
  let near := fF32.roundMag false 1 (decide (exact < 0)) (absR exact) 1
  match fF32.decode cand with
  | .fin n m =>
    if absR ((FVal.fin n m).rat - exact) ≤ bound ∧ (n = decide (exact < 0) ∨ m ≠ 0) then
      { bits := cand, flags := flNX, rng := 1 }
    else { near with flags := near.flags ||| flNX }
  | _ => { near with flags := near.flags ||| flNX }
/-- Finishing a bounded result: range flags of R39 and R40 and the flush of R37 on the value returned. R40's test is stated of a rounding, which a
bounded result does not name: the result counts as tiny where the exact and the returned value both lie below the smallest normal (DESIGN CHOICE,
log 10). -/
def sfuFinish (fz : Bool) (exact : Rat) (r : FRes) : FRes :=
  let k := r.bits % fF32.signBit
  let tiny := decide (absR exact < fF32.grid.value fF32.minNormal) && decide (k < fF32.minNormal)
  let fl := r.flags ||| flIf tiny flUF
  if fz && decide (0 < k) && decide (k < fF32.minNormal) then
    { r with bits := r.bits - k, flags := fl ||| flUF ||| flNX } else { r with flags := fl }
/-- A bounded result under the rules of R138: exact results raise no NX; overflow by R39 under RNE. -/
def sfuResult (fz : Bool) (op : Nat) (arg : Word) (exact : Rat) (isExact : Bool) (bound : Rat) (rng : Word) : FRes :=
  if isExact ∨ exact = 0 then fF32.roundMag fz 1 (decide (exact < 0)) (absR exact) rng
  else
    let near := fF32.roundMag false 1 (decide (exact < 0)) (absR exact) rng
    if near.flags &&& flOF ≠ 0 then near
    else { sfuFinish fz exact (sfuPick op arg exact bound) with rng := rng }
/-- Whether a positive rational is 2^k for an integer k. -/
def isPow2R (x : Rat) : Bool := decide (pow2 (log2floor x) = x)
def isIntR (x : Rat) : Bool := x.den == 1

/-- The special functions other than VSQRT and VDIV (R139), by opcode, on a flushed operand. -/
def sfu (op : Nat) (fz : Bool) (arg : Word) (a : FVal) (rng : Word) : FRes :=
  let nan (fl : Fl) := fF32.nanRes fl rng
  let one (neg : Bool) : FRes := { bits := 0x3F800000 + (if neg then 0x80000000 else 0), flags := 0, rng := rng }
  match a with
  | .nan s => nan (flIf s flNV)
  | .inf n =>
    match op with
    | 0x70 => fF32.zeroRes n 0 rng
    | 0x71 => if n then nan flNV else fF32.zeroRes false 0 rng
    | 0x73 => if n then fF32.zeroRes false 0 rng else fF32.infRes false 0 rng
    | 0x74 => if n then nan flNV else fF32.infRes false 0 rng
    | 0x79 => one n
    | _ => nan flNV
  | .fin n m =>
    let x := (FVal.fin n m).rat
    match op with
    | 0x70 => if m = 0 then fF32.infRes n flDZ rng else
        let y := 1 / x
        sfuResult fz op arg y (isPow2R m && decide (fF32.grid.value fF32.minNormal ≤ absR y)) (ulp32 (absR y)) rng
    | 0x71 => if m = 0 then fF32.infRes n flDZ rng else if n then nan flNV else
        let y := 1 / sqrtSticky m
        sfuResult fz op arg y (isPow2R m && log2floor m % 2 == 0) (ulp32 y) rng
    | 0x73 => if 300 ≤ x then fF32.roundMag fz 1 false (pow2 300) rng
        else if x ≤ -300 then sfuResult fz op arg (pow2 (-300)) false (2 * ulp32 (pow2 (-300))) rng
        else let y := exp2R x; sfuResult fz op arg (if isIntR x then pow2 x.floor else y) (isIntR x && decide (-149 ≤ x.floor)) (2 * ulp32 y) rng
    | 0x74 => if m = 0 then fF32.infRes true flDZ rng else if n then nan flNV else
        if isPow2R m then
          (fF32.roundMag fz 1 (decide (log2floor m < 0)) (((log2floor m).natAbs : Nat) : Rat) rng)
        else let y := log2R m
          sfuResult fz op arg y false (if mkRat 1 2 ≤ m ∧ m ≤ 2 then pow2 (-22) else 2 * ulp32 (absR y)) rng
    | 0x75 => if isIntR x then fF32.zeroRes n 0 rng
        else if isIntR (2 * x) then one (decide (sinpiR x < 0))
        else sfuResult fz op arg (sinpiR x) false (pow2 (-22)) rng
    | 0x76 => if isIntR x then one (decide (cospiR x < 0))
        else if isIntR (2 * x) then fF32.zeroRes false 0 rng
        else sfuResult fz op arg (cospiR x) false (pow2 (-22)) rng
    | _ => if m = 0 then fF32.zeroRes n 0 rng else
        let y := tanhR m
        sfuResult fz op arg (if n then -y else y) false (2 * ulp32 y) rng

end Sys2Proof.Machine
end

