-- ==== Sys2Proof/Machine/Parts.lean ====
section
/-!
DEFINITION. The parts of the machine's state that hold a program's threads and memory: splits, groups, blocks, launches,
contexts, caches and cores (R12 to R31, R149 to R193, R209 to R256, R273, R377 to R397). All of it is plain data.
-/

namespace Sys2Proof.Machine

/-- States of a split-table entry (R151). -/
inductive SState where
  | free | ready | sleep | wait | join | parked
deriving DecidableEq, Repr, Inhabited

/-- What a split in WAIT waits for (R156), with the operands read at issue: WAITA's offset in the allocation, SWAITG's record kind
and address, the target, the scope of the acquire, sd and cf; SWAITG's `.yield` mark. -/
inductive WaitKind where
  | yield
  | waita (addr : Nat) (target : Word) (eq : Bool) (scope sd : Nat) (cf : BitVec 3)
  | swaitg (kind addr : Nat) (target : Word) (save : Bool) (scope sd : Nat) (cf : BitVec 3)
  | barrier (id phase : Nat)
deriving DecidableEq, Repr, Inhabited

/-- The four wait counters (R15). -/
inductive Ctr where
  | vmc | vsc | smc | xc
deriving DecidableEq, Repr, Inhabited

/-- A bypass latch of a split (R15, R167): values and writers of its lanes, liveness, and the instructions issued since. -/
structure Latch where
  vals : Sparse Word
  lanes : Mask
  live : Bool
  age : Nat
  poison : Mask
deriving DecidableEq, Repr, Inhabited

/-- What a memory access does (R238 to R242). -/
inductive AccKind where
  | load | store | atom (op : Nat)
deriving DecidableEq, Repr, Inhabited

/-- One lane's request after the checks of R30: its address, its store or operand value and its compare value. -/
structure LaneReq where
  lane : Nat
  va : Nat
  data : Nat
  cmp : Nat
deriving DecidableEq, Repr, Inhabited

/-- A memory access of one instruction: record kind, width in bytes, destination register, the lanes that remain, and the v-registers that the
instruction reads (R201). -/
structure Access where
  kind : AccKind
  rkind : Nat
  width : Nat
  d : Nat
  scalar : Bool
  scope : Nat
  policy : Nat
  lanes : List LaneReq
  reads : List Nat := []
deriving DecidableEq, Repr, Inhabited

/-- A fault record of a line request (R385), numbered in the order in which records reach Clove-M: its line, and whether the request reads it,
writes it, or as an atomic does both. -/
structure FaultRec where
  seq : Nat
  line : Nat
  read : Bool
  write : Bool
  resolved : Bool
  refused : Bool
deriving DecidableEq, Repr, Inhabited

/-- The registers a group shares (R149). -/
structure GroupRegs where
  phys : List (Option Nat)
  v : Sparse Word
  p : List Mask
  s : Sparse Word
  segw : Nat
  rmode : BitVec 5
  flags : Fl
  viewset : Nat
  rng : List Word
  vpoison : List Nat
  spoison : List Nat
deriving DecidableEq, Repr, Inhabited

/-- What a parked split waits to replay (R386): the access, the counted operation that keeps its count, its fault records.
`acted` says that some lanes have been performed (R381). An instruction that has met a fault before any of its lanes was asked for (a line that
a release cannot write, R255; a heap entry, a mapping pointer, a sync object or an awaited word that is absent) carries no lanes; `src` holds
the group's registers as it read them, with which it goes on, or nothing where it is a wait whose word is to be read again (R203). `mask` holds
the lanes that a refusal is reported for, and with `whole` the whole group is parked (R255). -/
structure Parked where
  acc : Access
  op : Nat
  acted : Bool
  faults : List FaultRec
  mask : Mask
  whole : Bool
  src : Option GroupRegs
deriving DecidableEq, Repr, Inhabited

/-- One entry of the split table with the state a split holds (R149, R150). `wake` is the cycle at which SLEEP or JOIN ends and
`limit` its n; `spoison` lists its poisoned banked scalars (R434); `markPc` is the address to which a replay mask or resume mark belongs
(R381, R382), and `rwait` and `rlimit` are the wait and the n that a resume mark returns to. `pollBy` is the cycle by which SWAITG's word is
read again (R203), `stall` the cycle until which an interlock holds the split or its unit cannot accept it (R187, log 52). -/
structure Split where
  st : SState
  pc : Addr56
  mask : Mask
  trap : Bool
  s : Sparse Word
  spoison : List Nat
  c : BitVec 4
  latches : List Latch
  vmc : Nat
  vsc : Nat
  smc : Nat
  xc : Nat
  wait : WaitKind
  wake : Nat
  limit : Nat
  cychi : Word
  tcause : Word
  tpc : Addr56
  tmask : Mask
  taddr : Addr56
  tsplit : Word
  replay : Option Mask
  replayNow : Bool
  resume : Option SState
  rwait : WaitKind
  rlimit : Nat
  markPc : Addr56
  held : Bool
  pollBy : Nat
  stall : Nat
  age : Nat
  parked : Option Parked
deriving DecidableEq, Repr, Inhabited

/-- An entry of the deferred list (R156), with the push order of R157. -/
structure Deferred where
  pc : Addr56
  mask : Mask
  s : Sparse Word
  spoison : List Nat
  c : BitVec 4
  st : SState
  wait : WaitKind
  seq : Nat
  cychi : Word
deriving DecidableEq, Repr, Inhabited

/-- What completes a counted operation. -/
inductive PendKind where
  | memory
  | window (requests : List Nat)
  | parked
  | texture
  | raster
  | lres
  | ray
  | spawn
  | matrix
  | copyPort
deriving DecidableEq, Repr, Inhabited

/-- A counted operation outstanding (R155, R236): its counter, the splits that hold a count of it, what it writes when it
completes, the v-registers it reads or writes (R201), and, for an engine request, the parameters read at issue. -/
structure PendOp where
  id : Nat
  kind : PendKind
  ctr : Ctr
  holders : List Nat
  lanes : Mask
  splitMask : Mask
  pc : Addr56
  vwrites : List (Nat × Nat × Word)
  swrites : List (Nat × Word)
  flags : Fl
  acc : Option Access
  regs : List Nat
  args : List Word
  laneArgs : Sparse (List Word)
deriving DecidableEq, Repr, Inhabited

/-- A pending asynchronous cause (R382): the cause, the address it carries, and the lane it belongs to. -/
structure AsyncCause where
  cause : Nat
  addr : Addr56
  lane : Nat
deriving DecidableEq, Repr, Inhabited

/-- An entry of the capture table (R273); the table lists its entries by the age of their capture. -/
structure Capture where
  obj : Nat
  map : Nat
deriving DecidableEq, Repr, Inhabited

/-- The latched grid of one strip and view (R334 to R336): breakpoints, the six density codes in the layout of +0x08, the
display size and strip height they apply to, and whether the latch was STALE. -/
structure Warp where
  bx1 : Nat
  bx2 : Nat
  by1 : Nat
  by2 : Nat
  codes : Nat
  w : Nat
  h : Nat
  sh : Nat
  stale : Bool
deriving DecidableEq, Repr, Inhabited

/-- A triangle slot (R340): vertices after any exchange, A > 0, whether 1 and 2 were exchanged, the captured strip. -/
structure TriSlot where
  ready : Bool
  xs : List Int
  ys : List Int
  area : Int
  swapped : Bool
  view : Nat
  strip : Nat
  warp : Warp
deriving DecidableEq, Repr, Inhabited

/-- States of a ray context (R362). -/
inductive RayState where
  | none | running | event | done
deriving DecidableEq, Repr, Inhabited

/-- A hit or candidate (R364): t, the weights, PRIM, INST, GEOM, and FRONT. -/
structure RayHit where
  t : Word
  w1 : Word
  w2 : Word
  prim : Word
  inst : Word
  geom : Word
  front : Bool
deriving DecidableEq, Repr, Inhabited

/-- A traversal stack entry (R365, R368): the child word, the entry distance, the instance record it lies inside. -/
structure RayStack where
  child : Word
  te : FVal
  ipos : Option Nat
deriving DecidableEq, Repr, Inhabited

/-- A leaf in progress: its triangle words, the next triangle, the instance record it lies inside (R365). -/
structure RayLeaf where
  words : List Word
  k : Nat
  ipos : Option Nat
deriving DecidableEq, Repr, Inhabited

/-- A ray context of a lane (R362 to R369): the ray's nine words, imm32 and the records of RTRACE, the budget of visits, the
committed hit, the candidate, the on-chip stack (top first), the count of spilled entries, the structure visited next, the leaf in
progress, the recorded decision, visits, the status with which the ray is ending, window data that have arrived, by address and length, and
the counted operation to which the ray's next result belongs. -/
structure RayCtx where
  st : RayState
  ray : List Word
  flags : Word
  bvh : List Word
  spill : Option (List Word)
  budget : Nat
  hit : Option RayHit
  cand : Option RayHit
  stack : List RayStack
  spilled : Nat
  next : Option RayStack
  leaf : Option RayLeaf
  decision : Nat
  visits : Nat
  final : Option Nat
  got : List ((Nat × Nat) × List Byte)
  op : Nat
deriving DecidableEq, Repr, Inhabited

/-- A level of a launch (R172). -/
structure Level where
  extent : Nat
  scope : Nat
  dom : Nat
deriving DecidableEq, Repr, Inhabited

/-- A launch record with its kernel descriptor, as copied when the launch was checked (R170, R171). -/
structure LaunchRec where
  entry : Nat
  regblk : BitVec 16
  scratch : Nat
  segwl : Nat
  prio : Nat
  viewset : Nat
  args : List Word
  seed : Word
  comp : Nat
  rbudget : Nat
  stripdl : Word
  niter : Nat
  itpt : Nat
  spill : Nat
  tmask : BitVec 8
  rqueue : Bool
  levels : List Level
  fidx : Nat
deriving DecidableEq, Repr, Inhabited

/-- States of a launch (R418, R419). -/
inductive LaunchState where
  | queued | running | complete | refused (check : Nat)
deriving DecidableEq, Repr, Inhabited

/-- A launch of a context. -/
structure Launch where
  id : Nat
  gen : Nat
  rc : LaunchRec
  recAddr : Nat
  state : LaunchState
  started : Nat
  completed : Nat
  compFail : Bool
  parent : Option Nat
deriving DecidableEq, Repr, Inhabited

/-- Who a group is and where it runs (R20, R174, R177, R183). -/
structure GroupId where
  ctx : Nat
  launch : Nat
  block : Nat
  gid : Nat
  cpos : Nat
  gidx : Nat
  cluster : Nat
  core : Nat
  gslot : Nat
  cslot : Nat
  prio : Nat
  gen : Nat
deriving DecidableEq, Repr, Inhabited

/-- What a group reads of its launch (R20, R25, R171, R174, R179, R180). -/
structure GroupLaunch where
  idx : List Nat
  ext : List Nat
  dom : List Nat
  scopes : List Nat
  stripdl : Word
  itbeg : Nat
  itend : Nat
  itfix : Word
  rbudget : Nat
  spillCap : Nat
  spillFrames : List (Nat × Nat)
deriving DecidableEq, Repr, Inhabited

/-- A group (R149). `live` is false once it has exited. The pending-launch queue lists each record with its address and the
order in which it was made (R181). For R157, `moved` is one past the cycle in which the deferred list was last served, `listed` its length at
the start of the cycle and `freed` the entries that merges and exits have freed in it. -/
structure Group where
  live : Bool
  saved : Bool
  who : GroupId
  regs : GroupRegs
  lch : GroupLaunch
  exited : Mask
  splits : List Split
  deferred : List Deferred
  seq : Nat
  queue : List (LaunchRec × Nat × Nat)
  taken : Nat
  startedN : Nat
  tris : List TriSlot
  rays : List RayCtx
  captures : List Capture
  async : List AsyncCause
  ops : List PendOp
  moved : Nat
  listed : Nat
  freed : Nat
deriving DecidableEq, Repr, Inhabited

/-- One phase of a barrier (R190): arrived lanes per GROUPID and the expected count. -/
structure Phase where
  arrived : Sparse Mask
  expected : Option Nat
deriving DecidableEq, Repr, Inhabited

/-- A named barrier of a block (R190): phase number, current and next phase, and the phase each group joined last; `last` is one past the
cycle in which a phase last completed (R192). -/
structure Barrier where
  phase : Nat
  cur : Phase
  nxt : Phase
  joined : Sparse Nat
  last : Nat
deriving DecidableEq, Repr, Inhabited

/-- A block that has started and not yet left (R177); while saved it keeps its scratchpad image with the poison marks of its sectors,
and the runs of the save area that hold its parts (R395, R396). -/
structure Block where
  live : Bool
  saved : Bool
  ctx : Nat
  launch : Nat
  block : Nat
  cluster : Nat
  cores : List Nat
  scrOff : Nat
  scrLen : Nat
  scratch : Nat
  ngroups : Nat
  groups : List Nat
  barriers : List Barrier
  image : List Host.Cell
  imagePoison : List Nat
  runs : List (Nat × Nat)
  why : SaveWhy
  lastMove : Option Nat
deriving DecidableEq, Repr, Inhabited

/-- States of a slot-table entry (R184). -/
inductive SlotState where
  | empty | bound | running | done
deriving DecidableEq, Repr, Inhabited

/-- A slot-table entry (R183, R184); `order` is when its record was written. -/
structure SlotEntry where
  st : SlotState
  bind : BindRecord
  order : Nat
deriving DecidableEq, Repr, Inhabited

/-- A cached 64-byte sector: valid and dirty bits per byte, data (byte k in bits [8k+7:8k]), poison (R213, R434). -/
structure Sector where
  valid : BitVec 64
  dirty : BitVec 64
  data : BitVec 512
  poison : Bool
deriving DecidableEq, Repr, Inhabited

/-- A core (R183, R213, R229, R392). `strm` and `keep` list the L1 lines that R215's policies mark, by sector key over 4. Partition queues hold blocking VACQs in the order of their issue (R201). -/
structure CoreSt where
  l1 : Sparse Sector
  strm : List Nat
  keep : List Nat
  scache : Sparse Sector
  slots : List SlotEntry
  active : Nat
  target : Nat
  busy : Bool
  ctxs : List (Option Nat)
  slotSt : List Nat
  cycleBase : Nat
  vacqs : List (SplitRef × Nat)
deriving DecidableEq, Repr, Inhabited

/-- A range mapped by MAP TYPE 0 (R413); a pinned range holds its pages as (VA, size code, physical address). -/
structure MapRange where
  va : Nat
  len : Nat
  r : Bool
  w : Bool
  x : Bool
  pin : Bool
  pages : List (Nat × Nat × Nat)
deriving DecidableEq, Repr, Inhabited

/-- A window of a context (R420). -/
structure Window where
  va : Nat
  len : Nat
  kind : Nat
  r : Bool
  w : Bool
  x : Bool
  q : Nat
  remote : Nat
deriving DecidableEq, Repr, Inhabited

/-- An entry of the binding table (R250). -/
structure Binding where
  obj : Nat
  base : Nat
  len : Nat
deriving DecidableEq, Repr, Inhabited

/-- A fault-log entry (R390). -/
structure LogEntry where
  seq : Nat
  kind : Nat
  cause : Nat
  core : Nat
  cluster : Nat
  group : Nat
  block : Nat
  mask : Mask
  addr : Addr56
  pc : Addr56
deriving DecidableEq, Repr, Inhabited

/-- A fault-buffer record (R391). -/
structure FaultBuf where
  line : Nat
  bytes : BitVec 256
  data : List Host.Cell
deriving DecidableEq, Repr, Inhabited

/-- States of a context (R389, R415). -/
inductive CtxState where
  | absent | running | failed (cause : Nat) | destroyed
deriving DecidableEq, Repr, Inhabited

/-- A context (R211, R225, R250, R378, R387, R390, R396, R404, R413). -/
structure Context where
  st : CtxState
  queue : Nat
  heapBase : Nat
  heapN : Nat
  trapBase : Nat
  saveBase : Nat
  saveLen : Nat
  weight : Nat
  windowQ : Nat
  rkva : Word
  rkws : Word
  maps : List MapRange
  resident : Sparse Nat
  backing : List Host.Cell
  backPoison : List Nat
  windows : List Window
  grants : List (Nat × Nat)
  binds : List Binding
  log : List LogEntry
  logSeq : Nat
  logLost : Nat
  fbuf : List FaultBuf
  energy : Nat
  savesRefused : Nat
  launches : List Launch
  nextLaunch : Nat
  runs : List (Nat × Nat)
  reserve : Nat
  drawer : Option SplitRef
  destroyReply : Option (Nat × List Word)
deriving DecidableEq, Repr, Inhabited

end Sys2Proof.Machine
end

