-- ==== Sys2Proof/Machine/Engines.lean ====
section
/-!
DEFINITION. The parts of the machine's state outside the groups: accumulator tiles, the engines' queues, clusters, view sets
and strips, queue pairs, ports, flash, logs, and the schedule that says which agent moves next (12, 13, 15, 16, 17, 19 to 21).
-/

namespace Sys2Proof.Machine

/-- An accumulator tile (R277): elements by 64 i + j, the anchor, the versions, the sticky bits, poisoned elements; `acceptAt` is one past the
cycle in which a command was last accepted (R279). -/
structure Tile where
  owner : Option Nat
  x : Sparse Int
  anchor : Int
  ver : Nat
  tv : Nat
  nv : Bool
  loss : Bool
  ovf : Bool
  fault : Bool
  poison : List Nat
  acceptAt : Nat
deriving DecidableEq, Repr, Inhabited

/-- The kinds of command in the matrix queue (R280). -/
inductive MatKind where
  | mma | mzero | mrd | mst | mld
deriving DecidableEq, Repr, Inhabited

/-- An accepted matrix command with everything read at acceptance (R279, R292 to R296). -/
structure MatCmd where
  kind : MatKind
  tile : Nat
  e : Nat
  group : Nat
  ctx : Nat
  block : Nat
  splitMask : Mask
  lanes : Mask
  pc : Addr56
  sub : Nat
  mode : Nat
  fmt : List Word
  locA : Nat
  locB : Nat
  addr : Nat
  anchor : Option Int
  cw : Option (Nat × Word)
  vd : Nat
  index : Nat
  op : Nat
  snapshot : Option Tile
deriving DecidableEq, Repr, Inhabited

/-- A copy command with its captured scalars (R301 to R318). `op` is the counted operation while it waits in the port;
`landed` says that the payload has been accepted; `order` is the order of acceptance. -/
structure CopyCmd where
  opcode : Nat
  group : Nat
  ctx : Nat
  block : Nat
  splitMask : Mask
  pc : Addr56
  sub : Nat
  imm : Word
  src : List Word
  dst : List Word
  ctl : List Word
  tile : Nat
  mode : Nat
  op : Nat
  landed : Bool
  order : Nat
deriving DecidableEq, Repr, Inhabited

/-- A thermal sample of a cluster (R400). -/
structure Therm where
  hot : BitVec 8
  thr : Int
  ihr : Nat
  gen : Nat
deriving DecidableEq, Repr, Inhabited

/-- A cluster (R221, R222, R277, R280, R301, R314, R370, R399 to R406). `ratio` is the register, `laneRatio` what the
lane clock runs at, `ratioNext` writes not yet in effect with their cycles; lane time counts sixteenths of a lane cycle. `wants` marks a request
for admission that is about to be queued. `sensor` is what its sensors read now: HOT and headroom (R400). For R404, `issuedBy` counts each context's operations since the last sample, `recent` lists the lane
cycle and the context of each operation of the last 1,024 lane cycles, `departed` the contexts that departed in cycle `departAt`, with their operations among them. The spawn queue
lists records with the entry each holds (0 to 7 reserved, 8 general) and the cycle of its push, oldest first. -/
structure Cluster where
  sram : List Host.Cell
  spoison : List Nat
  cache : Sparse Sector
  sps : Nat
  oldSps : Nat
  busy : Bool
  pend : Bool
  tiles : List Tile
  matq : List MatCmd
  copyq : List CopyCmd
  ports : List CopyCmd
  offers : List CopyCmd
  spawnOwner : Option Nat
  spawn : List (List Word × Nat × Nat)
  ratio : Nat
  laneRatio : Nat
  ratioNext : List (Nat × Nat)
  lane16 : Nat
  therm : Therm
  sensor : BitVec 8 × BitVec 8
  hotFor : Nat
  idle : Bool
  wants : Bool
  waiting : Bool
  last : Nat
  issuedBy : Sparse Nat
  recent : List (Nat × Nat)
  departed : List (Nat × Nat)
  departAt : Nat
  fenced : Bool
deriving DecidableEq, Repr, Inhabited

/-- The slew limiter (R402): wave generation, queued clusters, the cycle of the last admission. -/
structure Limiter where
  gen : Nat
  queue : List Nat
  last : Option Nat
deriving DecidableEq, Repr, Inhabited

/-- One view's registers (R330, R348). -/
structure View where
  fovx : Nat
  fovy : Nat
  dgx : Nat
  dgy : Nat
  codes : Nat
  m : List Word
  lens : List Word
  route : List Word
  gaze : Option (Nat × Nat)
deriving DecidableEq, Repr, Inhabited

/-- States of a strip (R352). -/
inductive StripState where
  | idle | latched | building | emitted | fallback
deriving DecidableEq, Repr, Inhabited

/-- The last emitted payload of a view of a strip (R352): base address, PFMT, FSEQ, STALE and gaze SEQ, and the split that handed
it over. -/
structure Payload where
  base : Nat
  ctx : Nat
  pfmt : Nat
  fseq : Nat
  stale : Bool
  gzseq : Nat
  group : Nat
  splitMask : Mask
  pc : Addr56
deriving DecidableEq, Repr, Inhabited

/-- A transmission of a view that waits (R352, R354, R356): whether it is a late reuse, its FSEQ, and the payload that it carries, if any. -/
structure Transmission where
  late : Bool
  fseq : Nat
  payload : Option Payload
deriving DecidableEq, Repr, Inhabited
/-- One view of a strip: emitted bit, last payload, transmission count, and the transmissions that wait, in order. -/
structure StripView where
  emitted : Bool
  last : Option Payload
  fseq : Nat
  due : List Transmission
  warp : Warp
deriving DecidableEq, Repr, Inhabited

/-- A strip (R336, R351, R352). -/
structure Strip where
  st : StripState
  latch : Nat
  dl : Nat
  stale : Bool
  gzseq : Nat
  views : List StripView
deriving DecidableEq, Repr, Inhabited

/-- A view set (R328 to R333). -/
structure ViewSet where
  ctx : Option Nat
  w : Nat
  h : Nat
  sh : Nat
  gzage : Nat
  gzport : Nat
  views : List View
  strips : List Strip
  seq : Option Nat
  arrival : Nat
  drops : Nat
  stripDrops : Nat
  releasing : Bool
  unbindReply : Option (Nat × List Word)
deriving DecidableEq, Repr, Inhabited

/-- A queue pair (R411). Command queue pairs keep their TAGs with commands and responses, and
commands that wait for an earlier one to be answered (R415). -/
structure QueuePair where
  used : Bool
  kind : QKind
  ctx : Option Nat
  tags : List (List Word × List (List Word))
  waiting : List Instr
deriving DecidableEq, Repr, Inhabited

/-- A subport (R409, R410, R413); `known` lists the link addresses that it has learnt, by IP address. -/
structure Subport where
  up : Bool
  linkLocal : Bool
  mtu : Nat
  vid : Nat
  pcp : Nat
  ip4 : Word
  ip4len : Nat
  ip6 : List Word
  ip6len : Nat
  gateway : List Word
  paused : BitVec 8
  known : List (Nat × Nat)
deriving DecidableEq, Repr, Inhabited

/-- A port: its subports and drop counts (R409, R419). -/
structure Port where
  subs : List Subport
  drops : Nat
  fragments : Nat
  stripDrops : Nat
deriving DecidableEq, Repr, Inhabited

/-- A flash slot (R429): its bytes and record; an empty slot has none. -/
structure FlashSlot where
  data : List Host.Cell
  record : Option (Nat × Nat)
deriving DecidableEq, Repr, Inhabited

/-- An open FLASH sequence (R429). -/
structure FlashOpen where
  q : Nat
  slot : Nat
  next : Nat
deriving DecidableEq, Repr, Inhabited

/-- What a window request serves: lanes of a counted operation, an SWAITG of a split, a copy command by cluster and order, or the
ray of a lane. -/
inductive WinUse where
  | lanes (op : Nat)
  | await (split : Nat)
  | copy (cluster order : Nat)
  | ray (lane : Nat)
deriving DecidableEq, Repr, Inhabited

/-- A window request in flight (R420, R421, R423): the lanes it carries, its queue pair and remote address, the tick at which it was
sent, and the cause with which it has failed while its trap cannot be taken yet. -/
structure WinReq where
  id : Nat
  group : Nat
  use : WinUse
  acc : Access
  q : Nat
  remote : Nat
  sent : Nat
  failed : Option Nat
deriving DecidableEq, Repr, Inhabited

/-- An inbound-error record (R423). -/
structure InboundError where
  src : BitVec 128
  q : Nat
  addr : BitVec 64
  kind : Nat
deriving DecidableEq, Repr, Inhabited

/-- What a command waits for before it is answered: the requests that went through a window, the reads of a grant (R212, R425), the weight
store's change of mode (R226); or what an event from outside waits for before it acts: a context's reserve of frames (R387). -/
inductive WaitFor where
  | window (ctx kind lo hi : Nat)
  | grant (ctx lo hi : Nat)
  | mode (load : Bool)
  | frames (ctx : Nat) (event : Instr)
deriving DecidableEq, Repr, Inhabited

/-- A command that has been performed but for its wait, with its queue pair and words. -/
structure Waiting where
  q : Nat
  cmd : List Word
  what : WaitFor
deriving DecidableEq, Repr, Inhabited

/-- What leaves the device: a message on a queue pair, a reply to an RDMA operation, a strip packet or frame. -/
inductive Sent where
  | message (q : Nat) (words : List Word)
  | rdmaAck (q : Nat)
  | rdmaData (q : Nat) (data : List Byte)
  | rdmaNak (q : Nat) (remoteAccess : Bool)
  | rdmaOld (q : Nat) (old : BitVec 64)
  | rdmaWriteOut (q id : Nat) (remote : Nat) (data : List Byte)
  | rdmaReadOut (q id : Nat) (remote len : Nat)
  | rdmaAtomicOut (q id : Nat) (remote : Nat) (cas : Bool) (operand compare : BitVec 64)
  | jarian (q : Nat) (payload : List Byte)
  | strip (port sub : Nat) (route : List Word) (payload : List Byte)
  | arpReply (port sub : Nat)
  | neighbourReply (port sub : Nat)
  | cmRep (q : Nat) (data : List Byte)
  | arpRequest (port sub target : Nat)
  | solicitation (port sub target : Nat)
deriving DecidableEq, Repr, Inhabited

/-- What happens outside the programs without a row of its own in the opcode table: a copy of Clove-M into the weight store (R226, R425), an
RDMA operation that is not supported (R411), traffic whose next hop is not known yet, and the answer that names it (R410). -/
inductive Outside where
  | weightCopy (off : Nat) (data : List Byte)
  | rdmaOther (q : Nat)
  | nextHop (port sub : Nat) (v6 : Bool) (dest : Nat)
  | neighbour (port sub address link : Nat)
deriving DecidableEq, Repr, Inhabited

/-- What a turn of the schedule does after its time has passed: a split that issues in this cycle does so before the others, an interlock or
a busy unit holds a split for some cycles (R187), an event happens, or nothing. -/
inductive Action where
  | issue (who : SplitRef)
  | stall (who : SplitRef) (cycles : Nat)
  | event (i : Instr)
  | outside (e : Outside)
  | pass
deriving DecidableEq, Repr, Inhabited

/-- How far the present cycle has come: nothing yet, requests for admission queued (R402), the splits that issue chosen (R188). -/
inductive Stage where
  | fresh | asked | planned
deriving DecidableEq, Repr, Inhabited

/-- A split that issues in the present cycle, and the split with which it shares a vector ALU (R160, R188). `src` holds the group's registers
as both read them, once the lower-numbered of the two has issued. -/
structure Slot where
  who : SplitRef
  mate : Option SplitRef
  src : Option GroupRegs := none
deriving DecidableEq, Repr, Inhabited

/-- One turn of the schedule: front-end cycles and reference ticks that pass, then an action. -/
structure Turn where
  cycles : Nat
  ticks : Nat
  act : Action
deriving DecidableEq, Repr, Inhabited

/-- Firmware, flash and module security state (R426 to R432, R436). -/
structure Boot where
  stage : Nat
  tripped : Bool
  running : Nat
  svnMin : Nat
  svn : Nat
  fwDigest : BitVec 384
  slots : List FlashSlot
  seqOpen : Option FlashOpen
deriving DecidableEq, Repr, Inhabited

/-- Error counts of one storage kind and cluster (R435). -/
structure ErrCount where
  corrected : Nat
  uncorrectable : Nat
deriving DecidableEq, Repr, Inhabited

end Sys2Proof.Machine
end

