-- ==== Sys2Proof/Machine/Sparse.lean ====
section
/-!
DEFINITION. The sparse container: pairs of an index and a value, indexes strictly rising, no value equal to the
default of its place, so that equal contents are equal data. Memories, register files, caches and tiles use it.
-/

namespace Sys2Proof.Machine

/-- The value at an index; an unlisted index holds the default. -/
def sget (d : α) : Sparse α → Nat → α
  | [], _ => d
  | (i, v) :: t, k => if i = k then v else sget d t k

/-- Placing an entry, without looking at the default. -/
def sput : Sparse α → Nat → α → Sparse α
  | [], k, v => [(k, v)]
  | (i, x) :: t, k, v => if i = k then (k, v) :: t else if k < i then (k, v) :: (i, x) :: t else (i, x) :: sput t k v

/-- Removing an entry. -/
def sdel (m : Sparse α) (k : Nat) : Sparse α := m.filter fun e => e.1 != k

/-- Writing a value: the default is not listed. -/
def sset [DecidableEq α] (d : α) (m : Sparse α) (k : Nat) (v : α) : Sparse α :=
  if v = d then sdel m k else sput m k v

/-- The canonical form: indexes rise strictly above a bound and no value is the default. -/
def swfFrom [DecidableEq α] (d : α) : Nat → Sparse α → Bool
  | _, [] => true
  | b, (i, v) :: t => decide (b ≤ i) && decide (v ≠ d) && swfFrom d (i + 1) t

/-- The canonical form of a sparse container. -/
def swf [DecidableEq α] (d : α) (m : Sparse α) : Bool := swfFrom d 0 m

/-- Removing every entry whose index a test selects. -/
def sdropWhere (p : Nat → Bool) (m : Sparse α) : Sparse α := m.filter fun e => !p e.1

end Sys2Proof.Machine
end

