-- ==== Sys2Proof/Machine/State.lean ====
section
/-!
DEFINITION. The machine's state, the reasons a step can stop, and the state after reset (R426: the device after boot, before
any command). Plain data throughout; memory lists only bytes that differ from what an unlisted byte reads as (log 3).
-/

namespace Sys2Proof.Machine

/-- Why a step stops. -/
inductive Fault where
  /-- Raised by a meaning of an instruction word when `State.cur` names no resident split of a live group. Safe: the
  hardware never issues without a split; the model stops. -/
  | noIssuingSplit
deriving DecidableEq, Repr, Inhabited

/-- Why an instruction has no meaning. -/
inductive Refusal where
  /-- Raised by an arm of `exec` whose instruction is not modelled. Safe: nothing can be proved of a next state. -/
  | notModelled (mnemonic : String)
deriving DecidableEq, Repr, Inhabited

/-- The device's registers and firmware state that belong to no cluster. -/
structure Device where
  wsLoad : Bool
  cycle : Nat
  tick : Nat
  deviceId : Word
  thot : Nat
  fstep : Nat
  fstepAt : Nat
  coolSince : Nat
  sampledAt : Nat
  atomicAt : Nat
  servedCtx : Nat
  linkErrors : Nat
  remoteTimeout : Nat
  ets : List (BitVec 8)
  limiter : Limiter
  used : List (Nat × Nat)
  poolNext : Nat
  inbound : List InboundError
  errors : List ErrCount
  poison : List Nat
  wsPoison : List Nat
  waits : List Waiting
deriving DecidableEq, Repr, Inhabited

/-- The state of the JO-960. `schedule`, `stage`, `plan`, `cur`, `fresh` and `outbox` are the model's own (log 4, 5, 9). -/
structure State where
  mem : List Host.Cell
  ws : List Host.Cell
  dev : Device
  groups : List Group
  blocks : List Block
  ctxs : List Context
  cores : List CoreSt
  clusters : List Cluster
  sets : List ViewSet
  qps : List QueuePair
  ports : List Port
  boot : Boot
  winReqs : List WinReq
  nextId : Nat
  schedule : List Turn
  stage : Stage
  plan : List Slot
  cur : SplitRef
  fresh : Nat
  outbox : List Sent
deriving DecidableEq, Repr, Inhabited

def CoreSt.reset : CoreSt :=
  { l1 := [], strm := [], keep := [], scache := [], slots := List.replicate 16 { st := .empty, bind := default, order := 0 }, active := 0, target := 0,
    busy := false, ctxs := List.replicate 3 none, slotSt := List.replicate 3 0, cycleBase := 0, vacqs := [] }

def Tile.reset : Tile :=
  { owner := none, x := [], anchor := 0, ver := 0, tv := 0, nv := false, loss := false, ovf := false, fault := false, poison := [], acceptAt := 0 }

/-- A cluster after reset: CARVE's SPS 4 (R222), RATIO 16 (R399), IHR 100 (R400); idle (log 2). -/
def Cluster.reset : Cluster :=
  { sram := [], spoison := [], cache := [], sps := 4, oldSps := 4, busy := false, pend := false,
    tiles := List.replicate 8 Tile.reset, matq := [], copyq := [], ports := [], offers := [], spawnOwner := none, spawn := [],
    ratio := 16, laneRatio := 16, ratioNext := [], lane16 := 0, therm := { hot := 0, thr := 0, ihr := 100, gen := 0 }, sensor := (0, 100), hotFor := 0, idle := true,
    wants := false, waiting := false, last := 0, issuedBy := [], recent := [], departed := [], departAt := 0, fenced := false }

def ViewSet.reset : ViewSet :=
  { ctx := none, w := 0, h := 0, sh := 0, gzage := 0, gzport := 0, views := [], strips := [], seq := none, arrival := 0,
    drops := 0, stripDrops := 0, releasing := false, unbindReply := none }

/-- A subport before PORTCFG (R410): MTU 9,000, untagged. -/
def Subport.reset : Subport :=
  { up := false, linkLocal := false, mtu := 9000, vid := 0, pcp := 0, ip4 := 0, ip4len := 0, ip6 := [0, 0, 0, 0], ip6len := 0,
    gateway := [0, 0, 0, 0], paused := 0, known := [] }

def Port.reset : Port := { subs := List.replicate 4 Subport.reset, drops := 0, fragments := 0, stripDrops := 0 }

def Device.reset : Device :=
  { wsLoad := true, cycle := 0, tick := 0, deviceId := 0, thot := 95, fstep := 0, fstepAt := 0, coolSince := 0, sampledAt := 0, atomicAt := 0, servedCtx := 0, linkErrors := 0,
    remoteTimeout := 2000, ets := List.replicate 8 0, limiter := { gen := 0, queue := [], last := none }, used := [],
    poolNext := 0, inbound := [], errors := List.replicate 123 { corrected := 0, uncorrectable := 0 }, poison := [],
    wsPoison := [], waits := [] }

def Boot.reset : Boot :=
  { stage := 4, tripped := false, running := 0, svnMin := 0, svn := 0, fwDigest := 0,
    slots := List.replicate 2 { data := [], record := none }, seqOpen := none }

/-- The machine after reset: boot has completed (log 1); no context exists and nothing is resident. -/
def State.reset : State :=
  { mem := [], ws := [], dev := Device.reset, groups := [], blocks := [], ctxs := [], cores := List.replicate 96 CoreSt.reset,
    clusters := List.replicate 24 Cluster.reset, sets := List.replicate 4 ViewSet.reset, qps := [],
    ports := List.replicate 12 Port.reset, boot := Boot.reset, winReqs := [], nextId := 0, schedule := [],
    stage := .fresh, plan := [], cur := { group := 0, split := 0 }, fresh := 0, outbox := [] }

end Sys2Proof.Machine
end

