-- ==== Sys2Proof/Machine/Access.lean ====
section
/-!
DEFINITION. Reading and writing the parts of the state: groups, splits, cores, clusters, contexts, blocks, and the registers
of R15 with their poison marks (R434). Every register is read and written through these accessors.
-/

namespace Sys2Proof.Machine

def State.grp (s : State) (g : Nat) : Group := s.groups.getD g default
def State.updG (s : State) (g : Nat) (f : Group → Group) : State := { s with groups := upd s.groups g f }
def State.spl (s : State) (r : SplitRef) : Split := (s.grp r.group).splits.getD r.split default
def Group.updS (g : Group) (i : Nat) (f : Split → Split) : Group := { g with splits := upd g.splits i f }
def State.updS (s : State) (r : SplitRef) (f : Split → Split) : State := s.updG r.group fun g => g.updS r.split f
def State.ctx (s : State) (c : Nat) : Context := s.ctxs.getD c default
def State.updC (s : State) (c : Nat) (f : Context → Context) : State := { s with ctxs := upd s.ctxs c f }
def State.cl (s : State) (k : Nat) : Cluster := s.clusters.getD k default
def State.updCl (s : State) (k : Nat) (f : Cluster → Cluster) : State := { s with clusters := upd s.clusters k f }
def State.core (s : State) (k : Nat) : CoreSt := s.cores.getD k default
def State.updCore (s : State) (k : Nat) (f : CoreSt → CoreSt) : State := { s with cores := upd s.cores k f }
def State.blk (s : State) (b : Nat) : Block := s.blocks.getD b default
def State.updB (s : State) (b : Nat) (f : Block → Block) : State := { s with blocks := upd s.blocks b f }
def State.set (s : State) (k : Nat) : ViewSet := s.sets.getD k default
def State.updSet (s : State) (k : Nat) (f : ViewSet → ViewSet) : State := { s with sets := upd s.sets k f }
def State.qp (s : State) (q : Nat) : QueuePair := s.qps.getD q default
def State.updQ (s : State) (q : Nat) (f : QueuePair → QueuePair) : State := { s with qps := upd s.qps q f }
def State.updDev (s : State) (f : Device → Device) : State := { s with dev := f s.dev }
/-- Whether the boot has completed: no port sends or takes a frame before that, nor after a trip (R426, R436). -/
def State.up (s : State) : Bool := s.boot.stage == 4
/-- Sending something out of the device. -/
def State.send (s : State) (m : Sent) : State := { s with outbox := if s.up then s.outbox ++ [m] else s.outbox }
/-- A fresh identifier (model's own). -/
def State.newId (s : State) : Nat × State := (s.nextId, { s with nextId := s.nextId + 1 })
/-- A fresh free value (log 9). -/
def State.free (s : State) : Nat × State := (Config.freeNat s.fresh, { s with fresh := s.fresh + 1 })

/-- The core of a group, numbered 0 to 95 over the device. -/
def Group.coreIx (g : Group) : Nat := 4 * g.who.cluster + g.who.core
def Group.live? (g : Group) : Bool := g.live && !g.saved
/-- The partition of a group (R177). -/
def Group.part (g : Group) : Nat := g.who.gidx % 8
/-- The state of a split of a resident group; FREE where the group is saved or has exited (R394). -/
def State.resident (s : State) (r : SplitRef) : SState := if (s.grp r.group).live? then (s.spl r).st else .free
/-- The block of a group, by index; the first live block of that launch and number. -/
def State.blockOf (s : State) (g : Group) : Nat :=
  (s.blocks.findIdx? fun b => b.live && b.ctx == g.who.ctx && b.launch == g.who.launch && b.block == g.who.block).getD s.blocks.length
/-- The split that issues: resident and of a live group. -/
def State.curOk (s : State) : Bool :=
  let g := s.grp s.cur.group
  g.live? && decide (s.cur.group < s.groups.length) && decide (s.cur.split < g.splits.length) &&
    (s.spl s.cur).st == SState.ready
/-- The launch of a group. -/
def State.launchOf (s : State) (g : Group) : Launch :=
  ((s.ctx g.who.ctx).launches.find? fun l => l.id == g.who.launch).getD default

/-- The key of R188. -/
def Split.key (sp : Split) (prio : Nat) : Nat := min (prio + sp.age / 64) 31
/-- Whether one split goes before another: key, age, group slot, split number (R188). -/
def State.before (s : State) (a b : SplitRef) : Bool :=
  let g := s.grp a.group
  let h := s.grp b.group
  let x := s.spl a
  let y := s.spl b
  let ka := x.key g.who.prio
  let kb := y.key h.who.prio
  decide (kb < ka) || (ka == kb && (decide (y.age < x.age) || (x.age == y.age &&
    (decide (g.who.gslot < h.who.gslot) || (g.who.gslot == h.who.gslot && decide (a.split < b.split))))))

/-- Whether a v-register's block is mapped (R16). -/
def Group.vmapped (g : Group) (reg : Nat) : Bool := (g.regs.phys.getD (reg / 16) none).isSome
/-- A lane of a v-register. -/
def Group.readV (g : Group) (reg lane : Nat) : Word := sget 0 g.regs.v (reg * 32 + lane)
/-- Writing a lane of a v-register clears its poison (R434). -/
def Group.writeV (g : Group) (reg lane : Nat) (x : Word) : Group :=
  { g with regs := { g.regs with v := sset 0 g.regs.v (reg * 32 + lane) x,
                                 vpoison := g.regs.vpoison.filter (· != reg * 32 + lane) } }
def Group.readP (g : Group) (n : Nat) : Mask := g.regs.p.getD n 0
def Group.writeP (g : Group) (n : Nat) (m : Mask) : Group := { g with regs := { g.regs with p := g.regs.p.set n m } }
/-- A scalar by number: s0 to s31 are the split's, s32 to s383 the group's (R15). -/
def State.readS (s : State) (r : SplitRef) (n : Nat) : Word :=
  if n < 32 then sget 0 (s.spl r).s n else sget 0 (s.grp r.group).regs.s n
def Split.writeS (sp : Split) (n : Nat) (x : Word) : Split :=
  { sp with s := sset 0 sp.s n x, spoison := sp.spoison.filter (· != n) }
def Group.writeS (g : Group) (n : Nat) (x : Word) : Group :=
  { g with regs := { g.regs with s := sset 0 g.regs.s n x, spoison := g.regs.spoison.filter (· != n) } }
/-- Writing a scalar clears its poison (R434). -/
def State.writeS (s : State) (r : SplitRef) (n : Nat) (x : Word) : State :=
  if n < 32 then s.updS r fun sp => sp.writeS n x else s.updG r.group fun g => g.writeS n x
/-- Writing consecutive scalars. -/
def State.writeSs (s : State) (r : SplitRef) (n : Nat) : List Word → State
  | [] => s
  | x :: t => (s.writeS r n x).writeSs r (n + 1) t
/-- n consecutive scalars. -/
def State.readSs (s : State) (r : SplitRef) (n k : Nat) : List Word := (List.range k).map fun i => s.readS r (n + i)
/-- An even pair as a 64-bit value, low word first (R17). -/
def State.readPair (s : State) (r : SplitRef) (n : Nat) : Nat :=
  (s.readS r n).toNat + 2 ^ 32 * (s.readS r (n + 1)).toNat
/-- A pair as a 56-bit address: bits [31:24] of the odd register are ignored. -/
def State.readAddr (s : State) (r : SplitRef) (n : Nat) : Nat := s.readPair r n % 2 ^ 56
def Group.orFlags (g : Group) (f : Fl) : Group := { g with regs := { g.regs with flags := g.regs.flags ||| f } }
def State.orFlags (s : State) (g : Nat) (f : Fl) : State := s.updG g fun x => x.orFlags f

/-- Moving the PC; an instruction that was issued again under a replay mask has used it, and a mask held through the handler stays
(R381). -/
def Split.goto (sp : Split) (pc : Addr56) : Split :=
  { sp with pc := pc, replay := if sp.replayNow then none else sp.replay, replayNow := false }
/-- Advancing the PC past an instruction of n words; it wraps modulo 2^56 (R12). -/
def Split.advance (sp : Split) (words : Nat) : Split := sp.goto (sp.pc + BitVec.ofNat 56 (4 * words))
def State.advance (s : State) (words : Nat) : State := s.updS s.cur fun sp => sp.advance words
def State.setPc (s : State) (pc : Addr56) : State := s.updS s.cur fun sp => sp.goto pc
/-- Marking the issuing split held at issue (R152: it stays READY). -/
def State.hold (s : State) : State := s.updS s.cur fun sp => { sp with held := true }
/-- Held marks fall whenever something else has happened. -/
def State.unhold (s : State) : State :=
  { s with groups := s.groups.map fun g => { g with splits := g.splits.map fun sp => { sp with held := false } } }

/-- The wait counters (R15). -/
def Split.ctr (sp : Split) : Ctr → Nat
  | .vmc => sp.vmc | .vsc => sp.vsc | .smc => sp.smc | .xc => sp.xc
def Split.setCtr (sp : Split) (c : Ctr) (n : Nat) : Split :=
  match c with
  | .vmc => { sp with vmc := n } | .vsc => { sp with vsc := n } | .smc => { sp with smc := n } | .xc => { sp with xc := n }
def Split.idleCtrs (sp : Split) : Bool := sp.vmc == 0 && sp.vsc == 0 && sp.smc == 0 && sp.xc == 0
def Split.memIdle (sp : Split) : Bool := sp.vmc == 0 && sp.vsc == 0 && sp.smc == 0
def Split.hasLatch (sp : Split) : Bool := sp.latches.any (·.live)
def Latch.dead : Latch := { vals := [], lanes := 0, live := false, age := 0, poison := 0 }
def deadLatches : List Latch := List.replicate 4 Latch.dead

/-- A FREE entry of the split table. -/
def Split.empty : Split :=
  { st := .free, pc := 0, mask := 0, trap := false, s := [], spoison := [], c := 0, latches := deadLatches, vmc := 0, vsc := 0, smc := 0,
    xc := 0, wait := .yield, wake := 0, limit := 0, cychi := 0, tcause := 0, tpc := 0, tmask := 0, taddr := 0, tsplit := 0, replay := none,
    replayNow := false, resume := none, rwait := .yield, rlimit := 0, markPc := 0, held := false, pollBy := 0, stall := 0, age := 0, parked := none }
/-- Lanes 0 to 31 less the exited ones. -/
def Group.unexited (g : Group) : Mask := ~~~g.exited
/-- The first FREE entry. -/
def Group.freeEntry (g : Group) : Option Nat := g.splits.findIdx? fun sp => sp.st == SState.free

end Sys2Proof.Machine
end

