-- ==== Sys2Proof/Machine/Operands.lean ====
section
/-!
DEFINITION. Every operand form: the S64 selector (R61), immediates and pairs (R83), and the V96 sources with their routes,
latches, inline values, element, abs and neg modifiers (R32, R64 to R69, R164).
-/

namespace Sys2Proof.Machine

/-! ## Scalars -/

/-- The value of an S64 selector (R61). -/
def State.sel (s : State) (n : Nat) : Word :=
  if n < 384 then s.readS s.cur n
  else if n < 392 then (s.grp s.cur.group).readP (n - 384)
  else if n = 392 then (s.spl s.cur).mask
  else w32 ((n : Int) - 464)
/-- The first source. -/
def State.srcA (s : State) (o : S64) : Word := s.sel o.sa.toNat
/-- The second source: sb or imm32 (R83). -/
def State.srcB (s : State) (o : S64) : Word := if o.imm then simm32 o else s.sel o.sb.toNat
def State.srcC (s : State) (o : S64) : Word := s.sel o.sc.toNat
/-- A pair as a 64-bit value. -/
def State.pairA (s : State) (o : S64) : Nat := s.readPair s.cur o.sa.toNat
/-- The 64-bit second source: an inline code or imm32 is sign-extended (R83). -/
def State.pairB (s : State) (o : S64) : Nat :=
  if o.imm then wrapN 64 (simm32 o).toInt
  else if sInline o.sb.toNat then wrapN 64 ((o.sb.toNat : Int) - 464)
  else s.readPair s.cur o.sb.toNat
/-- A 56-bit address from the pair at a selector; bits [31:24] of the odd register are ignored. -/
def State.addrAt (s : State) (n : Nat) : Nat := s.readAddr s.cur n
/-- Writing sd: a scalar, or the whole mask of a predicate (R83). -/
def State.writeSel (s : State) (n : Nat) (x : Word) : State :=
  if n < 384 then s.writeS s.cur n x else s.updG s.cur.group fun g => g.writeP (n - 384) x
/-- Writing a pair, low word first. -/
def State.writePair (s : State) (n : Nat) (x : Nat) : State :=
  (s.writeS s.cur n (BitVec.ofNat 32 x)).writeS s.cur (n + 1) (BitVec.ofNat 32 (x / 2 ^ 32))

/-! ## Vector sources -/

/-- Whether a lane is selected by a predicate enable, index and negate (R31). -/
def Group.predBit (g : Group) (pe : Bool) (pi : Nat) (pn : Bool) (l : Nat) : Bool :=
  !pe || (inMask (g.readP pi) l != pn)
/-- The execution mask of R169; an instruction issued again after RTE takes its replay mask as well (R381). -/
def State.execMask (s : State) (pe : Bool) (pi : Nat) (pn : Bool) : Mask :=
  let g := s.grp s.cur.group
  let sp := s.spl s.cur
  let m := if sp.replayNow then sp.mask &&& sp.replay.getD sp.mask else sp.mask
  maskOf fun l => inMask m l && g.predBit pe pi pn l
def State.vmask (s : State) (o : V96) : Mask := s.execMask o.pe o.pi.toNat o.pn

/-- SrcLane of R69; none is ZERO. -/
def Group.srcLane (g : Group) (route l : Nat) : Option Nat :=
  let w := g.regs.segw
  let p := route % 32
  let b := l - l % w
  let j := l % w
  match route / 32 with
  | 1 => some (b + (j + p) % w)
  | 2 => some (b + p % w)
  | 3 => some (b + (j ^^^ (p % w)))
  | 4 => some (b + (g.readV (224 + p) l).toNat % w)
  | 5 => if j + p < w then some (l + p) else none
  | 6 => if p ≤ j then some (l - p) else none
  | _ => some l

/-- The inline FP constants of R65. -/
def inlineF32 (code : Nat) : Nat :=
  match code with
  | 960 => 0x00000000 | 961 => 0x3F000000 | 962 => 0x3F800000 | 963 => 0x40000000
  | 964 => 0x40800000 | 965 => 0xBF000000 | 966 => 0xBF800000 | 967 => 0xC0000000
  | 968 => 0xC0800000 | 969 => 0x3E800000 | 970 => 0x41000000 | 971 => 0x3E22F983
  | 972 => 0x40490FDB | 973 => 0x3F317218 | 974 => 0x7F800000 | _ => 0x7F7FFFFF
/-- A pattern repeated n bits at a time through 32 bits. -/
def replicate32 (n x : Nat) : Nat := (List.range (32 / n)).foldl (fun a k => a + (x % 2 ^ n) * 2 ^ (n * k)) 0
/-- The float format of a source type. -/
def VTy.fmt : VTy → FFmt
  | .h => fF16 | .g => fBF16 | _ => fF32
/-- The value of an inline selector (R66). -/
def inlineVal (sig : VSrcSig) (ew sel : Nat) : Nat :=
  let v : Int := (sel : Int) - 928
  let dup (x : Nat) : Nat := if sig.pair then x + x * 2 ^ 32 else x
  match sig.ty with
  | .f =>
    if selK sel then dup (inlineF32 sel) else dup (fF32.roundMag false 1 (decide (v < 0)) ((v.natAbs : Nat) : Rat) 1).bits
  | .h | .g =>
    let f := sig.ty.fmt
    let x :=
      if sel = 975 then f.maxIdx
      else if selK sel then (narrow16 f 1 false false (inlineF32 sel) 1).bits
      else (f.roundMag false 1 (decide (v < 0)) ((v.natAbs : Nat) : Rat) 1).bits
    replicate32 16 x
  | _ =>
    if selK sel then inlineF32 sel
    else if sig.pair then wrapN 64 v
    else if sig.packed && ew != 0 then replicate32 (32 / 2 ^ ew) (wrapN (32 / 2 ^ ew) v)
    else wrapN 32 v

/-- A word of a v-register, latch or predicate as lane l's route reads it (R164). -/
def Group.routed (g : Group) (sp : Split) (sel route l : Nat) : Nat :=
  match g.srcLane route l with
  | none => 0
  | some j =>
    if inMask g.exited j then 0
    else if sel < 256 then (g.readV sel j).toNat
    else if sel < 264 then
      let b := sp.latches.getD ((sel - 256) % 4) default
      if inMask sp.mask j && inMask b.lanes j then (sget 0 b.vals j).toNat else 0
    else (inMask (g.readP (sel - 264)) j).toNat
/-- The value of a source selector in lane l before the modifiers: 32 bits, or 64 for a pair. -/
def State.srcRaw (s : State) (sig : VSrcSig) (ew sel route l : Nat) : Nat :=
  if 896 ≤ sel then inlineVal sig ew sel
  else if 512 ≤ sel then
    (if sig.pair then s.readPair s.cur (sel - 512) else (s.readS s.cur (sel - 512)).toNat)
  else
    let g := s.grp s.cur.group
    let sp := s.spl s.cur
    let lo := g.routed sp sel route l
    if sig.pair then lo + 2 ^ 32 * g.routed sp (sel + 1) route l else lo

/-- The element modifiers of R68, with the flags of a half's conversion to F32 (R50). -/
def elemMod (ty : VTy) (ew code : Nat) (fz16 fz32 : Bool) (v : Nat) : Nat × Fl :=
  if code = 0 then (v, 0) else
  match ew with
  | 0 =>
    let n := if code ≤ 2 then 16 else 8
    let x := if code ≤ 2 then field v (16 * code - 1) (16 * (code - 1)) else field v (8 * (code - 3) + 7) (8 * (code - 3))
    match ty with
    | .f => widen16 fF16 fz16 fz32 x
    | .i => (wrapN 32 (sextN n x), 0)
    | _ => (x, 0)
  | 1 =>
    let lo := v % 65536
    let hi := v / 65536
    (match code with
     | 1 => lo * 65536 + hi
     | 2 => lo * 65536 + lo
     | _ => hi * 65536 + hi, 0)
  | _ =>
    (if code = 5 then beNat (leBytes 4 v) else replicate32 8 (field v (8 * (code - 1) + 7) (8 * (code - 1))), 0)
/-- A map over the n-bit elements of an m-bit value. -/
def mapElems (m n : Nat) (f : Nat → Nat) (v : Nat) : Nat :=
  (List.range (m / n)).foldl (fun a k => a + (f (field v (n * k + n - 1) (n * k)) % 2 ^ n) * 2 ^ (n * k)) 0
/-- abs, then neg (R32). -/
def absNeg (sig : VSrcSig) (ew : Nat) (abs neg : Bool) (v : Nat) : Nat :=
  if !abs && !neg then v else
  let m := if sig.pair then 64 else 32
  let n := match sig.ty with
    | .f => 32
    | .h | .g => 16
    | _ => if sig.pair then 64 else if sig.packed then 32 / 2 ^ ew else 32
  let one (x : Nat) : Nat :=
    match sig.ty with
    | .f | .h | .g =>
      let a := if abs then x % 2 ^ (n - 1) else x
      if neg then (if 2 ^ (n - 1) ≤ a then a - 2 ^ (n - 1) else a + 2 ^ (n - 1)) else a
    | .i =>
      let y := sextN n x
      let a := if abs && decide (y < 0) then -y else y
      wrapN n (if neg then -a else a)
    | _ => if neg then wrapN n (-(x : Int)) else x
  mapElems m n one v

/-- RMODE's fields (R21). -/
def Group.mode (g : Group) : Nat := g.regs.rmode.toNat % 8
def Group.fz32 (g : Group) : Bool := g.regs.rmode.getLsbD 3
def Group.fz16 (g : Group) : Bool := g.regs.rmode.getLsbD 4

/-- Read(src, l) of R32 for A or B. -/
def State.readAB (s : State) (sig : VSrcSig) (ew : Nat) (x : VSrc) (l : Nat) : Nat × Fl :=
  let g := s.grp s.cur.group
  let v := s.srcRaw sig ew x.sel.toNat x.route.toNat l
  let (v, fl) := elemMod sig.ty ew x.elem.toNat g.fz16 g.fz32 v
  (absNeg sig ew x.abs x.neg v, fl)
/-- Read(C, l): the whole word or pair (R115). -/
def State.readC (s : State) (sig : VSrcSig) (ew : Nat) (o : V96) (l : Nat) : Nat :=
  s.srcRaw sig ew o.cSel.toNat o.cRoute.toNat l

/-- The sources of one lane, with the flags of reading them. -/
structure LaneSrc where
  a : Nat
  b : Nat
  c : Nat
  fl : Fl
deriving DecidableEq, Repr, Inhabited

/-- The sources that a signature reads, in lane l. -/
def State.laneSrc (s : State) (g : VSig) (o : V96) (l : Nat) : LaneSrc :=
  let ew := o.ew.toNat
  let (a, fa) := match g.a with | some x => s.readAB x ew o.a l | none => (0, 0)
  let (b, fb) := match g.b with | some x => s.readAB x ew o.b l | none => (0, 0)
  let c := match g.c with | some x => s.readC x ew o l | none => 0
  { a := a, b := b, c := c, fl := fa ||| fb }

/-! ## Poison (R434) -/

/-- Whether a scalar selector reads a poisoned scalar. -/
def State.spoisoned (s : State) (n : Nat) : Bool :=
  if n < 32 then (s.spl s.cur).spoison.contains n
  else decide (n < 384) && (s.grp s.cur.group).regs.spoison.contains n
/-- Whether a V96 selector reads poison in lane l. -/
def State.vpoisoned (s : State) (sel route l : Nat) (pair : Bool) : Bool :=
  let g := s.grp s.cur.group
  if 896 ≤ sel then false
  else if 512 ≤ sel then s.spoisoned (sel - 512) || (pair && s.spoisoned (sel - 511))
  else (decide (route / 32 = 4) && g.regs.vpoison.contains ((224 + route % 32) * 32 + l)) ||
    match g.srcLane route l with
    | none => false
    | some j =>
      if inMask g.exited j then false
      else if sel < 256 then
        g.regs.vpoison.contains (sel * 32 + j) || (pair && g.regs.vpoison.contains ((sel + 1) * 32 + j))
      else if sel < 264 then inMask ((s.spl s.cur).latches.getD ((sel - 256) % 4) default).poison j
      else false
/-- The value of a lane selector in B (R195, R204). -/
def State.laneSel (s : State) (o : V96) : Nat :=
  if o.b.sel.toNat < 896 then (s.readS s.cur (o.b.sel.toNat - 512)).toNat else o.b.sel.toNat - 928
def State.segw (s : State) : Nat := (s.grp s.cur.group).regs.segw
/-- SegBase of R31. -/
def State.segBase (s : State) (l : Nat) : Nat := l - l % s.segw
/-- The lane that B names in the segment of lane l (R204). -/
def State.namedLane (s : State) (o : V96) (l : Nat) : Nat := s.segBase l + s.laneSel o % s.segw
/-- Whether a V96 word reads poison from A in lane l: VRDLANE reads the named lane of its lowest active lane for all, VWRLANE reads A only in
a lane that B names (R204, R434). -/
def State.aPoison (s : State) (op : Nat) (x : VSrcSig) (o : V96) (l : Nat) : Bool :=
  let at_ := fun l => s.vpoisoned o.a.sel.toNat o.a.route.toNat l x.pair
  match op with
  | 0x91 => (lowestLane (s.vmask o)).any fun f => at_ (s.namedLane o f)
  | 0x92 => l == s.namedLane o l && at_ l
  | _ => at_ l
/-- The lanes of an execution mask in which a V96 word reads poison. -/
def State.v96Poison (s : State) (op : Nat) (o : V96) : Mask :=
  match vsig op with
  | none => 0
  | some g =>
    let m := s.vmask o
    let t := s.grp s.cur.group
    let src (sig : Option VSrcSig) (sel route l : Nat) : Bool := sig.any fun x => s.vpoisoned sel route l x.pair
    let old := g.old && (!o.nw || o.lat != 0) && t.vmapped o.vd.toNat
    maskOf fun l => inMask m l &&
      (g.a.any (s.aPoison op · o l) || src g.b o.b.sel.toNat o.b.route.toNat l || src g.c o.cSel.toNat o.cRoute.toNat l ||
       (old && t.regs.vpoison.contains (o.vd.toNat * 32 + l)))

end Sys2Proof.Machine
end

