-- ==== Sys2Proof/Machine/Flags.lean ====
section
/-!
DEFINITION. Flag computations: condition flags c0 to c3 (R84), the rounding mode of an operation (R21, R93, R117), and the
OR into FLAGS (R22, R23).
-/

namespace Sys2Proof.Machine

/-- Condition flag n of the issuing split. -/
def State.cflag (s : State) (n : Nat) : Bool := (s.spl s.cur).c.getLsbD n
/-- A nibble with bit n replaced. -/
def setBit4 (c : BitVec 4) (n : Nat) (b : Bool) : BitVec 4 :=
  let m : BitVec 4 := 1 <<< n
  if b then c ||| m else c &&& ~~~m
/-- Writing condition flag n. -/
def State.setC (s : State) (n : Nat) (b : Bool) : State := s.updS s.cur fun sp => { sp with c := setBit4 sp.c n b }
/-- An enabled cf writes 1 when the result pattern is not zero (R84). -/
def State.writeCf (s : State) (cf : BitVec 3) (result : Nat) : State :=
  if cf.getLsbD 2 then s.setC (cf.toNat % 4) (decide (result ≠ 0)) else s
/-- A compare writes its outcome to the flag of cf (R92, R96). -/
def State.writeCmp (s : State) (cf : BitVec 3) (b : Bool) : State := s.setC (cf.toNat % 4) b

/-- The mode of a rounding code: 0 reads RMODE (R21, R117). -/
def State.modeOf (s : State) (code : Nat) : Nat := if code = 0 then (s.grp s.cur.group).mode else code
/-- The scalar form: mode 6 rounds as RNE (R93). -/
def State.smode (s : State) (o : S64) : Nat :=
  let m := if o.imm then (s.grp s.cur.group).mode else s.modeOf (o.aux.toNat % 8)
  if m = 6 then 1 else m
def State.fz32 (s : State) : Bool := (s.grp s.cur.group).fz32
def State.fz16 (s : State) : Bool := (s.grp s.cur.group).fz16
/-- ORing flags into the group's FLAGS (R23). -/
def State.raise (s : State) (f : Fl) : State := s.orFlags s.cur.group f

end Sys2Proof.Machine
end

