-- ==== Sys2Proof/Machine/Mem.lean ====
section
/-!
DEFINITION. The levels of memory (09, 11): byte memories, page tables and frames (R211, R387, R413), the core's L1, the cluster
cache and the home slices with their valid and dirty bytes (R213 to R219), the weight store (R225), region write-back and
invalidation (R216, R217), and the sampler cache (R229).
-/

namespace Sys2Proof.Machine

/-- The home memory's and the other byte stores' canonical form. -/
abbrev Memory.wf (m : List Host.Cell) : Bool := swf (0 : Byte) m
/-- What an unlisted byte reads as (log 3). -/
def Memory.unlisted : Byte := 0
def getB (m : List Host.Cell) (a : Nat) : Byte := sget Memory.unlisted m a
def setB (m : List Host.Cell) (a : Nat) (b : Byte) : List Host.Cell := sset Memory.unlisted m a b
def getBs (m : List Host.Cell) (a n : Nat) : List Byte := (List.range n).map fun i => getB m (a + i)
def setBs (m : List Host.Cell) (a : Nat) : List Byte → List Host.Cell
  | [] => m
  | b :: t => setBs (setB m a b) (a + 1) t
/-- Writing the bytes that a mask selects. -/
def setMasked (m : List Host.Cell) (a : Nat) (mask : BitVec 64) (data : BitVec 512) : List Host.Cell :=
  (List.range 64).foldl (fun m i => if mask.getLsbD i then setB m (a + i) (data.extractLsb' (8 * i) 8) else m) m

/-- A byte mask as a bit mask. -/
def spread (m : BitVec 64) : BitVec 512 :=
  (List.range 64).foldl (fun a i => if m.getLsbD i then a ||| ((255 : BitVec 512) <<< (8 * i)) else a) 0
/-- New bytes where the mask is set, old ones elsewhere. -/
def blend (old new : BitVec 512) (m : BitVec 64) : BitVec 512 :=
  let e := spread m
  (old &&& ~~~e) ||| (new &&& e)
/-- The byte mask of w bytes from offset o. -/
def byteMask (o w : Nat) : BitVec 64 := BitVec.ofNat 64 ((2 ^ w - 1) * 2 ^ o)
def allBytes : BitVec 64 := BitVec.allOnes 64
def noSector : Sector := { valid := 0, dirty := 0, data := 0, poison := false }
/-- 64 bytes as a bit vector and back. -/
def pack64 (l : List Byte) : BitVec 512 := BitVec.ofNat 512 (leNat l)

/-! ## Page tables and frames -/

/-- The number of 64-KiB frames of home memory (R218). -/
def totalFrames : Nat := 3145728
def pageBytes : Nat := 65536
/-- Page sizes by code (R413). -/
def pageSize (code : Nat) : Nat := match code with | 0 => 2 ^ 16 | 1 => 2 ^ 21 | _ => 2 ^ 30

/-- The outcome of a translation: a physical address, a fault that Clove-M can resolve, or a refusal (R211). -/
inductive Xlat where
  | ok (phys : Nat)
  | absent
  | readOnly
  | refused
deriving DecidableEq, Repr, Inhabited

/-- The kinds of access to a page. -/
inductive Want where
  | r | w | x
deriving DecidableEq, Repr, Inhabited

def MapRange.allows (m : MapRange) : Want → Bool
  | .r => m.r | .w => m.w | .x => m.x
/-- Translation of a VA through a context's page tables (R211, R413). -/
def Context.xlate (c : Context) (va : Nat) (want : Want) : Xlat :=
  match c.maps.find? fun m => decide (m.va ≤ va) && decide (va < m.va + m.len) with
  | none => .refused
  | some m =>
    if !m.allows want then (if want == .w then .readOnly else .refused)
    else if m.pin then
      match m.pages.find? fun p => decide (p.1 ≤ va) && decide (va < p.1 + pageSize p.2.1) with
      | some p => .ok (p.2.2 + (va - p.1))
      | none => .refused
    else match sget 0 c.resident (va / pageBytes) with
      | 0 => .absent
      | f + 1 => .ok (f * pageBytes + va % pageBytes)
def State.xlate (s : State) (c va : Nat) (want : Want) : Xlat := (s.ctx c).xlate va want
/-- Whether a page is mapped, unpinned and has no frame. -/
def Context.lacks (c : Context) (page : Nat) : Bool :=
  (c.maps.any fun m => !m.pin && decide (m.va ≤ page * pageBytes) && decide (page * pageBytes < m.va + m.len)) && sget 0 c.resident page == 0
/-- The pages of n bytes. -/
def pageRange (va n : Nat) : List Nat :=
  if n = 0 then [] else (List.range ((va + n - 1) / pageBytes + 1 - va / pageBytes)).map fun i => va / pageBytes + i

/-- The first run of n frames aligned to n that no used interval meets, at or above a start. -/
def firstFree : List (Nat × Nat) → Nat → Nat → Nat
  | [], n, at' => ((at' + n - 1) / n) * n
  | (b, k) :: t, n, at' =>
    let p := ((at' + n - 1) / n) * n
    if p + n ≤ b then p else firstFree t n (max at' (b + k))
/-- Inserting an interval in order. -/
def insertRun : List (Nat × Nat) → Nat × Nat → List (Nat × Nat)
  | [], r => [r]
  | h :: t, r => if r.1 < h.1 then r :: h :: t else h :: insertRun t r
/-- Frames in use and held in reserve (R387). -/
def State.framesUsed (s : State) : Nat := s.dev.used.foldl (fun a r => a + r.2) 0
def State.framesReserved (s : State) : Nat := s.ctxs.foldl (fun a c => a + c.reserve) 0
/-- Taking n contiguous frames aligned to n, leaving the reserves alone unless `deep`. -/
def State.takeFrames (s : State) (n : Nat) (deep : Bool) : Option (Nat × State) :=
  let f := firstFree s.dev.used n 0
  if f + n ≤ totalFrames ∧ (deep = true ∨ s.framesUsed + n + s.framesReserved ≤ totalFrames) then
    some (f, s.updDev fun d => { d with used := insertRun d.used (f, n) })
  else none
/-- Filling a context's reserve again from the free frames (R387); not while an instruction draws on it. -/
def State.refill (s : State) (c : Nat) : State :=
  let free := totalFrames - s.framesUsed - s.framesReserved
  s.updC c fun x => if x.drawer.isSome || x.st != .running then x else { x with reserve := max x.reserve (min 256 (x.reserve + free)) }
/-- Filling every context's reserve again (R387). -/
def State.refillAll (s : State) : State :=
  (List.range s.ctxs.length).foldl (fun s c => if (s.ctx c).reserve < 256 then s.refill c else s) s
/-- Frames become free, and the reserves are filled again (R387). -/
def State.freeFrames (s : State) (r : Nat × Nat) : State :=
  (s.updDev fun d => { d with used := d.used.filter (· != r) }).refillAll
/-- An instruction that drew on the reserve no longer does (R387). -/
def State.undraw (s : State) (c : Nat) (who : SplitRef → Bool) : State :=
  match (s.ctx c).drawer with
  | some w => if who w then (s.updC c fun x => { x with drawer := none }).refill c else s
  | none => s

/-- The number of 64-byte sectors of a page. -/
def pageSectors : Nat := 1024
/-- Reclaiming an unpinned resident page, whose frame serves another: its bytes and poison marks go to the context's backing store (R387, R434,
log 14). -/
def State.reclaim (s : State) (c page : Nat) : State :=
  match sget 0 (s.ctx c).resident page with
  | 0 => s
  | f + 1 =>
    let bytes := s.mem.filter fun e => decide (f * pageBytes ≤ e.1) && decide (e.1 < (f + 1) * pageBytes)
    let marks := s.dev.poison.filter fun q => q / pageSectors == f
    let s := s.updC c fun x => { x with
      resident := sset 0 x.resident page 0,
      backing := bytes.foldl (fun b e => setB b (page * pageBytes + (e.1 - f * pageBytes)) e.2)
        (sdropWhere (fun a => a / pageBytes == page) x.backing)
      backPoison := x.backPoison.filter (· / pageSectors != page) ++ marks.map fun q => page * pageSectors + q % pageSectors }
    s.updDev fun d => { d with poison := d.poison.filter (· / pageSectors != f) }
/-- Mapping a frame for a page of an unpinned range; its backed bytes and poison marks return to it, and the others read as unlisted bytes
(log 3). -/
def State.mapFrame (s : State) (c page f : Nat) : State :=
  let back := (s.ctx c).backing.filter fun e => e.1 / pageBytes == page
  let m := sdropWhere (fun a => decide (f * pageBytes ≤ a) && decide (a < (f + 1) * pageBytes)) s.mem
  let marks := (s.ctx c).backPoison.filter fun q => q / pageSectors == page
  let s := { s with mem := back.foldl (fun m (e : Host.Cell) => setB m (f * pageBytes + e.1 % pageBytes) e.2) m }
  let s := s.updDev fun d => { d with
    poison := d.poison.filter (· / pageSectors != f) ++ marks.map fun q => f * pageSectors + q % pageSectors }
  s.updC c fun x => { x with resident := sset 0 x.resident page (f + 1),
                             backing := sdropWhere (fun a => a / pageBytes == page) x.backing,
                             backPoison := x.backPoison.filter (· / pageSectors != page) }
/-- Whether a free frame or a reclaimable page outside `keep` serves a fault without the reserve. -/
def State.servesPlain (s : State) (c : Nat) (keep : List Nat) : Bool :=
  (s.takeFrames 1 false).isSome || (s.ctx c).resident.any fun e => !keep.contains e.1
/-- Serving a fault on a mapped page (R387, R388): a free frame, else a reclaimed page outside `keep`, else the reserve, which must cover
the `need` pages that the instruction still lacks; none is TRANSLATION_EXHAUSTED. -/
def State.servePage (s : State) (c page : Nat) (keep : List Nat) (need : Nat) : Option State :=
  match s.takeFrames 1 false with
  | some (f, s) => some (s.mapFrame c page f)
  | none =>
    match (s.ctx c).resident.find? fun e => !keep.contains e.1 with
    | some e => some ((s.reclaim c e.1).mapFrame c page (e.2 - 1))
    | none =>
      if (s.ctx c).reserve < max need 1 then none else
        let s := s.updC c fun x => { x with reserve := x.reserve - 1 }
        (s.takeFrames 1 true).map fun (f, s) => s.mapFrame c page f
/-- What an access served on the spot meets: a result, a fault that waits for the reserve (R387), a refusal, or frames exhausted (R388). -/
inductive Xl (α : Type) where
  | got (x : α) (s : State)
  | wait
  | refused
  | exhausted
/-- What follows a result. -/
def Xl.andThen {α β : Type} (x : Xl α) (k : α → State → Xl β) : Xl β :=
  match x with
  | .got a s => k a s
  | .wait => .wait
  | .refused => .refused
  | .exhausted => .exhausted
/-- Translation with its fault served on the spot, for accesses that only wait (R211); `keep` lists the pages that the access needs, which are
not reclaimed for it and which the reserve must cover (R387, R388). -/
def State.xlateIn (s : State) (c va : Nat) (want : Want) (keep : List Nat) : Xl Nat :=
  match s.xlate c va want with
  | .ok p => .got p s
  | .absent =>
    if !s.servesPlain c keep && (s.ctx c).drawer.isSome then .wait
    else match s.servePage c (va / pageBytes) keep (keep.filter (s.ctx c).lacks).length with
      | some s => (match s.xlate c va want with | .ok p => .got p s | _ => .refused)
      | none => .exhausted
  | _ => .refused
/-- The same for an access of one line. -/
def State.xlateServed (s : State) (c va : Nat) (want : Want) : Option (Nat × State) :=
  match s.xlateIn c va want [va / pageBytes] with | .got p s => some (p, s) | _ => none

/-! ## The weight store (R226, R227) -/

/-- The PHASE of the refresh schedule. -/
def State.phase (s : State) : Nat := s.dev.tick % 390
/-- Whether a region of the weight store is in its refresh window. -/
def State.inWindow (s : State) (region : Nat) : Bool := decide ((s.phase + 390 - 24 * region % 390) % 390 < 20)
/-- Whether bytes of the weight store can be read now. -/
def State.wsReadable (s : State) (off n : Nat) : Bool :=
  !s.dev.wsLoad && !s.inWindow (off / 0x60000000) && !s.inWindow ((off + n - 1) / 0x60000000)

/-- Whether the weight-store lanes of an access lie outside the refresh windows: their data come when no window delays them (R227). -/
def State.accessOutside (s : State) (a : Access) : Bool := a.rkind != 6 || a.lanes.all fun r => !s.inWindow (r.va / 0x60000000)

/-! ## Sectors -/

/-- The key of a sector of a context's address space, and of a weight-store sector. -/
def vkey (c va : Nat) : Nat := c * 2 ^ 50 + va / 64
def wkey (off : Nat) : Nat := 2 ^ 90 + off / 64
def keyIsWs (k : Nat) : Bool := decide (2 ^ 90 ≤ k)
def keyCtx (k : Nat) : Nat := k / 2 ^ 50
/-- The VA, or weight-store offset, of a sector key. -/
def keyVa (k : Nat) : Nat := if keyIsWs k then (k - 2 ^ 90) * 64 else (k % 2 ^ 50) * 64

/-- A sector of the home slices or the weight store: data and poison. An untranslatable sector reads as unlisted bytes. -/
def State.homeSector (s : State) (k : Nat) : BitVec 512 × Bool :=
  if keyIsWs k then (pack64 (getBs s.ws (keyVa k) 64), s.dev.wsPoison.contains (keyVa k / 64))
  else match s.xlate (keyCtx k) (keyVa k) .r with
    | .ok p => (pack64 (getBs s.mem p 64), s.dev.poison.contains (p / 64))
    | _ => match s.xlate (keyCtx k) (keyVa k) .w with
      | .ok p => (pack64 (getBs s.mem p 64), s.dev.poison.contains (p / 64))
      | _ => (0, false)
/-- Writing bytes at a physical sector; a write of all 64 clears poison, a poisoned write-back sets it (R434). -/
def State.writePhys (s : State) (p : Nat) (mask : BitVec 64) (data : BitVec 512) (poison : Bool) : State :=
  let s := { s with mem := setMasked s.mem p mask data }
  s.updDev fun d =>
    { d with poison :=
        if poison then (if d.poison.contains (p / 64) then d.poison else p / 64 :: d.poison)
        else if mask = allBytes then d.poison.filter (· != p / 64) else d.poison }
/-- Writing bytes at the home slice of a VA sector; false when no longer writable or refused. -/
def State.writeHome (s : State) (k : Nat) (mask : BitVec 64) (data : BitVec 512) (poison : Bool) : State × Bool :=
  match s.xlateServed (keyCtx k) (keyVa k) .w with
  | some (p, s) => (s.writePhys p mask data poison, true)
  | none => (s, false)

/-- The scratchpad's size in units: while a change waits or converts, the old size or the lesser one serves (R222, R223). -/
def scratchUnits (c : Cluster) : Nat := if c.busy || c.pend then min c.oldSps c.sps else c.sps
/-- The ways of the cluster cache that allocate lines: not those that are being converted, nor those that a shrink has not yet given
(R221, R223). -/
def Cluster.ways (c : Cluster) : Nat := 6 - (if c.busy || c.pend then max c.oldSps c.sps else c.sps)
/-- The sets of a way. -/
def waySets : Nat := 2048
/-- Whether the cluster cache allocates lines (R217). -/
def cacheWays (c : Cluster) : Bool := decide (0 < c.ways)
/-- The home slice of a physical address (R218). -/
def homeSlice (a : Nat) : Nat :=
  field a 12 8 ^^^ field a 17 13 ^^^ field a 22 18 ^^^ field a 27 23 ^^^ field a 32 28 ^^^ field a 37 33
def State.l1At (s : State) (core k : Nat) : Sector := sget noSector (s.core core).l1 k
def State.setL1 (s : State) (core k : Nat) (x : Sector) : State :=
  s.updCore core fun c => { c with l1 := sset noSector c.l1 k x }
def State.ccAt (s : State) (cluster k : Nat) : Sector := sget noSector (s.cl cluster).cache k
def State.setCC (s : State) (cluster k : Nat) (x : Sector) : State :=
  s.updCl cluster fun c => { c with cache := sset noSector c.cache k x }
/-- A sector with its valid bits reduced; one without valid bytes is absent. -/
def Sector.norm (x : Sector) : Sector := if x.valid = 0 then noSector else x

/-- Filling: every byte that is not dirty takes the fetched value (R214). -/
def Sector.fill (x : Sector) (data : BitVec 512) (poison : Bool) : Sector :=
  { valid := allBytes, dirty := x.dirty, data := blend data x.data x.dirty, poison := poison || (x.poison && x.dirty != 0) }
/-- Storing bytes: valid and dirty (R214). -/
def Sector.store (x : Sector) (mask : BitVec 64) (data : BitVec 512) : Sector :=
  { valid := x.valid ||| mask, dirty := x.dirty ||| mask, data := blend x.data data mask,
    poison := x.poison && mask != allBytes }

/-- A sector as the cluster cache serves it, filling it on a miss (R217). Where no way allocates, the home slice serves, under the dirty bytes
that converting ways still hold (R223). -/
def State.readCC (s : State) (cluster k : Nat) (need : BitVec 64) : State × BitVec 512 × Bool :=
  let x := s.ccAt cluster k
  if need &&& ~~~x.valid = 0 then (s, x.data, x.poison) else
    let (d, p) := s.homeSector k
    let y := x.fill d p
    (if cacheWays (s.cl cluster) then s.setCC cluster k y else s, y.data, y.poison)
/-- A sector as the cluster cache's dirty bytes and the home slice give it, without allocation. -/
def State.readDev (s : State) (cluster k : Nat) : BitVec 512 × Bool :=
  let x := s.ccAt cluster k
  let (d, p) := s.homeSector k
  (blend d x.data x.dirty, p || (x.poison && x.dirty != 0))
/-- Whether L1 protects a sector's line from replacement: a `.keep` line that still holds bytes (R215). -/
def CoreSt.protects (c : CoreSt) (k : Nat) : Bool := c.keep.contains (k / 4) && c.l1.any fun e => e.1 / 4 == k / 4
/-- The set of L1 that holds a sector's line: 128 KiB in 16 ways of 256-byte lines are 32 sets, which the line's number selects (R213, log 33). -/
def l1Set (line : Nat) : Nat := line % 32
/-- The `.keep` lines of a set: 4 of its 16 ways (R215). -/
def keepWays : Nat := 4
/-- The mark that a policy leaves on a line in L1: `.strm` for a load of policy 1 and a store of policy 1 or 3, `.keep` within the bound (R215). -/
def State.markLine (s : State) (core k policy : Nat) (store : Bool) : State :=
  if policy = 1 ∨ (policy = 3 ∧ store = true) then
    s.updCore core fun c => { c with strm := if c.strm.contains (k / 4) then c.strm else k / 4 :: c.strm }
  else if policy = 4 then
    s.updCore core fun c =>
      let live := c.keep.filter fun n => c.l1.any fun e => e.1 / 4 == n
      let here := live.filter fun n => l1Set n == l1Set (k / 4)
      { c with keep := if live.contains (k / 4) || decide (keepWays ≤ here.length) then live else k / 4 :: live }
  else s
/-- The clean bytes of a sector's line leave L1 (R215, `.last`). -/
def State.dropClean (s : State) (core k : Nat) : State :=
  s.updCore core fun c => { c with l1 := c.l1.filterMap fun e =>
    if e.1 / 4 == k / 4 then (if e.2.dirty = 0 then none else some (e.1, { e.2 with valid := e.2.dirty })) else some e }
/-- A load of a sector at a scope and policy (R213 to R215, R238). -/
def State.loadSector (s : State) (core k : Nat) (need : BitVec 64) (scope policy : Nat) (wsKind : Bool) :
    State × BitVec 512 × Bool :=
  let cluster := core / 4
  let x := s.l1At core k
  if wsKind || scope ≤ 2 then
    if policy = 2 then
      let (s, d, p) := s.readCC cluster k need
      (s, blend d x.data x.dirty, p || (x.poison && decide (x.dirty &&& need ≠ 0)))
    else if need &&& ~~~x.valid = 0 then
      (if policy = 3 then s.dropClean core k else s, x.data, x.poison)
    else
      let (s, d, p) := s.readCC cluster k allBytes
      let y := x.fill d p
      let s := s.setL1 core k y
      (if policy = 3 then s.dropClean core k else s, y.data, y.poison)
  else if scope = 3 then
    let (s, d, p) := s.readCC cluster k need
    (s, blend d x.data x.dirty, p || (x.poison && decide (x.dirty &&& need ≠ 0)))
  else
    let (d, p) := s.readDev cluster k
    (s, blend d x.data x.dirty, p || (x.poison && decide (x.dirty &&& need ≠ 0)))
/-- Writing bytes into the cluster cache; where it holds nothing of the sector and no way allocates, into the home slice (R217, R223). -/
def State.writeNext (s : State) (cluster k : Nat) (mask : BitVec 64) (data : BitVec 512) (poison : Bool) : State × Bool :=
  if cacheWays (s.cl cluster) || (s.ccAt cluster k).valid != 0 then
    let x := (s.ccAt cluster k).store mask data
    (s.setCC cluster k { x with poison := x.poison || poison }, true)
  else s.writeHome k mask data poison
/-- Writing back a cluster-cache sector's dirty bytes to the home slice (R217). -/
def State.flushCC (s : State) (cluster k : Nat) : State × Bool :=
  let x := s.ccAt cluster k
  if x.dirty = 0 then (s, true) else
    let (s, ok) := s.writeHome k x.dirty x.data x.poison
    if ok then (s.setCC cluster k { x with dirty := 0 }, true) else (s, false)
/-- Writing back an L1 sector's dirty bytes (R214, R217): to the cluster cache, or with `home` to the home slice. -/
def State.flushL1 (s : State) (core k : Nat) (home : Bool) : State × Bool :=
  let x := s.l1At core k
  if x.dirty = 0 then (s, true) else
    let cluster := core / 4
    if home then
      let (s, ok) := s.flushCC cluster k
      let (s, ok2) := if ok then s.writeHome k x.dirty x.data x.poison else (s, false)
      if ok2 then
        let s := s.setL1 core k { x with dirty := 0 }
        -- the cluster cache's clean copy of these bytes is refreshed
        let y := s.ccAt cluster k
        (if y.valid = 0 then s
         else s.setCC cluster k { y with data := blend y.data x.data x.dirty, poison := x.poison || (y.poison && x.dirty != allBytes) }, true)
      else (s, false)
    else
      let (s, ok) := s.writeNext cluster k x.dirty x.data x.poison
      if ok then (s.setL1 core k { x with dirty := 0 }, true) else (s, false)
/-- A store to a sector at a scope and policy (R214, R215, R238); false when the line cannot be written. -/
def State.storeSector (s : State) (core k : Nat) (mask : BitVec 64) (data : BitVec 512) (scope policy : Nat) : State × Bool :=
  let cluster := core / 4
  if scope ≤ 2 && policy != 2 then (s.setL1 core k ((s.l1At core k).store mask data), true)
  else if scope ≤ 3 then
    let (s, ok) := s.flushL1 core k false
    if ok then (s.setL1 core k noSector).writeNext cluster k mask data false else (s, false)
  else
    let (s, ok) := s.flushL1 core k false
    let s := if ok then s.setL1 core k noSector else s
    let (s, ok2) := s.flushCC cluster k
    if ok && ok2 then (s.setCC cluster k noSector).writeHome k mask data false else (s, false)
/-- Preparing a sector for an atomic (R218): dirty bytes written back, the sector invalid in L1 and in the cluster cache. -/
def State.evictForAtomic (s : State) (core k : Nat) : State :=
  let s := (s.flushL1 core k false).1
  let s := s.setL1 core k noSector
  ((s.flushCC (core / 4) k).1).setCC (core / 4) k noSector

/-! ## Regions -/

/-- Writing back the dirty L1 sectors of a core that a test selects; the sectors that failed remain dirty and are listed. -/
def State.wbL1 (s : State) (core : Nat) (sel : Nat → Bool) (home : Bool) : State × List Nat :=
  (s.core core).l1.foldl (fun (a : State × List Nat) (e : Nat × Sector) =>
    if sel e.1 && decide (e.2.dirty ≠ 0) then
      let (s, ok) := a.1.flushL1 core e.1 home
      if ok then (s, a.2) else (s, a.2 ++ [e.1])
    else a) (s, [])
def State.wbCC (s : State) (cluster : Nat) (sel : Nat → Bool) : State × List Nat :=
  (s.cl cluster).cache.foldl (fun (a : State × List Nat) (e : Nat × Sector) =>
    if sel e.1 && decide (e.2.dirty ≠ 0) then
      let (s, ok) := a.1.flushCC cluster e.1
      if ok then (s, a.2) else (s, a.2 ++ [e.1])
    else a) (s, [])
/-- Invalidating clean bytes (R216). -/
def invalSectors (m : Sparse Sector) (sel : Nat → Bool) : Sparse Sector :=
  m.filterMap fun e => if sel e.1 then (if e.2.dirty = 0 then none else some (e.1, { e.2 with valid := e.2.dirty })) else some e
def State.invL1 (s : State) (core : Nat) (sel : Nat → Bool) : State :=
  s.updCore core fun c => { c with l1 := invalSectors c.l1 sel }
def State.invCC (s : State) (cluster : Nat) (sel : Nat → Bool) : State :=
  s.updCl cluster fun c => { c with cache := invalSectors c.cache sel }
/-- Whether a VA lies in a bound region of a context (R250). -/
def Context.bound (c : Context) (va : Nat) : Option Binding :=
  c.binds.find? fun b => decide (b.base ≤ va) && decide (va < b.base + b.len)
/-- The sectors an object covers: its bound regions, or for the implicit object all memory not bound (R252, R254). -/
def State.covers (s : State) (c : Nat) (obj : Option Nat) (k : Nat) : Bool :=
  !keyIsWs k && keyCtx k == c &&
    match obj, (s.ctx c).bound (keyVa k) with
    | none, none => true
    | some o, some b => b.obj == o
    | _, _ => false
/-- Writing back the dirty L1 sectors of a core to the next level, each line translated like a store (R255); the sectors of lines that are
not writable remain dirty and are listed. -/
def State.wbChecked (s : State) (core : Nat) (sel : Nat → Bool) : State × List Nat :=
  (s.core core).l1.foldl (fun (a : State × List Nat) (e : Nat × Sector) =>
    if sel e.1 && decide (e.2.dirty ≠ 0) then
      match a.1.xlateServed (keyCtx e.1) (keyVa e.1) .w with
      | none => (a.1, a.2 ++ [e.1])
      | some (_, s) => let (s, ok) := s.flushL1 core e.1 false; (s, if ok then a.2 else a.2 ++ [e.1])
    else a) (s, [])
/-- The release actions of SREL step 1 (R253), with the lines that could not be written. -/
def State.releaseActs (s : State) (core c scope : Nat) (obj : Option Nat) : State × List Nat :=
  if scope ≤ 2 then (s, [])
  else if scope = 3 then s.wbChecked core (s.covers c obj)
  else
    let (s1, f1) := s.wbL1 core (s.covers c obj) true
    let (s2, f2) := s1.wbCC (core / 4) (s.covers c obj)
    (s2, f1 ++ f2)
/-- The acquire actions of SACQ step 2 (R252). -/
def State.acquireActs (s : State) (core c scope : Nat) (obj : Option Nat) : State :=
  if scope ≤ 2 then s
  else if scope = 3 then s.invL1 core (s.covers c obj)
  else (s.invL1 core (s.covers c obj)).invCC (core / 4) (s.covers c obj)
/-- Whether a sector holds bytes of a copy to which a mapping pointer maps an object's regions (R273). -/
def Context.mapsTo (c : Context) (obj map va : Nat) : Bool :=
  map != 0 && c.binds.any fun b => b.obj == obj && decide (map < va + 64) && decide (va < map + b.len)
/-- An acquire that captures a mapping pointer sees the whole copy it names: its clean bytes leave both caches (R274). -/
def State.acquireCopy (s : State) (core c obj map : Nat) : State :=
  let sel (k : Nat) : Bool := !keyIsWs k && keyCtx k == c && (s.ctx c).mapsTo obj map (keyVa k)
  (s.invL1 core sel).invCC (core / 4) sel
/-- Emptying a core's sampler cache and record cache (R112, R229). -/
def State.emptySampler (s : State) (core : Nat) : State := s.updCore core fun c => { c with scache := [] }
/-- A sector through the sampler cache (R229): filled from the cluster cache if it holds the sector, else from home. -/
def State.samplerSector (s : State) (core k : Nat) : State × BitVec 512 × Bool :=
  let x := sget noSector (s.core core).scache k
  if x.valid = allBytes then (s, x.data, x.poison) else
    let y := s.ccAt (core / 4) k
    let (d, p) := if y.valid = allBytes then (y.data, y.poison) else
      let (h, hp) := s.homeSector k
      (blend h y.data y.valid, hp || (y.poison && y.valid != 0))
    (s.updCore core fun c => { c with scache := sset noSector c.scache k { valid := allBytes, dirty := 0, data := d, poison := p } }, d, p)
/-- Bytes of a sector's data. -/
def sectorBytes (d : BitVec 512) (o w : Nat) : Nat := (d.extractLsb' (8 * o) (8 * w)).toNat
/-- Store data placed in a sector. -/
def placeBytes (o : Nat) (x : Nat) : BitVec 512 := BitVec.ofNat 512 (x * 2 ^ (8 * o))

/-- The offsets at which the parts of n bytes in each sector begin. -/
def sectorStarts (va n : Nat) : List Nat := (List.range n).filter fun i => decide ((va + i) % 64 = 0) || decide (i = 0)
/-- A read of n bytes at the home slices by an engine or firmware, faults served (R307, R211), and whether a poisoned sector was met. -/
def State.readXl (s : State) (c va n : Nat) (want : Want) : Xl (List Byte × Bool) :=
  (sectorStarts va n).foldl (fun a i => a.andThen fun x s =>
    (s.xlateIn c (va + i) want (pageRange va n)).andThen fun ph s =>
      .got (x.1 ++ getBs s.mem ph (min (64 - (va + i) % 64) (n - i)), x.2 || s.dev.poison.contains (ph / 64)) s) (.got ([], false) s)
/-- The same where only the read matters. -/
def State.readHomeVA (s : State) (c va n : Nat) (want : Want) : Option (State × List Byte × Bool) :=
  match s.readXl c va n want with | .got x s => some (s, x.1, x.2) | _ => none
/-- The cause that stands for a page fault which Clove-M is to serve before the instruction goes on (R385); it is no trap. -/
def faultCause : Nat := 0
/-- What an instruction reads at the home slices on its own path (a heap entry, a sync object, an awaited word): the bytes and whether they are
poisoned, or the cause and address of the first line that is refused or absent (R211). -/
def State.pathRead (s : State) (c va n : Nat) : Except (Nat × Nat) (List Byte × Bool) :=
  (sectorStarts va n).foldl (fun a i => a.bind fun (l, p) =>
    match s.xlate c (va + i) .r with
    | .ok ph =>
      let k := min (64 - (va + i) % 64) (n - i)
      .ok (l ++ getBs s.mem ph k, p || s.dev.poison.contains (ph / 64))
    | .absent => .error (faultCause, (va + i) / 256 * 256)
    | _ => .error (0x11, (va + i) / 256 * 256)) (.ok ([], false))
/-- A write of bytes at the home slices by an engine or the host. -/
def State.writeXl (s : State) (c va : Nat) (data : List Byte) : Xl Unit :=
  (sectorStarts va data.length).foldl (fun a i => a.andThen fun _ s =>
    (s.xlateIn c (va + i) .w (pageRange va data.length)).andThen fun ph s =>
      let o := ph % 64
      let k := min (64 - (va + i) % 64) (data.length - i)
      .got () (s.writePhys (ph - o) (byteMask o k) (placeBytes o (leNat ((data.drop i).take k))) false)) (.got () s)
/-- The same where only the write matters. -/
def State.writeHomeVA (s : State) (c va : Nat) (data : List Byte) : Option State :=
  match s.writeXl c va data with | .got _ s => some s | _ => none

end Sys2Proof.Machine
end

