-- ==== Sys2Proof/Machine/Ops.lean ====
section
/-!
DEFINITION. The operations that instructions share: the fault log, the end of a group and of a block, named barriers, taking a
trap and returning from one, divergence and revival, counted operations, and the checks of R56 before an instruction.
-/

namespace Sys2Proof.Machine

/-! ## Fault log and events (R390, R416) -/

/-- The eight words of a fault-log entry. -/
def LogEntry.words (e : LogEntry) : List Word :=
  [BitVec.ofNat 32 (e.seq % 65536 * 65536 + e.kind * 256 + e.cause),
   BitVec.ofNat 32 (e.core * 2 ^ 24 + e.cluster * 65536 + e.group), BitVec.ofNat 32 e.block, e.mask,
   e.addr.truncate 32, BitVec.ofNat 32 (e.addr.toNat / 2 ^ 32), e.pc.truncate 32, BitVec.ofNat 32 (e.pc.toNat / 2 ^ 32)]
/-- Adding an entry to a context's ring of 256; the oldest is lost when it is full. -/
def Context.addLog (c : Context) (e : LogEntry) : Context :=
  let l := c.log ++ [{ e with seq := c.logSeq % 65536 }]
  { c with logSeq := c.logSeq + 1,
           log := if 256 < l.length then l.drop 1 else l,
           logLost := if 256 < l.length then c.logLost + 1 else c.logLost }
def State.addLog (s : State) (c : Nat) (e : LogEntry) : State := s.updC c fun x => x.addLog e
/-- An entry about a group. -/
def State.groupEntry (s : State) (gi kind cause : Nat) (mask : Mask) (addr pc : Addr56) : LogEntry :=
  let w := (s.grp gi).who
  { seq := (s.ctx w.ctx).logSeq % 65536, kind := kind, cause := cause, core := w.core, cluster := w.cluster, group := w.gid,
    block := w.block, mask := mask, addr := addr, pc := pc }
def State.logGroup (s : State) (gi kind cause : Nat) (mask : Mask) (addr pc : Addr56) : State :=
  s.addLog (s.grp gi).who.ctx (s.groupEntry gi kind cause mask addr pc)
/-- An event message (R412, R416): OP 0x40, TAG 0. -/
def State.event (s : State) (q ctx kind : Nat) (words : List Word) : State :=
  let body := BitVec.ofNat 32 kind :: words
  s.send (.message q ([0x40014A43, 0, BitVec.ofNat 32 ctx, BitVec.ofNat 32 (4 * body.length)] ++ body))
/-- A response (R412): the command's OP | 0x80 with VERS 1 and MAGIC 0x4A43, TAG and CTXID, STATUS, LEN, body. -/
def responseWords (cmd : List Word) (status : Nat) (body : List Word) : List Word :=
  [BitVec.ofNat 32 ((wfield (wordAt cmd 0) 31 24 ||| 0x80) * 2 ^ 24 + 0x14A43), wordAt cmd 1, wordAt cmd 2, BitVec.ofNat 32 (status * 65536 + 4 * body.length)] ++ body
/-- Keeping the last 256 TAGs with their commands and responses (R415). -/
def QueuePair.keep (q : QueuePair) (cmd : List Word) (msgs : List (List Word)) : QueuePair :=
  let l := (q.tags.filter fun t => wordAt t.1 1 != wordAt cmd 1) ++ [(cmd, msgs)]
  { q with tags := l.drop (l.length - 256) }
/-- Answering a command with one or more messages. -/
def State.respond (s : State) (q : Nat) (cmd : List Word) (status : Nat) (bodies : List (List Word)) : State :=
  let msgs := bodies.map (responseWords cmd status)
  msgs.foldl (fun s m => s.send (.message q m)) (s.updQ q fun x => x.keep cmd msgs)
/-- The first command queue pair, for device events. -/
def State.deviceQueue (s : State) : Nat := (s.qps.findIdx? fun q => q.used && q.kind == QKind.command).getD 0
/-- An event about a context, on the queue pair that created it. -/
def State.ctxEvent (s : State) (c kind : Nat) (words : List Word) : State := s.event (s.ctx c).queue c kind words

/-! ## Named barriers (R190 to R193) -/

def Phase.empty : Phase := { arrived := [], expected := none }
def Barrier.reset : Barrier := { phase := 0, cur := Phase.empty, nxt := Phase.empty, joined := [], last := 0 }
/-- Whether a group has arrived in a phase: its arrived and exited lanes are all 32 (R191). -/
def Phase.has (p : Phase) (gid : Nat) (exited : Mask) : Bool := (sget 0 p.arrived gid ||| exited) == BitVec.allOnes 32
/-- Whether a phase is complete, for the groups of the block as pairs of GROUPID and exited lanes (R192). -/
def Phase.complete (p : Phase) (gs : List (Nat × Mask)) : Bool :=
  match p.expected with
  | none => false
  | some 0 => gs.all fun g => g.2 == BitVec.allOnes 32 || p.has g.1 g.2
  | some n => decide (n ≤ (gs.filter fun g => p.has g.1 g.2).length)
/-- A completed phase gives way to the next, one in a cycle: arrivals that move up complete theirs in the following cycle (R192). -/
def Barrier.settle (b : Barrier) (gs : List (Nat × Mask)) (now : Nat) : Barrier :=
  if b.cur.complete gs && b.last != now + 1 then { b with phase := b.phase + 1, cur := b.nxt, nxt := Phase.empty, last := now + 1 } else b
/-- The groups of a block with their exited lanes. -/
def State.blockGroups (s : State) (bi : Nat) : List (Nat × Mask) :=
  (s.blk bi).groups.map fun gi => ((s.grp gi).who.gid, (s.grp gi).exited)
def State.settleBarriers (s : State) (bi : Nat) : State :=
  let gs := s.blockGroups bi
  s.updB bi fun b => { b with barriers := b.barriers.map fun x => x.settle gs s.dev.cycle }

/-! ## Groups, blocks and contexts that end (R177, R384, R389, R403, R443) -/

/-- Unmapping what a group holds; its queued launches stay (R198), and what it has issued completes without it (R384). -/
def Group.gone (g : Group) : Group :=
  { g with live := false, exited := BitVec.allOnes 32, splits := List.replicate 4 Split.empty, deferred := [],
           regs := { g.regs with phys := List.replicate 16 none }, tris := [], captures := [], async := [],
           lch := { g.lch with spillFrames := [] } }
/-- The operations that a context has issued on a cluster in the last 1,024 lane cycles (R404). -/
def Cluster.recentOf (k : Cluster) (c : Nat) : Nat := (k.recent.filter fun r => r.2 == c && decide (k.lane16 / 16 < r.1 + 1024)).length
/-- A context that departs from a cluster in this cycle, with its operations of the last 1,024 lane cycles (R403, R404). -/
def Cluster.depart (k : Cluster) (c now : Nat) : Cluster :=
  let d := (c, k.recentOf c)
  if k.departAt = now then { k with departed := if k.departed.any (·.1 == c) then k.departed else k.departed ++ [d] }
  else { k with departed := [d], departAt := now }
/-- The bytes of one scratchpad unit. -/
def unitBytes : Nat := 524288
/-- Scratchpad bytes of a range with unspecified contents: free values, one per byte (R223, log 9). -/
def freeRange (m : List Host.Cell) (lo n seed : Nat) : List Host.Cell :=
  (m.filter fun e => decide (e.1 < lo)) ++
    ((List.range n).map fun i => (lo + i, BitVec.ofNat 8 (Config.freeNat (seed + i)))).filter (fun e => e.2 != 0) ++
    (m.filter fun e => decide (lo + n ≤ e.1))
/-- The scratchpad bytes of a block that leaves are lost: what a later block finds there is free (R443, log 9). -/
def State.loseScratch (s : State) (b : Block) : State :=
  let lo := b.scrOff * 4096
  let n := b.scrLen * 4096
  let s := { s with fresh := s.fresh + n }
  s.updCl b.cluster fun k =>
    { k with sram := freeRange k.sram lo n (s.fresh - n),
             spoison := k.spoison.filter fun q => !(decide (lo ≤ q * 64) && decide (q * 64 < lo + n)) }
/-- Dropping a context's accepted commands, tiles, spawn queue and offers on a cluster. -/
def Cluster.dropContext (k : Cluster) (c : Nat) : Cluster :=
  let k := { k with matq := k.matq.filter (·.ctx != c), copyq := k.copyq.filter (·.ctx != c), ports := k.ports.filter (·.ctx != c),
                    offers := k.offers.filter (·.ctx != c),
                    tiles := k.tiles.map fun t => if t.owner = some c then Tile.reset else t }
  if k.spawnOwner = some c then { k with spawnOwner := none, spawn := [] } else k
/-- Dropping a context's slot-table entries and context slots on a core; its L1 bytes stay tagged. -/
def CoreSt.dropContext (k : CoreSt) (c : Nat) : CoreSt :=
  let mine (n : Nat) : Bool := k.ctxs.getD n none == some c
  { k with slots := k.slots.map (fun e => if e.st != .empty && mine e.bind.cslot then { e with st := .empty } else e),
           slotSt := (List.range k.slotSt.length).map fun n => if mine n then 0 else k.slotSt.getD n 0,
           ctxs := k.ctxs.map fun x => if x = some c then none else x }
/-- The groups of a failed context: nothing of them issues or completes again, and their rays stop. -/
def Group.abandon (g : Group) : Group := { g.gone with queue := [], ops := [], rays := [] }
/-- View sets bound to a context are released once every strip is IDLE. -/
def ViewSet.letGo (v : ViewSet) (c : Nat) : ViewSet :=
  if v.ctx = some c then
    (if v.strips.all fun t => t.st == .idle then ViewSet.reset else { v with releasing := true })
  else v
/-- Steps 1 to 3 of R389; the scratchpad contents of the blocks that leave are lost (R443). -/
def State.abandonContext (s : State) (c : Nat) : State :=
  let frames := s.groups.flatMap fun g => if g.live && g.who.ctx == c then g.lch.spillFrames else []
  let leaving := s.blocks.filter fun b => b.live && !b.saved && b.ctx == c
  let s := frames.foldl (fun s r => s.freeFrames r) s
  let s := leaving.foldl (fun s b => (s.loseScratch b).updCl b.cluster fun k => k.depart c s.dev.cycle) s
  let gone (i : Nat) : Bool := (s.grp i).who.ctx == c
  let s := s.updC c fun x => { x with drawer := none }
  { s with
    winReqs := s.winReqs.filter fun q => !gone q.group
    groups := s.groups.map fun g => if g.who.ctx = c then g.abandon else g
    blocks := s.blocks.map fun b => if b.ctx = c then { b with live := false } else b
    clusters := s.clusters.map fun k => k.dropContext c
    cores := s.cores.map fun k =>
      { k.dropContext c with vacqs := k.vacqs.filter fun v => !gone v.1.group }
    sets := s.sets.map fun v => v.letGo c }
/-- A context fails with an entry of KIND 3, and the host is told (R389). -/
def State.failWith (s : State) (c : Nat) (e : LogEntry) : State :=
  let s := (s.abandonContext c).updC c fun x => { x with st := .failed e.cause }
  (s.addLog c e).ctxEvent c 1 e.words
/-- TRANSLATION_EXHAUSTED for an access of a group (R389). -/
def State.failContext (s : State) (gi cause : Nat) (mask : Mask) (addr pc : Addr56) : State :=
  s.failWith (s.grp gi).who.ctx (s.groupEntry gi 3 cause mask addr pc)
/-- The same for an access that Clove-M makes for a context, which no group makes. -/
def State.exhaust (s : State) (c addr : Nat) : State :=
  s.failWith c { seq := (s.ctx c).logSeq % 65536, kind := 3, cause := 0x15, core := 0, cluster := 0, group := 0, block := 0, mask := 0,
                 addr := BitVec.ofNat 56 addr, pc := 0 }

/-! ## The end of groups and blocks (R175, R184, R198, R254, R391) -/

/-- The SCOPE of the level with a domain, if the launch has it. -/
def Group.levelScope (g : Group) (dom : Nat) : Option Nat := (g.lch.dom.zip g.lch.scopes).lookup dom
/-- The bytes of a line that could not be written at exit, from L1 and the cluster cache, as one record (R391). -/
def State.lineRecord (s : State) (core line ctx : Nat) : FaultBuf :=
  let secs := (List.range 4).map fun i =>
    let k := vkey ctx (line + 64 * i)
    let a := s.l1At core k
    let b := s.ccAt (core / 4) k
    (a.dirty ||| b.dirty, blend b.data a.data a.dirty)
  let bit (j : Nat) : Bool := (secs.getD (j / 64) (0, 0)).1.getLsbD (j % 64)
  { line := line, bytes := BitVec.ofNat 256 (ofBits ((List.range 256).map bit)),
    data := (List.range 256).foldl (fun m j =>
      if bit j then setB m j ((secs.getD (j / 64) (0, 0)).2.extractLsb' (8 * (j % 64)) 8) else m) [] }
/-- Dropping a line's dirty bytes. -/
def State.dropLine (s : State) (core line ctx : Nat) : State :=
  (List.range 4).foldl (fun s i =>
    let k := vkey ctx (line + 64 * i)
    (s.setL1 core k noSector).setCC (core / 4) k noSector) s
/-- A release at exit that could not write lines back: fault buffer, KIND 4 entry, event kind 2 (R391). -/
def State.exitWriteback (s : State) (gi core : Nat) (keys : List Nat) : State :=
  let ctx := (s.grp gi).who.ctx
  (keys.map fun k => keyVa k / 256 * 256).eraseDups.foldl (fun s line =>
    let full := decide (64 ≤ (s.ctx ctx).fbuf.length)
    let r := s.lineRecord core line ctx
    let s := s.dropLine core line ctx
    let s := if full then s else s.updC ctx fun c => { c with fbuf := c.fbuf ++ [r] }
    let e := s.groupEntry gi 4 0x16 0 (BitVec.ofNat 56 (line + if full then 2 ^ 55 else 0)) 0
    (s.addLog ctx e).ctxEvent ctx 2 e.words) s
/-- Whether a context has failed. -/
def Context.failed (c : Context) : Bool := match c.st with | .failed _ => true | _ => false
/-- A release at a scope for a core, with its failures reported for a group. A line whose page finds no frame fails the context (R388); one whose
fault waits for the reserve stays dirty (R387, log 31). -/
def State.exitRelease (s : State) (gi core scope : Nat) : State :=
  let c := (s.grp gi).who.ctx
  if (s.ctx c).failed then s else
  let (s, failed) := s.releaseActs core c scope none
  let absent (k : Nat) : Bool := s.xlate c (keyVa k) .w == .absent
  let s := s.exitWriteback gi core (failed.filter fun k => !absent k)
  match failed.find? absent with
  | some k => if (s.ctx c).drawer.isSome then s else s.failContext gi 0x15 0 (BitVec.ofNat 56 (keyVa k / 256 * 256)) 0
  | none => s
/-- The launch of a context by number. -/
def State.updLaunch (s : State) (c id : Nat) (f : Launch → Launch) : State :=
  s.updC c fun x => { x with launches := x.launches.map fun l => if l.id = id then f l else l }
/-- The last group of a part has exited: the release of the CORE level, and its slot-table entry is DONE (R175, R184). -/
def State.partDone (s : State) (bi gi core : Nat) : State :=
  let b := s.blk bi
  let s := match (s.grp gi).levelScope 4 with | some scope => s.exitRelease gi core scope | none => s
  s.updCore core fun c => { c with slots := c.slots.map fun e =>
    if e.st == SlotState.running && e.bind.launch == b.launch && e.bind.block == b.block &&
        (c.ctxs.getD e.bind.cslot none) == some b.ctx then { e with st := .done } else e }
/-- The number of blocks in each unit of a level outside the block: FABRIC 0, DEVICE 1, VIEW 2 (R173). -/
def GroupLaunch.unitBlocks (l : GroupLaunch) (dom : Nat) : Nat :=
  ((l.dom.zip l.ext).filter fun e => decide (dom < e.1) && decide (e.1 ≤ 3)).foldl (fun a e => a * e.2) 1
/-- The release at the end of a unit of a level, once every block in it has left (R175). -/
def State.unitDone (s : State) (bi gi dom : Nat) : State :=
  let b := s.blk bi
  let l := (s.grp gi).lch
  match (s.grp gi).levelScope dom with
  | none => s
  | some scope =>
    let n := l.unitBlocks dom
    let left := s.blocks.filter fun x => !x.live && x.ctx == b.ctx && x.launch == b.launch && x.block / n == b.block / n
    if left.length < n then s
    else (left.flatMap (·.cores)).eraseDups.foldl (fun s core => s.exitRelease gi core scope) s
/-- The last group of a block has exited: the block leaves, its scratchpad contents are lost, and the releases of the levels that end
with it are made (R175, R177, R443). -/
def State.blockDone (s : State) (bi gi : Nat) : State :=
  let b := s.blk bi
  let scope := ((s.grp gi).levelScope 3).getD 3
  let s := b.cores.foldl (fun s core => s.exitRelease gi core scope) s
  if (s.ctx b.ctx).failed then s else
  let s := s.updB bi fun b => { b with live := false }
  let s := (s.loseScratch b).updCl b.cluster fun k => k.depart b.ctx s.dev.cycle
  let s := [2, 1, 0].foldl (fun s dom => s.unitDone bi gi dom) s
  s.updLaunch b.ctx b.launch fun l => { l with completed := l.completed + 1 }
/-- All lanes of a group have exited (R198). -/
def State.groupGone (s : State) (gi : Nat) : State :=
  let g := s.grp gi
  let bi := s.blockOf g
  let core := g.coreIx
  let s := g.async.foldl (fun s a => s.logGroup gi 2 a.cause (maskOf (· == a.lane)) a.addr 0) s
  let s := s.exitRelease gi core ((g.levelScope 5).getD 2)
  if !(s.grp gi).live then s else
  let s := g.lch.spillFrames.foldl (fun s r => s.freeFrames r) s
  let s := s.updG gi Group.gone
  let s := s.updCore core fun c => { c with vacqs := c.vacqs.filter fun v => v.1.group != gi }
  let s := s.undraw g.who.ctx fun w => w.group == gi
  let mates := (s.blk bi).groups.filter fun h => (s.grp h).live
  let s := if mates.all fun h => (s.grp h).coreIx != core then s.partDone bi gi core else s
  let s := if mates.isEmpty then s.blockDone bi gi else s
  s.settleBarriers bi

/-! ## Divergence, deferral and revival (R154 to R157) -/

def SState.code : SState → Nat
  | .free => 0 | .ready => 1 | .sleep => 2 | .wait => 3 | .join => 4 | .parked => 5
/-- A deferred entry as it returns to the split table: in its stored state; a YIELD completes (R157, R197). -/
def Deferred.revived (d : Deferred) : Split :=
  let sp : Split := { Split.empty with st := d.st, pc := d.pc, mask := d.mask, s := d.s, spoison := d.spoison, c := d.c, wait := d.wait, cychi := d.cychi }
  match d.st, d.wait with
  | .wait, .yield => { sp with st := .ready, pc := d.pc + 4 }
  | _, _ => sp
/-- Reviving deferred entries into FREE entries, ascending, oldest first (R157). -/
def Group.reviveOne (g : Group) : Group :=
  match g.freeEntry, g.deferred with
  | some i, d :: t => { g with deferred := t, splits := g.splits.set i d.revived }
  | _, _ => g
def Group.revive (g : Group) : Group := g.reviveOne.reviveOne.reviveOne.reviveOne
/-- A deferred entry of a split. -/
def Split.toDeferred (sp : Split) (seq : Nat) : Deferred :=
  { pc := sp.pc, mask := sp.mask, s := sp.s, spoison := sp.spoison, c := sp.c, st := sp.st, wait := sp.wait, seq := seq, cychi := sp.cychi }
def Group.push (g : Group) (sp : Split) : Group :=
  { g with deferred := g.deferred ++ [sp.toDeferred g.seq], seq := g.seq + 1 }
/-- Room on the deferred list: 16 entries on chip and the spill area (R156). -/
def Group.room (g : Group) : Nat := 16 + g.lch.spillCap - g.deferred.length
def Group.freeCount (g : Group) : Nat := (g.splits.filter fun sp => sp.st == SState.free).length
/-- A new split of a divergence: banked scalars, flags and counters copied; counted operations count in it too (R154, R155). -/
def Group.fork (g : Group) (from' : Nat) (mask : Mask) (pc : Addr56) : Group :=
  let sp := g.splits.getD from' default
  let child : Split := { Split.empty with st := .ready, pc := pc, mask := mask, s := sp.s, spoison := sp.spoison, c := sp.c, vmc := sp.vmc, vsc := sp.vsc,
                                          smc := sp.smc, xc := sp.xc }
  match g.freeEntry with
  | some i =>
    { g with splits := g.splits.set i child,
             ops := g.ops.map fun op => { op with holders := op.holders ++ (op.holders.filter (· == from')).map fun _ => i } }
  | none => g.push child

/-- A lane mask as the lanes exit: the entry is FREE, the lanes count as exited (R198); SPLIT_DEFERRAL fills the entry (R157). -/
def Group.exitSplit (g : Group) (i : Nat) : Group :=
  let m := (g.splits.getD i default).mask
  { g with exited := g.exited ||| m, splits := g.splits.set i Split.empty, freed := g.freed + 1 }
/-- Whether some segment of a group has no lane left that had one before (R175). -/
def Group.segmentEnds (g : Group) (before : Mask) : Bool :=
  match (g.lch.dom.zip g.lch.ext).lookup 6 with
  | none => false
  | some n => (List.range n).any fun k =>
      let lanes := maskOf fun l => l / (32 / max n 1) == k
      lanes &&& ~~~g.exited == 0 && lanes &&& ~~~before != 0
/-- The scope at which lanes that exit release their writes: the LANE level's, and the SEGMENT level's where a segment ends (R175). -/
def Group.laneScope (g : Group) (before : Mask) : Nat :=
  max ((g.levelScope 7).getD 0) (if g.segmentEnds before then (g.levelScope 6).getD 0 else 0)
/-- EXIT's effect on a split: the releases of the levels that end with its lanes. A line that cannot be written stays dirty for the
release at the group's exit (R391). -/
def State.exitSplit (s : State) (who : SplitRef) : State :=
  let before := (s.grp who.group).exited
  let s := s.updG who.group fun g => g.exitSplit who.split
  let g := s.grp who.group
  if g.exited = BitVec.allOnes 32 then s.groupGone who.group
  else ((s.releaseActs g.coreIx g.who.ctx (g.laneScope before) none).1).settleBarriers (s.blockOf g)

/-! ## Traps (R377 to R384) -/

/-- What a trap reports: the cause, bits [31:8] of TRAPCAUSE, the lanes, the address, the PC saved, how it was delivered, and the
replay or resume mark it leaves. -/
structure Cause where
  code : Nat
  info : Nat
  mask : Mask
  addr : Addr56
  pc : Addr56
  async : Bool
  replay : Option Mask
  resume : Option SState
deriving DecidableEq, Repr, Inhabited

/-- A cause that meets an instruction issued again under a replay mask keeps that mask (R381). -/
def Cause.keeping (c : Cause) (sp : Split) : Cause :=
  if sp.replayNow && c.replay.isNone then { c with replay := sp.replay } else c

/-- A cause that concerns the issuing split as a whole, at its own PC. -/
def State.causeOf (s : State) (code : Nat) : Cause :=
  let sp := s.spl s.cur
  { code := code, info := 0, mask := sp.mask, addr := 0, pc := sp.pc, async := false, replay := none, resume := none }
def Cause.word (c : Cause) : Word := BitVec.ofNat 32 (c.info * 256 + c.code)
/-- Whether another split of the group is in trap mode (R379). -/
def Group.trapElsewhere (g : Group) (i : Nat) : Bool :=
  (List.range g.splits.length).any fun j => j != i && (g.splits.getD j default).trap
/-- Ending a group (R384): its log entries, results discarded, every lane exits. -/
def State.endGroup (s : State) (who : SplitRef) (c : Cause) : State :=
  let sp := s.spl who
  let s :=
    if sp.trap then
      (s.logGroup who.group 1 (sp.tcause.toNat % 256) sp.tmask sp.taddr sp.tpc).logGroup who.group 1 c.code c.mask c.addr c.pc
    else s.logGroup who.group 0 c.code c.mask c.addr c.pc
  (s.updG who.group fun g => { g with exited := BitVec.allOnes 32 }).groupGone who.group
/-- s376 to s383 at entry (R380). -/
def entryScalars (who : SplitRef) (sp : Split) (c : Cause) : List Word :=
  [c.word, c.mask,
   BitVec.ofNat 32 (c.replay.isSome.toNat * 512 + c.async.toNat * 256 + who.split % 4 * 16 + sp.c.toNat), 0, 0, 0, 0, 0]
/-- TRAPSPLIT at entry (R153). -/
def trapSplitWord (g : Group) (who : SplitRef) (sp : Split) : Word :=
  BitVec.ofNat 32 (min g.deferred.length 16 * 256 + sp.st.code * 16 + who.split % 4)
/-- Entering the handler (R379 steps 4 to 6); a wait that a resume mark returns to is kept with it (R382). -/
def State.enterTrap (s : State) (who : SplitRef) (c : Cause) : State :=
  let g := s.grp who.group
  let sp := s.spl who
  let c := c.keeping sp
  let base := (s.ctx g.who.ctx).trapBase
  let sc := entryScalars who sp c
  let s := s.updCore g.coreIx fun k => { k with vacqs := k.vacqs.filter fun v => v.1 != who }
  let s := s.updG who.group fun g => (List.range 8).foldl (fun g i => g.writeS (376 + i) (wordAt sc i)) g
  s.updS who fun sp =>
    { sp with st := .ready, trap := true, pc := BitVec.ofNat 56 base, latches := deadLatches, tcause := c.word, tpc := c.pc,
              tmask := c.mask, taddr := c.addr, tsplit := trapSplitWord g who sp, replay := c.replay, replayNow := false,
              resume := c.resume, rwait := sp.wait, rlimit := sp.limit, markPc := c.pc, parked := none }
/-- Taking a cause in a split: held while another split of the group is in trap mode; the group ends in trap mode and where
the context has no handler (R378, R379, R384). -/
def State.takeTrap (s : State) (who : SplitRef) (c : Cause) : State :=
  let g := s.grp who.group
  if g.trapElsewhere who.split then s.updS who fun sp => { sp with held := true }
  else if (s.spl who).trap || (s.ctx g.who.ctx).trapBase == 0 then s.endGroup who c
  else s.enterTrap who c
/-- A precise trap of the issuing split with its whole mask. -/
def State.trapNow (s : State) (code : Nat) : State := s.takeTrap s.cur (s.causeOf code)
/-- The same with lanes and an address. -/
def State.trapAt (s : State) (code : Nat) (mask : Mask) (addr : Nat) : State :=
  s.takeTrap s.cur { s.causeOf code with mask := mask, addr := BitVec.ofNat 56 addr }
/-- The same, where some lanes have been performed: the rest is the replay mask (R381). -/
def State.trapReplay (s : State) (code : Nat) (mask : Mask) (addr : Nat) : State :=
  s.takeTrap s.cur { s.causeOf code with mask := mask, addr := BitVec.ofNat 56 addr, replay := some mask }

/-- Returning from the handler (R111, R381 to R383): c0 to c3 from s378, the replay mask or resume mark where TRAPPC still holds
its address, trap mode left, PC from TRAPPC. A wait resumes as it was, tests its condition again, and counts its n cycles afresh. -/
def State.rteReturn (s : State) : State :=
  let g := s.grp s.cur.group
  let now := s.dev.cycle
  let c : BitVec 4 := (sget 0 g.regs.s 378).truncate 4
  s.updS s.cur fun sp =>
    let sp := { sp with c := c, trap := false, pc := sp.tpc }
    if sp.tpc = sp.markPc then
      { sp with st := sp.resume.getD .ready, wait := sp.rwait, limit := sp.rlimit, wake := now + sp.rlimit, pollBy := now, resume := none,
                replayNow := sp.replay.isSome }
    else { sp with resume := none, replay := none, replayNow := false }

/-! ## Counted operations (R155, R236) -/

def Group.finish (g : Group) (op : PendOp) : Group :=
  let g := op.vwrites.foldl (fun g w => g.writeV w.1 w.2.1 w.2.2) g
  let g := g.orFlags op.flags
  let g := op.swrites.foldl (fun g w =>
    if w.1 < 32 then op.holders.foldl (fun g i => g.updS i fun sp => sp.writeS w.1 w.2) g else g.writeS w.1 w.2) g
  let g := op.holders.foldl (fun g i => g.updS i fun sp => sp.setCtr op.ctr (sp.ctr op.ctr - 1)) g
  { g with ops := g.ops.filter fun x => x.id != op.id }
/-- Issuing a counted operation: the counter rises and the operation waits for its completion. -/
def State.countOp (s : State) (op : PendOp) : State :=
  let (id, s) := s.newId
  let op := { op with id := id, holders := [s.cur.split] }
  let s := s.updS s.cur fun sp => sp.setCtr op.ctr (sp.ctr op.ctr + 1)
  s.updG s.cur.group fun g => { g with ops := g.ops ++ [op] }
def State.findOp (s : State) (gi id : Nat) : Option PendOp := (s.grp gi).ops.find? fun x => x.id == id

/-! ## The checks of R56 -/

def C32.opOk (op : Nat) : Bool := decide (op ≤ 0x10)
/-- Step 5: RTE outside trap mode (R111). -/
def privileged : IWord → Bool
  | .c32 0x0E _ => true
  | _ => false
/-- Step 6: a source reads a dead latch. -/
def Split.staleLatch (sp : Split) : IWord → Bool
  | .v96 op o => (v96Latches op o).any fun x => !(sp.latches.getD x.1 default).live
  | _ => false
/-- Whether a word is a V96 instruction or NOP (R168). -/
def latchSafe : IWord → Bool
  | .v96 _ _ => true
  | .c32 0 _ => true
  | _ => false
/-- The lanes in which an instruction reads a poisoned register; a scalar concerns the whole mask (R434). -/
def State.poisonLanes (s : State) (w : IWord) : Mask :=
  let g := s.grp s.cur.group
  let m := (s.spl s.cur).mask
  let lanes (em : Mask) (regs : List Nat) : Mask :=
    maskOf fun l => inMask em l && regs.any fun r => g.regs.vpoison.contains (r * 32 + l)
  match w with
  | .v96 op o => s.v96Poison op o
  | .s64 op o => if (s64Sels op o).any s.spoisoned then m else 0
  | .mem op o =>
    let em := s.execMask o.pe o.pi.toNat o.pn
    let quad := if o.heap then [o.sa.toNat] else (List.range 4).map (o.sa.toNat + ·)
    if em = 0 then 0 else if quad.any s.spoisoned then em else lanes em (memReads op o)
  | .eng op o =>
    let em := s.execMask o.pe o.pi.toNat o.pn
    if em = 0 then 0 else if (engSels op o).any s.spoisoned then m else lanes em (engReads op o)
  | .c32 0x04 _ => if s.spoisoned 30 || s.spoisoned 31 then m else 0
  | .c32 0x0E _ => if s.spoisoned 378 then m else 0
  | _ => 0
/-- Steps 3 to 7 of R56, and the read of poisoned registers: the trap code, if any. -/
def State.precheck (s : State) (w : IWord) : Option Nat :=
  let sp := s.spl s.cur
  let g := s.grp s.cur.group
  if sp.hasLatch && !latchSafe w then some 0x03
  else if !operandsOk w then some 0x02
  else if privileged w && !sp.trap then some 0x06
  else if sp.staleLatch w then some 0x04
  else if (wordRegs w).any fun r => !g.vmapped r then some 0x05
  else if s.poisonLanes w ≠ 0 then some 0x14
  else none
/-- An instruction word issues: the checks, then its effect. A step without a split that may issue is a fault of the model. -/
def issue (w : IWord) (s : State) (body : State → State) : Host.Outcome State Fault Refusal :=
  if s.curOk then
    match s.precheck w with
    | some 0x14 => .next (s.trapAt 0x14 (s.poisonLanes w) 0)
    | some code => .next (s.trapNow code)
    | none => .next (body s)
  else .fault .noIssuingSplit

end Sys2Proof.Machine
end

