-- ==== Sys2Proof/Machine/Control.lean ====
section
/-!
DEFINITION. Control: branches, calls, landing pads, traps, waits, divergence, barriers and register blocks (R98 to R111, R191 to
R201).
-/

namespace Sys2Proof.Machine

/-! ## Shared operations -/

/-- The eighth issue after a latch's last writer kills it (R167); `kept` names a latch written by this instruction. -/
def Latch.aged (b : Latch) : Latch := if b.live then (if 7 ≤ b.age then Latch.dead else { b with age := b.age + 1 }) else b
def State.ageLatches (s : State) : State := s.updS s.cur fun sp => { sp with latches := sp.latches.map Latch.aged }
/-- The PC of the issuing split. -/
def State.pc (s : State) : Addr56 := (s.spl s.cur).pc
/-- The target of R59. -/
def State.target (s : State) (o : C32) : Addr56 := s.pc + BitVec.ofInt 56 (4 * sextN 20 (c32Bits o 19 0))
/-- The word of code at an address, with its fault served beside the pages that its instruction needs; refused where the page is not executable (R13). Of code that has been modified the
model fetches the word that the home memory holds at the fetch, which R14 allows beside the old one (DESIGN CHOICE, log 54). -/
def State.codeWord (s : State) (ctx va : Nat) (keep : List Nat) : Xl Word :=
  (s.xlateIn ctx va .x keep).andThen fun p s => .got (BitVec.ofNat 32 (leNat (getBs s.mem p 4))) s
/-- The context of the issuing group. -/
def State.curCtx (s : State) : Nat := (s.grp s.cur.group).who.ctx
/-- The landing-pad check of R102: the trap code, and the state after the read. -/
def State.padCheck (s : State) (target tag : Nat) : Xl (Option Nat) :=
  if target % 4 ≠ 0 then .got (some 0x08) s
  else match s.codeWord s.curCtx target (pageRange target 4) with
    | .got w s' => .got (if w = BitVec.ofNat 32 (0x0B000000 + tag % 65536) then none else some 0x07) s'
    | .wait => .wait
    | .refused => .got (some 0x11) s
    | .exhausted => .exhausted
/-- What an access on the spot comes to for the issuing split: held while its fault waits for the reserve, the context's failure where frames are
exhausted (R387 to R389). -/
def State.onGot {α : Type} (s : State) (x : Xl α) (va : Nat) (k : α → State → State) : State :=
  match x with
  | .got a t => k a t
  | .wait => s.hold
  | .refused => s.trapAt 0x11 (s.spl s.cur).mask va
  | .exhausted => s.failContext s.cur.group 0x15 (s.spl s.cur).mask (BitVec.ofNat 56 va) (s.spl s.cur).pc
/-- The link pair receives a return address (R99). -/
def State.link (s : State) (ret : Addr56) : State :=
  (s.writeS s.cur 30 (ret.truncate 32)).writeS s.cur 31 (BitVec.ofNat 32 (ret.toNat / 2 ^ 32))
/-- Divergence (R154, R156): the issuing split keeps a mask and a PC, the others become new splits in order. Held while a push
needs idle counters; SPLIT_OVERFLOW without room. -/
def State.divide (s : State) (own : Mask) (pc : Addr56) (others : List (Mask × Addr56)) : State :=
  let g := s.grp s.cur.group
  let pushes := others.length - g.freeCount
  if pushes ≠ 0 && !(s.spl s.cur).idleCtrs then s.hold
  else if g.room < pushes then s.trapNow 0x09
  else
    s.updG s.cur.group fun g =>
      let g := g.updS s.cur.split fun sp => { sp.goto pc with mask := own, latches := deadLatches }
      others.foldl (fun g x => g.fork s.cur.split x.1 x.2) g
/-- Entering WAIT at the waiting instruction (R152); an awaited word is read again within 4,096 cycles (R203). -/
def State.enterWait (s : State) (k : WaitKind) : State :=
  s.updS s.cur fun sp => { sp with st := .wait, wait := k, wake := s.dev.cycle + 1, limit := 0, pollBy := s.dev.cycle + 4096 }

/-! ## C32 -/

/-- NOP (R105): takes its issue, and counts for the latches. -/
def execNop (o : C32) (s : State) : Host.Outcome State Fault Refusal :=
  issue (.c32 0x00 o) s fun s => (s.ageLatches).advance 1
/-- LPAD (R102): executed, it acts as NOP. -/
def execLpad (o : C32) (s : State) : Host.Outcome State Fault Refusal :=
  issue (.c32 0x0B o) s fun s => s.advance 1
/-- BRA (R98). -/
def execBra (o : C32) (s : State) : Host.Outcome State Fault Refusal :=
  issue (.c32 0x01 o) s fun s =>
    if c32Bits o 23 23 = 0 ∨ s.cflag (c32Bits o 21 20) = (c32Bits o 22 22 == 1) then s.setPc (s.target o) else s.advance 1
/-- The lanes that a BRD takes (R194). -/
def State.brdLanes (s : State) (o : C32) : Mask :=
  let p := (s.grp s.cur.group).readP (c32Bits o 23 21)
  (s.spl s.cur).mask &&& (if c32Bits o 20 20 = 1 then ~~~p else p)
/-- BRD (R194); in trap mode the lowest lane decides for all (R159). -/
def execBrd (o : C32) (s : State) : Host.Outcome State Fault Refusal :=
  issue (.c32 0x02 o) s fun s =>
    let sp := s.spl s.cur
    let taken := s.brdLanes o
    if sp.trap then
      (match lowestLane sp.mask with
       | some l => if inMask taken l then s.setPc (s.target o) else s.advance 1
       | none => s.advance 1)
    else if taken = sp.mask then s.setPc (s.target o)
    else if taken = 0 then s.advance 1
    else s.divide (sp.mask &&& ~~~taken) (s.pc + 4) [(taken, s.target o)]
/-- CALL (R99). -/
def execCall (o : C32) (s : State) : Host.Outcome State Fault Refusal :=
  issue (.c32 0x03 o) s fun s => (s.link (s.pc + 4)).setPc (s.target o)
/-- RET (R100). -/
def execRet (o : C32) (s : State) : Host.Outcome State Fault Refusal :=
  issue (.c32 0x04 o) s fun s =>
    let t := s.addrAt 30
    if t % 4 ≠ 0 then s.trapAt 0x08 (s.spl s.cur).mask t else s.setPc (BitVec.ofNat 56 t)
/-- EXIT (R198): held until the counters are 0. -/
def execExit (o : C32) (s : State) : Host.Outcome State Fault Refusal :=
  issue (.c32 0x05 o) s fun s => if (s.spl s.cur).idleCtrs then s.exitSplit s.cur else s.hold
/-- WAITC (R107): held until every counter is at or below its limit. -/
def execWaitc (o : C32) (s : State) : Host.Outcome State Fault Refusal :=
  issue (.c32 0x06 o) s fun s =>
    let sp := s.spl s.cur
    if sp.vmc ≤ c32Bits o 23 18 ∧ sp.vsc ≤ c32Bits o 17 12 ∧ sp.smc ≤ c32Bits o 11 6 ∧ sp.xc ≤ c32Bits o 5 0 then s.advance 1
    else s.hold
/-- Whether a split holds every unexited lane of its group (R196). -/
def Group.holdsAll (g : Group) (sp : Split) : Bool := (sp.mask ||| g.exited) == BitVec.allOnes 32
/-- JOIN (R196). -/
def execJoin (o : C32) (s : State) : Host.Outcome State Fault Refusal :=
  issue (.c32 0x08 o) s fun s =>
    let n := c32Bits o 15 0
    if (s.grp s.cur.group).holdsAll (s.spl s.cur) then s.advance 1
    else s.updS s.cur fun sp => { sp with st := .join, wake := s.dev.cycle + max n 1, limit := max n 1 }
/-- YIELD (R197): held until the counters are 0, then WAIT. -/
def execYield (o : C32) (s : State) : Host.Outcome State Fault Refusal :=
  issue (.c32 0x09 o) s fun s => if (s.spl s.cur).idleCtrs then s.enterWait .yield else s.hold
/-- SLEEP (R106): the PC has passed it. -/
def execSleep (o : C32) (s : State) : Host.Outcome State Fault Refusal :=
  issue (.c32 0x0A o) s fun s =>
    let n := c32Bits o 15 0
    let s := s.advance 1
    if n = 0 then s else s.updS s.cur fun sp => { sp with st := .sleep, wake := s.dev.cycle + n, limit := n }
/-- TRAP (R109): completes, so TRAPPC holds the next instruction. -/
def execTrap (o : C32) (s : State) : Host.Outcome State Fault Refusal :=
  issue (.c32 0x0C o) s fun s => s.takeTrap s.cur { s.causeOf 0x0A with info := c32Bits o 7 0, pc := s.pc + 4 }
/-- BKPT (R109): does not complete. -/
def execBkpt (o : C32) (s : State) : Host.Outcome State Fault Refusal :=
  issue (.c32 0x0D o) s fun s => s.takeTrap s.cur { s.causeOf 0x0B with info := c32Bits o 15 0 * 256 }
/-- RTE (R111, R383): a misaligned TRAPPC is a cause in trap mode. -/
def execRte (o : C32) (s : State) : Host.Outcome State Fault Refusal :=
  issue (.c32 0x0E o) s fun s =>
    let t := (s.spl s.cur).tpc
    if t.toNat % 4 ≠ 0 then s.trapAt 0x08 (s.spl s.cur).mask t.toNat else s.rteReturn
/-- SEGW (R200). -/
def execSegw (o : C32) (s : State) : Host.Outcome State Fault Refusal :=
  issue (.c32 0x10 o) s fun s =>
    (s.updG s.cur.group fun g => { g with regs := { g.regs with segw := 2 ^ c32Bits o 2 0 } }).advance 1

/-! ## Barriers (R191 to R193, R199) -/

def State.barrier (s : State) (id : Nat) : Barrier := (s.blk (s.blockOf (s.grp s.cur.group))).barriers.getD id default
/-- The outcome of an arrival: BARRIER_COUNT, held, or the barrier with the lanes arrived and the phase joined. -/
inductive ArriveResult where
  | count
  | held
  | joined (b : Barrier) (phase : Nat)
deriving DecidableEq, Repr, Inhabited
/-- Marking lanes as arrived in a phase with a count (R192). -/
def Phase.arrive (p : Phase) (gid count : Nat) (m : Mask) : Option Phase :=
  match p.expected with
  | some n => if n = count then some { p with arrived := sset 0 p.arrived gid (sget 0 p.arrived gid ||| m) } else none
  | none => some { arrived := sset 0 p.arrived gid (sget 0 p.arrived gid ||| m), expected := some count }
/-- An arrival of a group's lanes (R191, R192). -/
def Barrier.arrive (b : Barrier) (gid ngroups count : Nat) (m exited : Mask) : ArriveResult :=
  let joined (c n : Phase) (ph : Nat) : ArriveResult :=
    .joined { b with cur := c, nxt := n, joined := sset 0 b.joined gid (ph + 1) } ph
  if sget 0 b.cur.arrived gid = 0 ∨ !b.cur.has gid exited then
    if ngroups < count then .count else
      match b.cur.arrive gid count m with | some p => joined p b.nxt b.phase | none => .count
  else if sget 0 b.nxt.arrived gid = 0 ∨ !b.nxt.has gid exited then
    if ngroups < count then .count else
      match b.nxt.arrive gid count m with | some p => joined b.cur p (b.phase + 1) | none => .count
  else .held
/-- The arrival of the issuing split, held until its memory counters are 0 (R270), then what follows on the phase joined. -/
def State.arrive (s : State) (o : C32) (k : Nat → State → State) : State :=
  if !(s.spl s.cur).memIdle then s.hold else
  let g := s.grp s.cur.group
  let bi := s.blockOf g
  let id := c32Bits o 21 18
  match (s.barrier id).arrive g.who.gid (s.blk bi).ngroups (c32Bits o 15 0) (s.spl s.cur).mask g.exited with
  | .count => s.trapNow 0x0C
  | .held => s.hold
  | .joined b ph => k ph ((s.updB bi fun x => { x with barriers := x.barriers.set id b }).settleBarriers bi)
/-- Waiting for a phase (R193). -/
def State.awaitPhase (s : State) (id ph : Nat) : State :=
  if ph < (s.barrier id).phase then s.advance 1 else s.enterWait (.barrier id ph)
/-- BAR.sync (R193). -/
def execBarSync (o : C32) (s : State) : Host.Outcome State Fault Refusal :=
  issue (.c32 0x07 o) s fun s => s.arrive o fun ph s => s.awaitPhase (c32Bits o 21 18) ph
/-- BAR.arrive (R191). -/
def execBarArrive (o : C32) (s : State) : Host.Outcome State Fault Refusal :=
  issue (.c32 0x07 o) s fun s => s.arrive o fun _ s => s.advance 1
/-- BAR.wait (R193): the phase of the group's latest arrival, or the current phase. -/
def execBarWait (o : C32) (s : State) : Host.Outcome State Fault Refusal :=
  issue (.c32 0x07 o) s fun s =>
    let b := s.barrier (c32Bits o 21 18)
    s.awaitPhase (c32Bits o 21 18) (match sget 0 b.joined (s.grp s.cur.group).who.gid with | 0 => b.phase | n + 1 => n)

/-! ## Indirect transfers (R101, R102) -/

def State.brxTag (s : State) (o : S64) : Nat := (s.srcB o).toNat % 65536
/-- The check and transfer shared by BRX and CALLX. -/
def State.brxGo (s : State) (o : S64) (k : Addr56 → State → State) : State :=
  let t := s.addrAt o.sa.toNat
  s.onGot (s.padCheck t (s.brxTag o)) t fun r s => match r with
    | some code => s.trapAt code (s.spl s.cur).mask t
    | none => k (BitVec.ofNat 56 t) s
/-- BRX (R101). -/
def execBrx (o : S64) (s : State) : Host.Outcome State Fault Refusal :=
  issue (.s64 0x3A o) s fun s => s.brxGo o fun t s => s.setPc t
/-- CALLX (R101): links only when the check passes. -/
def execCallx (o : S64) (s : State) : Host.Outcome State Fault Refusal :=
  issue (.s64 0x3B o) s fun s => s.brxGo o fun t s => (s.link (s.pc + 8)).setPc t

/-! ## Register blocks (R201) -/

/-- Whether an instruction in flight reads or writes a register of block k: one that is counted, one that is parked before it has asked for
anything, or an MRD. -/
def State.blockBusy (s : State) (gi k : Nat) : Bool :=
  let g := s.grp gi
  (g.ops.any fun op => op.vwrites.any (fun w => w.1 / 16 == k) || op.regs.any (· / 16 == k)) ||
    (g.splits.any fun sp => sp.st == .parked && sp.parked.any fun p => p.acc.reads.any (· / 16 == k)) ||
    (s.cl g.who.cluster).matq.any fun m => m.kind == MatKind.mrd && m.group == gi && m.vd / 16 == k
/-- The physical blocks in use on a partition of a core. -/
def State.physUsed (s : State) (core part : Nat) : List Nat :=
  s.groups.flatMap fun g => if g.live? && g.coreIx == core && g.part == part then g.regs.phys.filterMap id else []
/-- The lowest free physical block of a partition. -/
def State.physFree (s : State) (core part : Nat) : Option Nat :=
  let used := s.physUsed core part
  (List.range 32).find? fun n => !used.contains n
/-- Block k of a group mapped to a physical block, or unmapped; its contents read 0. -/
def Group.mapBlock (g : Group) (k : Nat) (p : Option Nat) : Group :=
  { g with regs := { g.regs with phys := g.regs.phys.set k p, v := sdropWhere (fun a => a / 512 == k) g.regs.v,
                                 vpoison := g.regs.vpoison.filter fun a => a / 512 != k } }
/-- The block number of VACQ and VREL. -/
def State.blockNo (s : State) (o : S64) : Nat := if o.sb.toNat < 384 then (s.sel o.sb.toNat).toNat else o.sb.toNat - 464
/-- An enabled cf of VACQ. -/
def State.acqFlag (s : State) (o : S64) (b : Bool) : State := if o.cf.getLsbD 2 then s.setC (o.cf.toNat % 4) b else s
/-- VACQ (R201): blocking forms of one partition are served in the order in which they issued. -/
def execVacq (o : S64) (s : State) : Host.Outcome State Fault Refusal :=
  issue (.s64 0x3C o) s fun s =>
    let g := s.grp s.cur.group
    let k := s.blockNo o
    let nb := o.aux.toNat % 2 == 1
    let leave (s : State) : State := s.updCore g.coreIx fun c => { c with vacqs := c.vacqs.filter fun v => v.1 != s.cur }
    let first := ((s.core g.coreIx).vacqs.filter fun v => (s.grp v.1.group).part == g.part).head?
    if 15 < k then s.trapNow 0x02
    else if s.blockBusy s.cur.group k then s.hold
    else if (g.regs.phys.getD k none).isSome then ((leave s).acqFlag o true).advance 2
    else
      let turn := nb || (match first with | some v => v.1 == s.cur | none => true)
      match (if turn then s.physFree g.coreIx g.part else none) with
      | some p => (((leave s).updG s.cur.group fun g => g.mapBlock k (some p)).acqFlag o true).advance 2
      | none =>
        if nb then (s.acqFlag o false).advance 2
        else if (s.core g.coreIx).vacqs.any fun v => v.1 == s.cur then s.hold
        else (s.updCore g.coreIx fun c => { c with vacqs := c.vacqs ++ [(s.cur, k)] }).hold
/-- VREL (R201). -/
def execVrel (o : S64) (s : State) : Host.Outcome State Fault Refusal :=
  issue (.s64 0x3D o) s fun s =>
    let k := s.blockNo o
    if 15 < k then s.trapNow 0x02
    else if s.blockBusy s.cur.group k then s.hold
    else (s.updG s.cur.group fun g => if (g.regs.phys.getD k none).isSome then g.mapBlock k none else g).advance 2

end Sys2Proof.Machine
end

