-- ==== Sys2Proof/Machine/Records.lean ====
section
/-!
DEFINITION. Buffer records (R27 to R30), heap entries (R320, R323), the checks of an instruction's lanes, double-mapped regions
(R273), weight-store grants (R225) and windows (R420).
-/

namespace Sys2Proof.Machine

/-! ## Fault records and parking (R152, R385) -/

def lineOf (va : Nat) : Nat := va / 256 * 256
/-- New fault records, one per line, of requests that read, write or do both. -/
def State.faultRecs (s : State) (lines : List Nat) (read write : Bool) : List FaultRec :=
  lines.zipIdx.map fun x => { seq := s.nextId + x.2, line := x.1, read := read, write := write, resolved := false, refused := false }
/-- The fault records that a core holds: those of its parked splits, answered or not, until the split goes on. -/
def State.recordsHeld (s : State) (core : Nat) : Nat :=
  (s.groups.map fun g => if g.coreIx == core && g.live? then
    (g.splits.map fun sp => match sp.parked with
      | some p => p.faults.length
      | none => 0).sum else 0).sum
/-- Whether the issuing core has fault records free for some lines (R385). -/
def State.recordsFree (s : State) (lines : List Nat) : Bool :=
  decide (s.recordsHeld (s.grp s.cur.group).coreIx + lines.length ≤ 256)
/-- The access of an instruction that has asked for nothing yet. -/
def noAccess : Access := { kind := .store, rkind := 0, width := 0, d := 0, scalar := true, scope := 0, policy := 0, lanes := [] }
/-- The count that a parked instruction keeps before it has asked for anything (R386). -/
def State.earlyOp (s : State) (ctr : Ctr) (mask : Mask) : PendOp :=
  { id := 0, kind := .parked, ctr := ctr, holders := [], lanes := mask, splitMask := (s.spl s.cur).mask, pc := (s.spl s.cur).pc,
    vwrites := [], swrites := [], flags := 0, acc := none, regs := [], args := [], laneArgs := [] }
/-- Parking the current split at its instruction before any of its lanes has been asked for: it goes on with the registers as it has read them
once Clove-M has answered, or a wait reads its word again (R152, R203, R255, R386). A counted instruction counts; it is held at a full counter
(R108), and while no fault record is free. `named` lists the v-registers that it names (R201). -/
def State.parkLines (s : State) (lines : List Nat) (write : Bool) (mask : Mask) (whole : Bool) (ctr : Option Ctr) (named : List Nat) : State :=
  let sp := s.spl s.cur
  if !s.recordsFree lines || ctr.any (fun c => decide (63 ≤ sp.ctr c)) then s.hold else
    let src := if sp.st == .wait then none else some (s.grp s.cur.group).regs
    let id := s.nextId
    let s := match ctr with | some c => s.countOp (s.earlyOp c mask) | none => s
    let s := s.updS s.cur fun sp =>
      { sp with st := .parked,
                parked := some { acc := { noAccess with reads := named }, op := id, acted := false, faults := s.faultRecs lines (!write) write, mask := mask,
                                 whole := whole, src := src } }
    { s with nextId := s.nextId + lines.length }
/-- A cause of the issuing split: a page fault parks it, anything else traps (R211, R385). -/
def State.stopAt (s : State) (code : Nat) (mask : Mask) (addr : Nat) (ctr : Option Ctr := none) (named : List Nat := []) :
    State :=
  if code = faultCause then s.parkLines [addr] false mask false ctr named else s.trapAt code mask addr

/-! ## Buffer records -/

/-- A buffer record (R27, R28). -/
structure BufRec where
  base : Nat
  kind : Nat
  extent : Nat
  stride : Nat
  swzw : Nat
  esize : Nat
  rdonly : Bool
  oobtrap : Bool
deriving DecidableEq, Repr, Inhabited

/-- A record and the cause of the first check of R27 that it fails. -/
def parseRec (w : List Word) : BufRec × Option Nat :=
  let w1 := wordAt w 1
  let w3 := wordAt w 3
  let r : BufRec :=
    { base := (wordAt w 0).toNat + 2 ^ 32 * wfield w1 23 0, kind := wfield w1 27 24, extent := (wordAt w 2).toNat,
      stride := wfield w3 15 0, swzw := wfield w3 21 16, esize := wfield w3 31 28, rdonly := w1.getLsbD 30,
      oobtrap := w1.getLsbD 31 }
  let bad := decide (4 < r.esize) || decide (15 < r.swzw) || wfield w3 27 22 != 0 || wfield w1 29 28 != 0 ||
    decide (7 ≤ r.kind ∧ r.kind ≤ 14)
  (r, if bad then some 0x02 else if r.kind = 2 ∧ r.base % 256 ≠ 0 then some 0x13 else none)
/-- A null record: every lane is out of bounds. -/
def nullRec : BufRec :=
  { base := 0, kind := 15, extent := 0, stride := 0, swzw := 0, esize := 0, rdonly := false, oobtrap := false }
def BufRec.linear (r : BufRec) : Bool := r.kind != 1 && r.kind != 2
/-- Addr of R29, exact; the index is a 32-bit pattern. -/
def BufRec.addr (r : BufRec) (i : Nat) (o : Int) : Int :=
  if r.kind = 1 then (r.base + i * r.stride : Nat) + o
  else if r.kind = 2 then
    let e := 2 ^ r.esize
    let y := i / 2 ^ r.swzw
    let x := i % 2 ^ r.swzw
    let b := y * 2 ^ r.swzw * e + x * e
    ((r.base + (b ^^^ (y % 16 * 16)) : Nat) : Int) + o
  else (r.base : Int) + sextN 32 i + o
/-- InBounds of R29. -/
def BufRec.inBounds (r : BufRec) (i : Nat) (o : Int) (w : Nat) : Bool :=
  if r.kind = 15 then false
  else if r.linear then decide (0 ≤ sextN 32 i + o) && decide (sextN 32 i + o + w ≤ r.extent)
  else decide (i < r.extent) && decide (0 ≤ o) && decide (o + w ≤ (2 ^ r.esize : Nat))
/-- The record in four scalars. -/
def State.recAt (s : State) (n : Nat) : BufRec × Option Nat := parseRec (s.readSs s.cur n 4)

/-! ## Heap entries (R320, R323) -/

/-- A heap entry of the issuing group's context, read through the sampler cache: its words, or the cause and address of a refused, absent
or poisoned line. An index past the heap is a null entry. -/
def State.heapEntry (s : State) (idx : Nat) : State × List Word × Option (Nat × Nat) :=
  let g := s.grp s.cur.group
  let c := s.ctx g.who.ctx
  let va := (c.heapBase + 32 * idx) % 2 ^ 56
  if c.heapN ≤ idx then (s, List.replicate 8 0, none)
  else match s.xlate g.who.ctx va .r with
    | .absent => (s, [], some (faultCause, va / 256 * 256))
    | .readOnly | .refused => (s, [], some (0x11, va / 256 * 256))
    | .ok _ =>
      let (s, d, p) := s.samplerSector g.coreIx (vkey g.who.ctx va)
      if p then (s, [], some (0x14, va / 64 * 64))
      else (s, (List.range 8).map fun k => BitVec.ofNat 32 (sectorBytes d (va % 64 + 4 * k) 4), none)
/-- The address of a heap entry. -/
def State.entryAddr (s : State) (idx : Nat) : Nat := (s.ctx (s.grp s.cur.group).who.ctx).heapBase + 32 * idx
/-- A heap entry used as a record by the memory family (R231, R323): state, record, cause and address. One that fails check 1 of R27 is an
invalid entry (log 39). -/
def State.heapRec (s : State) (idx : Nat) : State × BufRec × Option (Nat × Nat) :=
  match s.heapEntry idx with
  | (s, _, some t) => (s, nullRec, some t)
  | (s, e, none) =>
    let ty := wfield (wordAt e 7) 31 28
    if ty = 0 then (s, nullRec, none)
    else if ty ≠ 1 ∨ wordAt e 4 ≠ 0 ∨ wordAt e 5 ≠ 0 ∨ wordAt e 6 ≠ 0 ∨ wfield (wordAt e 7) 27 0 ≠ 0 then
      (s, nullRec, some (0x02, s.entryAddr idx))
    else
      let (r, t) := parseRec e
      (s, r, t.map fun c => (c, if c = 0x02 then s.entryAddr idx else 0))

/-! ## The checks of the lanes (R30, R239, R243) -/

/-- A lane before its checks: its index, its store or operand value, its compare value. -/
structure Cand where
  lane : Nat
  i : Nat
  data : Nat
  cmp : Nat
deriving DecidableEq, Repr, Inhabited

/-- The outcome of the checks. -/
inductive Checks where
  | trap (code : Nat) (mask : Mask)
  | ok (reqs : List LaneReq) (oob : Mask)
deriving DecidableEq, Repr, Inhabited

/-- The lanes of requests as a mask. -/
def reqMask (l : List LaneReq) : Mask := maskOf fun n => l.any fun r => r.lane == n
/-- The checks of R30, kind by kind; with a limit, a lane must lie within the scratchpad allocation of that many bytes (R243). -/
def checkLanes (r : BufRec) (w : Nat) (o : Int) (limit : Option Nat) (cs : List Cand) : Checks :=
  let inside (c : Cand) : Bool :=
    r.inBounds c.i o w &&
      match limit with
      | some n => decide (0 ≤ r.addr c.i o) && decide (r.addr c.i o + w ≤ n)
      | none => true
  let ins := cs.filter inside
  let masked (p : Cand → Bool) : Mask := maskOf fun n => cs.any fun c => c.lane == n && p c
  let oob := masked fun c => !inside c
  let al : Nat := if w = 64 then 64 else min w 16
  let mis (c : Cand) : Bool := decide (r.addr c.i o % al ≠ 0)
  let far (c : Cand) : Bool := decide (r.addr c.i o < 0) || decide ((2 ^ 56 : Nat) ≤ r.addr c.i o)
  if r.oobtrap && oob != 0 then .trap 0x12 oob
  else if ins.any mis then .trap 0x13 (masked fun c => inside c && mis c)
  else if ins.any far then .trap 0x11 (masked fun c => inside c && far c)
  else .ok (ins.map fun c => { lane := c.lane, va := (r.addr c.i o).toNat, data := c.data, cmp := c.cmp }) oob

/-! ## Double-mapped regions (R273) -/

/-- The mapping pointer of an object for a group: its captured value, or the value at the home slice; or a cause and address. -/
def State.mapPointer (s : State) (gi obj : Nat) : State × Except (Nat × Nat) Nat :=
  let g := s.grp gi
  match g.captures.find? fun c => c.obj == obj with
  | some c => (s, .ok c.map)
  | none =>
    match s.pathRead g.who.ctx (obj + 8) 8 with
    | .ok (b, p) => (s, if p then .error (0x14, obj / 64 * 64) else .ok (leNat b % 2 ^ 56))
    | .error e => (s, .error e)
/-- One address of a kind-5 record: the address it maps to, or the cause and address of a trap. -/
def State.map5 (s : State) (gi va : Nat) : State × Except (Nat × Nat) Nat :=
  match (s.ctx (s.grp gi).who.ctx).bound va with
  | none => (s, .error (0x11, va))
  | some b =>
    match s.mapPointer gi b.obj with
    | (s, .ok m) => (s, .ok (((if m = 0 then b.base else m) + (va - b.base)) % 2 ^ 56))
    | (s, .error e) => (s, .error e)
/-- The requests of a kind-5 record served as kind 0; a lane outside every binding traps first. A pointer whose line is refused or absent concerns
every lane, as none has completed (R248). -/
def State.map5All (s : State) (gi al : Nat) (reqs : List LaneReq) : State × Except (Nat × Mask × Nat) (List LaneReq) :=
  let c := s.ctx (s.grp gi).who.ctx
  let out := reqs.filter fun r => (c.bound r.va).isNone
  match out with
  | h :: _ => (s, .error (0x11, reqMask out, h.va))
  | [] =>
    reqs.foldl (fun a r =>
      match a with
      | (s, .error e) => (s, .error e)
      | (s, .ok l) =>
        match s.map5 gi r.va with
        | (s, .error (code, va)) => (s, .error (code, reqMask (if code = 0x14 then [r] else reqs), va))
        | (s, .ok va) =>
          if va % al ≠ 0 then (s, .error (0x13, reqMask [r], 0)) else (s, .ok (l ++ [{ r with va := va }]))) (s, .ok [])

/-! ## Weight-store grants and windows -/

/-- Whether bytes of the weight store lie in a context's grant (R225). -/
def Context.granted (c : Context) (off n : Nat) : Bool :=
  c.grants.any fun g => decide (g.1 ≤ off) && decide (off + n ≤ g.1 + g.2)
/-- The window of a kind that holds a line, with the permission (R420). -/
def Context.window (c : Context) (kind va : Nat) (want : Want) : Option Window :=
  c.windows.find? fun w => decide (w.kind = kind) && decide (w.va ≤ va) && decide (va < w.va + w.len) &&
    (match want with | .r => w.r | .w => w.w | .x => false)

end Sys2Proof.Machine
end

