-- ==== Sys2Proof/Machine/Requests.lean ====
section
/-!
DEFINITION. Serving the requests of one memory instruction: loads, stores and atomics at their levels (R213 to R220, R238 to R244),
window requests (R420, R421), counting (R236), parking on faults, and replay (R385, R386).
-/

namespace Sys2Proof.Machine

/-! ## Atomics (R220, R241) -/

/-- The new value of an integer or bitwise sub-op on n-bit patterns. -/
def atomInt (sub n x y c : Nat) : Nat :=
  match sub with
  | 0x0 | 0xC => (x + y) % 2 ^ n
  | 0x2 => if sextN n x ≤ sextN n y then x else y
  | 0x3 => if sextN n x ≤ sextN n y then y else x
  | 0x4 => min x y
  | 0x5 | 0xF => max x y
  | 0x6 => x &&& y
  | 0x7 | 0xE => x ||| y
  | 0x8 => x ^^^ y
  | 0x9 => y
  | _ => if x = c then y else x
/-- A float step: RNE, no flush, canonical NaN. -/
def atomFloat (x y : Nat) : Nat × Fl :=
  let r := fF32.add { mode := 1, fz := false } (fF32.decode x) (fF32.decode y) 0
  (r.bits, r.flags)
/-- Whether a sub-op is a float add. -/
def atomIsFloat (sub : Nat) : Bool := sub == 1 || sub == 13
/-- The lanes of one location: their returns, the new value and the flags. -/
structure AtomRes where
  rets : List (Nat × Nat)
  new : Nat
  fl : Fl
deriving DecidableEq, Repr, Inhabited
/-- Float lanes are folded in ascending order, applied at once and reconstructed (R220); others act one after another (R242). -/
def atomLanes (sub n old : Nat) (l : List LaneReq) : AtomRes :=
  if atomIsFloat sub then
    match l with
    | [] => { rets := [], new := old, fl := 0 }
    | h :: t =>
      let (acc, rets, fl) := t.foldl (fun (a : Nat × List (Nat × Nat) × Fl) r =>
        let (v, f1) := if sub = 1 then atomFloat old a.1 else (old, 0)
        let (p, f2) := atomFloat a.1 r.data
        (p, a.2.1 ++ [(r.lane, v)], a.2.2 ||| f1 ||| f2)) (h.data, [(h.lane, old)], 0)
      let (new, f) := atomFloat old acc
      { rets := rets, new := new, fl := fl ||| f }
  else
    l.foldl (fun a r => { a with rets := a.rets ++ [(r.lane, a.new)], new := atomInt sub n a.new r.data r.cmp })
      { rets := [], new := old, fl := 0 }

/-! ## Serving lanes -/

/-- The record kind that stands for the scratchpad in an access. -/
def scrKind : Nat := 16
/-- What is known of a lane's address. -/
inductive Place1 where
  | ok | absent | refused
deriving DecidableEq, Repr, Inhabited
def AccKind.isLoad : AccKind → Bool | .load => true | _ => false
def AccKind.isAtom : AccKind → Bool | .atom _ => true | _ => false
/-- Whether an access returns data. -/
def AccKind.returns : AccKind → Bool
  | .load => true | .store => false | .atom op => atomReturns op
/-- Translation, grant and mode of a lane's line (R211, R225, R226). -/
def State.placeOf (s : State) (c : Nat) (acc : Access) (va : Nat) : Place1 :=
  let one (want : Want) : Place1 :=
    match s.xlate c va want with | .ok _ => .ok | .absent => .absent | _ => .refused
  if acc.rkind = scrKind then .ok
  else if acc.rkind = 6 then (if !(s.ctx c).granted va acc.width then .refused else if s.dev.wsLoad then .absent else .ok)
  else match acc.kind with
    | .load => one .r
    | .store => one .w
    | .atom _ => match one .r with | .ok => one .w | x => x
/-- The outcome of serving an access: the lanes performed with what they return, the lanes that wait and those refused. -/
structure Served where
  s : State
  done : List (Nat × Nat)
  pend : List LaneReq
  refused : List LaneReq
  fl : Fl
  poison : Mask
  paddr : Nat
deriving DecidableEq, Repr, Inhabited
/-- Marking a lane that met poison; the lowest gives the address (R434). -/
def Served.poisoned (v : Served) (lane va : Nat) : Served :=
  { v with poison := v.poison ||| maskOf (· == lane), paddr := if v.poison = 0 then va / 64 * 64 else v.paddr }
/-- The first byte of a group's scratchpad allocation in its cluster (R221). -/
def State.scrBase (s : State) (gi : Nat) : Nat := (s.blk (s.blockOf (s.grp gi))).scrOff * 4096
/-- Bytes of a cluster's SRAM and whether their sector is poisoned. -/
def State.scrRead (s : State) (k a w : Nat) : Nat × Bool := (leNat (getBs (s.cl k).sram a w), (s.cl k).spoison.contains (a / 64))
/-- Writing bytes of a cluster's SRAM. -/
def State.scrWrite (s : State) (k a : Nat) (b : List Byte) : State := s.updCl k fun c => { c with sram := setBs c.sram a b }
/-- A 64-byte word of the SRAM all of whose bytes one instruction has written is no longer poisoned (R434). -/
def State.scrClean (s : State) (k a : Nat) : State := s.updCl k fun c => { c with spoison := c.spoison.filter (· != a / 64) }
/-- A load lane. -/
def Served.load (v : Served) (gi : Nat) (acc : Access) (r : LaneReq) : Served :=
  let g := v.s.grp gi
  if acc.rkind = scrKind then
    let (x, p) := v.s.scrRead g.who.cluster (v.s.scrBase gi + r.va) acc.width
    let v := { v with done := v.done ++ [(r.lane, x)] }
    if p then v.poisoned r.lane r.va else v
  else
    let k := if acc.rkind = 6 then wkey r.va else vkey g.who.ctx r.va
    let o := r.va % 64
    let (s, d, p) := v.s.loadSector g.coreIx k (byteMask o acc.width) acc.scope acc.policy (acc.rkind == 6)
    let v := { v with s := s.markLine g.coreIx k (if acc.scope ≤ 2 then acc.policy else 0) false,
                      done := v.done ++ [(r.lane, sectorBytes d o acc.width)] }
    if p then v.poisoned r.lane r.va else v
/-- The bytes that the lanes of one 64-byte word store, later lanes over earlier ones. -/
def mergedStore (w : Nat) (l : List LaneReq) : BitVec 64 × BitVec 512 :=
  l.foldl (fun a r =>
    let m := byteMask (r.va % 64) w
    (a.1 ||| m, blend a.2 (placeBytes (r.va % 64) (r.data % 2 ^ (8 * w))) m)) (0, 0)
/-- The store lanes of one 64-byte sector (R209). -/
def Served.store (v : Served) (gi : Nat) (acc : Access) (l : List LaneReq) : Served :=
  match l with
  | [] => v
  | h :: _ =>
    let g := v.s.grp gi
    let s :=
      if acc.rkind = scrKind then
        l.foldl (fun s r => s.scrWrite g.who.cluster (s.scrBase gi + r.va) (leBytes acc.width r.data)) v.s
      else
        let (m, d) := mergedStore acc.width l
        ((v.s.storeSector g.coreIx (vkey g.who.ctx h.va) m d acc.scope acc.policy).1).markLine g.coreIx (vkey g.who.ctx h.va) acc.policy true
    let s :=
      if acc.rkind = scrKind && (mergedStore acc.width l).1 == allBytes then s.scrClean g.who.cluster (s.scrBase gi + h.va) else s
    { v with s := s, done := v.done ++ l.map fun r => (r.lane, 0) }
/-- An atomic update has reached a home slice: awaited words are read again (R203). -/
def State.homeAtomic (s : State) : State := s.updDev fun d => { d with atomicAt := d.cycle + 1 }
/-- The atomics of one location (R218, R242, R244). -/
def Served.atom (v : Served) (gi sub : Nat) (acc : Access) (l : List LaneReq) : Served :=
  match l with
  | [] => v
  | h :: _ =>
    let g := v.s.grp gi
    let o := h.va % 64
    let (s, old, p) :=
      if acc.rkind = scrKind then
        let (x, p) := v.s.scrRead g.who.cluster (v.s.scrBase gi + h.va) acc.width
        (v.s, x, p)
      else
        let k := vkey g.who.ctx h.va
        let s := v.s.evictForAtomic g.coreIx k
        let (d, p) := s.homeSector k
        (s, sectorBytes d o acc.width, p)
    let r := atomLanes sub (8 * acc.width) old l
    let s :=
      if acc.rkind = scrKind then s.scrWrite g.who.cluster (s.scrBase gi + h.va) (leBytes acc.width r.new)
      else ((s.writeHome (vkey g.who.ctx h.va) (byteMask o acc.width) (placeBytes o r.new) false).1).homeAtomic
    let v := { v with s := s, done := v.done ++ r.rets, fl := v.fl ||| r.fl }
    if p then l.foldl (fun v q => v.poisoned q.lane q.va) v else v
/-- Serving an access of a group (R209): lanes whose lines do not translate wait or are refused. -/
def State.serve (s : State) (gi : Nat) (acc : Access) : Served :=
  let at' (p : Place1) := acc.lanes.filter fun r => s.placeOf (s.grp gi).who.ctx acc r.va == p
  let ok := at' .ok
  let v : Served := { s := s, done := [], pend := at' .absent, refused := at' .refused, fl := 0, poison := 0, paddr := 0 }
  match acc.kind with
  | .load => ok.foldl (fun v r => v.load gi acc r) v
  | .store => (ok.map (·.va / 64)).eraseDups.foldl (fun v q => v.store gi acc (ok.filter (·.va / 64 == q))) v
  | .atom sub => (ok.map (·.va)).eraseDups.foldl (fun v va => v.atom gi sub acc (ok.filter (·.va == va))) v

/-! ## Results and counting -/

/-- The number of 32-bit registers of a width. -/
def regCount (w : Nat) : Nat := max 1 (w / 4)
/-- The v-register words that performed lanes write. -/
def Access.vwrites (a : Access) (done : List (Nat × Nat)) : List (Nat × Nat × Word) :=
  if a.scalar || !a.kind.returns then [] else
    done.flatMap fun x => (List.range (regCount a.width)).map fun k => (a.d + k, x.1, BitVec.ofNat 32 (x.2 / 2 ^ (32 * k)))
/-- The scalars that a performed scalar access writes. -/
def Access.swrites (a : Access) (done : List (Nat × Nat)) : List (Nat × Word) :=
  if !a.scalar || !a.kind.returns then [] else
    done.flatMap fun x => (List.range (regCount a.width)).map fun k => (a.d + k, BitVec.ofNat 32 (x.2 / 2 ^ (32 * k)))
/-- The v-registers of the destination. -/
def Access.dests (a : Access) : List Nat :=
  if a.scalar || !a.kind.returns then [] else (List.range (regCount a.width)).map (a.d + ·)
/-- The counter of an access (R236, R247). -/
def Access.ctr (a : Access) : Ctr := if a.scalar then .smc else if a.kind.returns then .vmc else .vsc
/-- The words of the instruction. -/
def Access.len (a : Access) : Nat := if a.scalar then 2 else 3
/-- The mask that a trap reports: the lanes, or for a scalar access the split's mask (R247). -/
def Access.tmask (a : Access) (s : State) (who : SplitRef) (m : Mask) : Mask := if a.scalar then (s.spl who).mask else m
/-- A counted operation of an access. -/
def State.accessOp (s : State) (kind : PendKind) (acc : Access) (lanes : Mask) (fl : Fl) (done : List (Nat × Nat)) : PendOp :=
  { id := 0, kind := kind, ctr := acc.ctr, holders := [], lanes := lanes, splitMask := (s.spl s.cur).mask, pc := s.pc,
    vwrites := acc.vwrites done, swrites := acc.swrites done, flags := fl, acc := some acc, regs := acc.dests ++ acc.reads, args := [],
    laneArgs := [] }
/-- Writing what performed lanes return at once, to the splits given for a banked scalar. -/
def State.writeDone (s : State) (who : SplitRef) (acc : Access) (done : List (Nat × Nat)) : State :=
  let s := s.updG who.group fun g => (acc.vwrites done).foldl (fun g w => g.writeV w.1 w.2.1 w.2.2) g
  (acc.swrites done).foldl (fun s w => s.writeS who w.1 w.2) s

/-! ## Parking and replay (R152, R154, R385, R386) -/

/-- The lines of lanes. -/
def reqLines (l : List LaneReq) : List Nat := (l.map fun r => lineOf r.va).eraseDups
/-- The fault records of an access: an atomic reads and writes. -/
def State.accessRecs (s : State) (acc : Access) (lines : List Nat) : List FaultRec :=
  s.faultRecs lines (acc.kind.isLoad || acc.kind.isAtom) (!acc.kind.isLoad)
/-- Parking the issuing split: finished lanes form a split of their own where an entry is FREE and the split is not in trap
mode (R154, R159). -/
def State.park (s : State) (acc : Access) (emask : Mask) (pend : List LaneReq) : State :=
  let g := s.grp s.cur.group
  let sp := s.spl s.cur
  let fin := emask &&& ~~~reqMask pend
  let divides := !acc.scalar && decide (fin ≠ 0) && !sp.trap && g.freeEntry.isSome
  let s :=
    if divides then
      s.updG s.cur.group fun g =>
        (g.fork s.cur.split fin (sp.pc + BitVec.ofNat 56 (4 * acc.len))).updS s.cur.split fun sp =>
          { sp with mask := sp.mask &&& ~~~fin }
    else s
  let id := s.nextId
  let acc := { acc with lanes := pend }
  let s := s.countOp (s.accessOp .parked acc (reqMask pend) 0 [])
  let lines := reqLines pend
  let s := s.updS s.cur fun sp =>
    { sp with st := .parked, replay := none, replayNow := false,
              parked := some { acc := acc, op := id, acted := decide (fin ≠ 0), faults := s.accessRecs acc lines, mask := reqMask pend,
                               whole := false, src := none } }
  { s with nextId := s.nextId + lines.length }
/-- An access in the machine's own memory (R238 to R248). Lanes that the weight store serves beside a refused one are written at once, so they
wait for the refresh windows to end (R227). -/
def State.accessHere (s : State) (acc : Access) (emask oob : Mask) : State :=
  let v := s.serve s.cur.group acc
  let fl := v.fl ||| flIf (decide (oob ≠ 0)) flOOB
  let done := v.done ++ (lanesOf oob).map fun l => (l, 0)
  if v.poison ≠ 0 then s.trapAt 0x14 (acc.tmask s s.cur v.poison) v.paddr
  else if acc.rkind = 6 && !v.refused.isEmpty && !s.accessOutside { acc with lanes := acc.lanes.filter fun r => !(v.pend ++ v.refused).contains r } then
    s.hold
  else if acc.rkind = 6 && !v.refused.isEmpty then
    let rest := v.pend ++ v.refused
    let mask := reqMask rest
    let va := lineOf ((v.refused.head?.map fun r => r.va).getD 0)
    let s' := ((v.s.writeDone s.cur acc done).raise fl)
    if acc.scalar then s'.trapAt 0x11 (acc.tmask s s.cur mask) va
    else if done.isEmpty then s'.trapAt 0x11 mask va
    else s'.trapReplay 0x11 mask va
  else if v.pend.isEmpty && v.refused.isEmpty then
    (v.s.countOp (s.accessOp .memory (if acc.rkind = 6 then acc else { acc with lanes := [] }) emask fl done)).advance acc.len
  else
    let rest := acc.lanes.filter fun r => (v.pend ++ v.refused).contains r
    if !s.recordsFree (reqLines rest) then s.hold else ((v.s.writeDone s.cur acc done).raise fl).park acc emask rest

/-- The count ends that a parked instruction kept before it had asked for anything. -/
def State.endEarly (s : State) (who : SplitRef) (p : Parked) : State :=
  match s.findOp who.group p.op with
  | some op => s.updG who.group fun g => g.finish op
  | none => s
/-- The counted operation of a parked split ends: its counter falls and the split is READY past the instruction. -/
def State.unpark (s : State) (who : SplitRef) (p : Parked) (len : Nat) : State :=
  let s := match s.findOp who.group p.op with
    | some op => s.updG who.group fun g => g.finish op
    | none => s
  let s := s.updS who fun sp => { sp.advance len with st := .ready, parked := none, wake := 0 }
  s.undraw (s.grp who.group).who.ctx (· == who)
/-- Resending the parked lanes of a split once its fault records have been answered (R386), outside the refresh windows of what they read
(R227). -/
def State.replayParked (s : State) (who : SplitRef) (p : Parked) : State :=
  let bad (r : LaneReq) : Bool := p.faults.any fun f => f.refused && f.line == lineOf r.va
  let v := s.serve who.group { p.acc with lanes := p.acc.lanes.filter fun r => !bad r }
  let left := p.acc.lanes.filter fun r => bad r || (v.pend ++ v.refused).contains r
  let acted := p.acted || (!v.done.isEmpty && v.poison == 0)
  let trap (code : Nat) (s : State) (mask : Mask) (addr : Nat) (rest : List LaneReq) : State :=
    if (s.grp who.group).trapElsewhere who.split then s else
      let pc := (s.spl who).pc
      let s := s.unpark who p 0
      (s.updS who fun sp => { sp with pc := pc, st := .parked }).takeTrap who
        { s.causeOf code with mask := p.acc.tmask s who mask, addr := BitVec.ofNat 56 addr, pc := pc,
                              replay := if p.acc.scalar || !acted then none else some (reqMask rest) }
  if !s.accessOutside p.acc || (s.grp who.group).trapElsewhere who.split && (p.faults.any (·.refused) || v.poison != 0) then s
  else if v.poison ≠ 0 then trap 0x14 s v.poison v.paddr p.acc.lanes
  else
    let s := (v.s.writeDone who p.acc v.done).orFlags who.group v.fl
    match left.find? bad with
    | some r => trap 0x11 s (reqMask left) (lineOf r.va) left
    | none =>
      if left.isEmpty then s.unpark who p p.acc.len
      else
        let s := s.updS who fun sp =>
          { sp with parked := some { p with acc := { p.acc with lanes := left }, acted := acted,
                                            faults := s.accessRecs p.acc (reqLines left) } }
        { s with nextId := s.nextId + (reqLines left).length }

/-! ## Windows (R219, R420, R421) -/

/-- The device VAs and permissions of an access. -/
def AccKind.want : AccKind → Want | .load => .r | _ => .w
/-- The payload of a Jarian atomic message (R421). -/
def jarianWords (response : Bool) (tag sub width status addr opnd cmp : Nat) : List Byte :=
  leBytes 4 ((if response then 0x81 else 0x01) * 2 ^ 24 + 0x14A41) ++ leBytes 4 tag ++ leBytes 4 (sub * 16 + width) ++
    leBytes 4 status ++ leBytes 8 addr ++ leBytes 8 opnd ++ leBytes 8 cmp ++ []
/-- The pieces in which a window access leaves: a line request each, or for an atomic a location each, combined where R220
combines (R421). -/
def windowPieces (acc : Access) : List (List LaneReq) :=
  match acc.kind with
  | .atom sub =>
    if sub = 0x9 ∨ sub = 0xA then acc.lanes.map fun r => [r]
    else (acc.lanes.map (·.va)).eraseDups.map fun va => acc.lanes.filter (·.va == va)
  | _ => (acc.lanes.map fun r => lineOf r.va).eraseDups.map fun line => acc.lanes.filter fun r => lineOf r.va == line
/-- The operand that a combined location sends, with the flags of its folding. -/
def combined (sub n : Nat) (l : List LaneReq) : Nat × Fl :=
  match l with
  | [] => (0, 0)
  | h :: t => t.foldl (fun a r =>
      if atomIsFloat sub then let (x, f) := atomFloat a.1 r.data; (x, a.2 ||| f) else (atomInt sub n a.1 r.data 0, a.2)) (h.data, 0)
/-- Sending one piece of a window access. -/
def State.sendPiece (s : State) (gi : Nat) (use : WinUse) (acc : Access) (w : Window) (l : List LaneReq) : State :=
  let (id, s) := s.newId
  let at' (r : LaneReq) : Nat := w.remote + (r.va - w.va)
  let first := at' (l.headD default)
  let s := { s with winReqs := s.winReqs ++
    [{ id := id, group := gi, use := use, acc := { acc with lanes := l }, q := w.q, remote := first, sent := s.dev.tick,
       failed := none }] }
  match acc.kind with
  | .load => l.foldl (fun s r => s.send (.rdmaReadOut w.q id (at' r) acc.width)) s
  | .store => l.foldl (fun s r => s.send (.rdmaWriteOut w.q id (at' r) (leBytes acc.width r.data))) s
  | .atom sub =>
    let y := (combined sub (8 * acc.width) l).1
    let c := (l.headD default).cmp
    if acc.rkind = 3 then
      s.send (.jarian w.q (jarianWords false (id % 2 ^ 32) sub (if acc.width = 8 then 3 else 2) 0 first y (if sub = 0xA then c else 0)))
    else s.send (.rdmaAtomicOut w.q id first (sub == 0xA) (BitVec.ofNat 64 y) (BitVec.ofNat 64 c))
/-- An access through records of kind 3 or 4: every line is checked before any lane acts. -/
def State.accessWindow (s : State) (acc : Access) (emask oob : Mask) : State :=
  let c := s.ctx (s.grp s.cur.group).who.ctx
  let out := acc.lanes.filter fun r => (c.window acc.rkind r.va acc.kind.want).isNone
  match out with
  | h :: _ => s.trapAt 0x11 (acc.tmask s s.cur (reqMask out)) (lineOf h.va)
  | [] =>
    let pieces := windowPieces acc
    let op := s.nextId
    let fl := (pieces.map fun l => match acc.kind with | .atom sub => (combined sub (8 * acc.width) l).2 | _ => 0).foldl (· ||| ·)
      (flIf (decide (oob ≠ 0)) flOOB)
    let oobDone := (lanesOf oob).map fun l => (l, 0)
    let kind : PendKind := if pieces.isEmpty then .memory else .window ((List.range pieces.length).map (op + 1 + ·))
    let s := (s.countOp (s.accessOp kind acc emask fl oobDone)).advance acc.len
    pieces.foldl (fun s l =>
      match c.window acc.rkind (l.headD default).va acc.kind.want with
      | some w => s.sendPiece s.cur.group (.lanes op) acc w l
      | none => s) s

/-! ## One memory instruction -/

/-- A memory instruction after its record has been read: kind checks, lane checks, R108, and the access (R27 to R30, R238 to
R248). -/
def State.access (s : State) (r : BufRec) (acc : Access) (off : Int) (emask : Mask) (cs : List Cand) : State :=
  let scr := acc.rkind == scrKind
  let writes := !acc.kind.isLoad
  let limit := if scr then some (s.blk (s.blockOf (s.grp s.cur.group))).scratch else none
  let winBad : Bool := match acc.kind with | .atom sub => r.kind == 4 && !(acc.width == 8 && (sub == 0 || sub == 0xA)) | _ => false
  let acc := if scr then acc else { acc with rkind := r.kind }
  if scr && !(r.kind ≤ 2 || r.kind == 15) then s.trapNow 0x02
  else if writes && r.kind = 6 then s.trapNow 0x1C
  else if writes && r.rdonly then s.trapNow 0x11
  else if winBad then s.trapNow 0x02
  else match checkLanes r acc.width off limit cs with
    | .trap code m => s.trapAt code (acc.tmask s s.cur m) 0
    | .ok reqs oob =>
      if 63 ≤ (s.spl s.cur).ctr acc.ctr then s.hold
      else if r.kind = 3 ∨ r.kind = 4 then s.accessWindow { acc with lanes := reqs } emask oob
      else if r.kind = 5 then
        match s.map5All s.cur.group (if acc.width = 64 then 64 else min acc.width 16) reqs with
        | (s', .error (code, m, va)) => s'.stopAt code (acc.tmask s s.cur m) va (some acc.ctr) acc.reads
        | (s', .ok reqs) => s'.accessHere { acc with lanes := reqs, rkind := 0 } emask oob
      else s.accessHere { acc with lanes := reqs } emask oob

end Sys2Proof.Machine
end

