-- ==== Sys2Proof/Machine/Failure.lean ====
section
/-!
DEFINITION. The failure of a context (R389), what a destruction shares with it (R415), asynchronous causes (R382), and the service
of page faults (R385, R387, R388).
-/

namespace Sys2Proof.Machine

/-! ## Asynchronous causes (R382) -/

/-- A pending asynchronous cause for a group: the fifth, and one for a group that has exited, is only logged. -/
def State.postAsync (s : State) (gi : Nat) (splitMask : Mask) (cause : Nat) (addr : Nat) : State :=
  let g := s.grp gi
  let lane := (lowestLane splitMask).getD 0
  let a : AsyncCause := { cause := cause, addr := BitVec.ofNat 56 addr, lane := lane }
  if !g.live || 4 ≤ g.async.length then s.logGroup gi 2 cause (maskOf (· == lane)) (BitVec.ofNat 56 addr) 0
  else s.updG gi fun g => { g with async := g.async ++ [a] }
/-- The split that a pending cause goes to: the one that holds its lane, or the lowest unexited lane. -/
def Group.asyncTarget (g : Group) (a : AsyncCause) : Option Nat :=
  let lane := if inMask g.exited a.lane then lowestLane g.unexited else some a.lane
  lane.bind fun l => g.splits.findIdx? fun sp => sp.st != .free && inMask sp.mask l
/-- Whether a window access of a split is not yet acknowledged: the split issues nothing more until it is, so that REMOTE_FAULT and
REMOTE_TIMEOUT are precise (R423, log 20). -/
def Group.windowPending (g : Group) (i : Nat) : Bool :=
  g.ops.any fun op => op.holders.contains i && match op.kind with | .window _ => true | _ => false
/-- Whether a split may take an asynchronous cause now. -/
def Group.asyncReady (g : Group) (i : Nat) : Bool :=
  let sp := g.splits.getD i default
  !g.windowPending i && !sp.trap && !g.trapElsewhere i && sp.st != .parked && sp.st != .free

/-! ## The end of a destroyed context (R415) -/

/-- The frames of a context's resident and pinned pages. -/
def Context.frames (c : Context) : List (Nat × Nat) :=
  (c.resident.map fun e => (e.2 - 1, 1)) ++ (c.maps.flatMap (·.pages)).map fun p => (p.2.2 / pageBytes, pageSize p.2.1 / pageBytes)
/-- Everything a destroyed context held leaves the device (R415). -/
def State.unmapAll (s : State) (k : Nat) : State :=
  let s := (s.ctx k).frames.foldl (fun s r => s.freeFrames r) s
  let gone (e : Nat × Sector) : Bool := !(!keyIsWs e.1 && keyCtx e.1 == k)
  let s := { s with
    cores := s.cores.map fun (c : CoreSt) => { c with l1 := c.l1.filter gone, scache := c.scache.filter gone }
    clusters := s.clusters.map fun (c : Cluster) => { c with cache := c.cache.filter gone }
    qps := s.qps.map fun (q : QueuePair) => if q.ctx = some k then { q with ctx := none } else q }
  s.updC k fun c =>
    { c with maps := [], resident := [], backing := [], backPoison := [], windows := [], grants := [], binds := [], log := [], fbuf := [], launches := [],
             runs := [], reserve := 0, drawer := none }

/-! ## Page faults (R385, R387, R388) -/

/-- The pages that a parked instruction needs. -/
def Parked.pages (p : Parked) : List Nat := (p.faults.map fun f => f.line / pageBytes) ++ p.acc.lanes.map fun r => r.va / pageBytes
/-- Replacing the record of a line. -/
def Parked.answer (p : Parked) (line : Nat) (refused : Bool) : Parked :=
  { p with faults := p.faults.map fun f =>
      if f.line = line then (if refused then { f with refused := true } else { f with resolved := true }) else f }
/-- The pages that a parked instruction still lacks. -/
def State.pagesLacking (s : State) (c : Nat) (p : Parked) : Nat := (p.pages.eraseDups.filter (s.ctx c).lacks).length
/-- What the translation of a record's line comes to, for what its request does. -/
def State.recXlate (s : State) (c : Nat) (f : FaultRec) : Xlat :=
  match s.xlate c f.line (if f.read then .r else .w) with
  | .ok p => if f.write then s.xlate c f.line .w else .ok p
  | x => x
/-- Whether Clove-M can answer a record now: not while the weight store loads (R226), nor while another instruction draws on the reserve that
the fault needs (R387). -/
def State.servable (s : State) (who : SplitRef) (p : Parked) (f : FaultRec) : Bool :=
  let c := (s.grp who.group).who.ctx
  if p.acc.rkind = 6 then !((s.ctx c).granted f.line 256) || !s.dev.wsLoad
  else match s.recXlate c f with
    | .absent => s.servesPlain c p.pages || (match (s.ctx c).drawer with | some w => w == who | none => true)
    | _ => true
/-- Clove-M serves a fault record of a parked split: a frame is mapped, or the line is refused; without frames the context fails. -/
def State.serveRecord (s : State) (who : SplitRef) (p : Parked) (f : FaultRec) : State :=
  let c := (s.grp who.group).who.ctx
  let done (s : State) (refused : Bool) : State :=
    s.updS who fun sp => { sp with parked := some (p.answer f.line refused) }
  if !s.servable who p f then s
  else if p.acc.rkind = 6 then done s (!(s.ctx c).granted f.line 256)
  else match s.recXlate c f with
    | .ok _ => done s false
    | .refused | .readOnly => done s true
    | .absent =>
      match s.servePage c (f.line / pageBytes) p.pages (s.pagesLacking c p) with
      | some t => done (if s.servesPlain c p.pages then t else t.updC c fun x => { x with drawer := some who }) false
      | none =>
        let lanes := if p.acc.lanes.isEmpty then p.mask else reqMask p.acc.lanes
        s.failContext who.group 0x15 lanes (BitVec.ofNat 56 f.line) (s.spl who).pc
/-- The first unanswered record of a parked split that can be answered. -/
def State.openRecord (s : State) (who : SplitRef) : Option (Parked × FaultRec) :=
  match (s.spl who).parked with
  | none => none
  | some p => (p.faults.find? fun f => !f.resolved && !f.refused && s.servable who p f).map fun f => (p, f)
/-- The records that can be answered, with their contexts and splits. -/
def State.openRecords (s : State) : List (Nat × Nat × SplitRef) :=
  (List.range s.groups.length).flatMap fun gi =>
    if (s.grp gi).live? then
      (List.range (s.grp gi).splits.length).filterMap fun i =>
        (s.openRecord { group := gi, split := i }).map fun r => ((s.grp gi).who.ctx, r.2.seq, { group := gi, split := i })
    else []
/-- Whether a split's record is served next: contexts in rotation after the one served last, and in a context the order in which records
reached Clove-M (R385). -/
def State.servedNext (s : State) (who : SplitRef) : Bool :=
  let l := s.openRecords
  let turn (c : Nat) : Nat := if s.dev.servedCtx < c then c else c + s.ctxs.length + 1
  match l.find? fun x => x.2.2 == who with
  | none => false
  | some x => l.all fun y => decide (turn x.1 < turn y.1) || (x.1 == y.1 && decide (x.2.1 ≤ y.2.1))

end Sys2Proof.Machine
end

