-- ==== Sys2Proof/Machine/Sync.lean ====
section
/-!
DEFINITION. Fences (R112, R267, R268), sync objects and bindings (R249 to R255), and the waits on a word of the scratchpad or of
memory (R203, R245) with the events that test them again.
-/

namespace Sys2Proof.Machine

/-! ## Shared operations -/

/-- Acting as another split: what an event does for it. -/
def State.as (s : State) (who : SplitRef) (f : State → State) : State := { f { s with cur := who } with cur := s.cur }
/-- The core of the issuing group. -/
def State.curCore (s : State) : Nat := (s.grp s.cur.group).coreIx
/-- Invalidating the clean bytes of the cluster cache only. -/
def State.acquireCluster (s : State) (core c : Nat) : State := s.invCC (core / 4) (s.covers c none)
/-- The acquire of the implicit object at a scope; scope 0 makes none. -/
def State.acquireImp (s : State) (scope : Nat) : State := s.acquireActs s.curCore s.curCtx scope none
/-- A release that met lines no longer writable parks its group at its instruction, which goes on when Clove-M has answered (R255). -/
def State.parkRelease (s : State) (keys : List Nat) : State :=
  s.parkLines ((keys.map fun k => lineOf (keyVa k)).eraseDups) true (s.spl s.cur).mask true none []
/-- The result of an S64 instruction of this family: sd, the enabled flag, the next PC. -/
def State.result64 (s : State) (sd : Nat) (cf : BitVec 3) (x : Word) : State := ((s.writeSel sd x).writeCf cf x.toNat).advance 2

/-! ## FENCE -/

def fenceScope (o : C32) : Nat := c32Bits o 23 21
def fencePaths (o : C32) : Nat := c32Bits o 18 15
/-- A fence of a kind: the release actions, then the acquire actions, on the named paths (R268). -/
def fence (rel acq : Bool) (o : C32) (s : State) : State :=
  let sp := s.spl s.cur
  let vm := nbit (fencePaths o) 0
  let smp := nbit (fencePaths o) 2
  let eng := nbit (fencePaths o) 3
  let scope := fenceScope o
  let core := s.curCore
  let c := s.curCtx
  if !sp.memIdle || (eng && sp.xc != 0) then s.hold
  else
    let (s1, f1) := if rel && vm then s.releaseActs core c scope none else (s, [])
    let (s2, f2) := if rel && eng then s1.releaseActs core c 4 none else (s1, [])
    if !(f1 ++ f2).isEmpty then s2.parkRelease (f1 ++ f2)
    else
      let s3 := if acq && vm then s2.acquireActs core c scope none else s2
      let s4 := if smp then s3.emptySampler core else s3
      let s5 := if smp && acq && decide (4 ≤ scope) then s4.acquireCluster core c else s4
      s5.advance 1
/-- FENCE.full (R267). -/
def execFenceFull (o : C32) (s : State) : Host.Outcome State Fault Refusal := issue (.c32 0x0F o) s (fence true true o)
/-- FENCE.acq (R268). -/
def execFenceAcq (o : C32) (s : State) : Host.Outcome State Fault Refusal := issue (.c32 0x0F o) s (fence false true o)
/-- FENCE.rel (R268). -/
def execFenceRel (o : C32) (s : State) : Host.Outcome State Fault Refusal := issue (.c32 0x0F o) s (fence true false o)

/-! ## SACQ and SREL (R249, R252, R253) -/

/-- A sync object as read at its home slice (R249). -/
structure SyncObj where
  rseq : Word
  scope : Nat
  map : Nat
deriving DecidableEq, Repr, Inhabited
/-- Reading a sync object; the cause and address where it cannot be used. -/
def State.syncObj (s : State) (c va : Nat) : State × Except (Nat × Nat) SyncObj :=
  if va % 16 ≠ 0 then (s, .error (0x13, 0))
  else match s.pathRead c va 16 with
    | .error e => (s, .error e)
    | .ok (b, poison) =>
      let w := wordsOf b
      if poison then (s, .error (0x14, va / 64 * 64))
      else if wfield (wordAt w 1) 31 3 ≠ 0 ∨ wfield (wordAt w 3) 31 24 ≠ 0 ∨ wfield (wordAt w 1) 2 0 = 0 ∨
          wfield (wordAt w 1) 2 0 = 7 then (s, .error (0x02, 0))
      else (s, .ok { rseq := wordAt w 0, scope := wfield (wordAt w 1) 2 0,
                     map := (wordAt w 2).toNat + 2 ^ 32 * wfield (wordAt w 3) 23 0 })
/-- A trap of the whole split with an address, and the same where the cause may be a page fault. -/
def State.trapAddr (s : State) (code va : Nat) : State := s.trapAt code (s.spl s.cur).mask va
def State.stopAddr (s : State) (code va : Nat) : State := s.stopAt code (s.spl s.cur).mask va
def syncImp (o : S64) : Bool := nbit o.aux.toNat 3
/-- Capturing an object's MAP: its entry becomes the newest of eight (R273). -/
def Group.capture (g : Group) (obj map : Nat) : Group :=
  let l := (g.captures.filter fun c => c.obj != obj) ++ [{ obj := obj, map := map }]
  { g with captures := l.drop (l.length - 8) }
/-- SACQ (R252). -/
def execSacq (o : S64) (s : State) : Host.Outcome State Fault Refusal :=
  issue (.s64 0x46 o) s fun s =>
    if !(s.spl s.cur).memIdle then s.hold
    else if syncImp o then (s.acquireImp (o.aux.toNat % 8)).result64 o.sd.toNat o.cf 0
    else
      let obj := s.addrAt o.sa.toNat
      match s.syncObj s.curCtx obj with
      | (s, .error (code, va)) => s.stopAddr code va
      | (s, .ok x) =>
        let s := (s.acquireActs s.curCore s.curCtx x.scope (some obj)).acquireCopy s.curCore s.curCtx obj x.map
        let s := s.updG s.cur.group fun g => g.capture obj x.map
        s.result64 o.sd.toNat o.cf x.rseq
/-- SREL (R253, R255). -/
def execSrel (o : S64) (s : State) : Host.Outcome State Fault Refusal :=
  issue (.s64 0x47 o) s fun s =>
    if !(s.spl s.cur).memIdle then s.hold
    else if syncImp o then
      let (s, failed) := s.releaseActs s.curCore s.curCtx (o.aux.toNat % 8) none
      if failed.isEmpty then s.advance 2 else s.parkRelease failed
    else
      let obj := s.addrAt o.sa.toNat
      match s.syncObj s.curCtx obj with
      | (s, .error (code, va)) => s.stopAddr code va
      | (s, .ok x) =>
        let (s, failed) := s.releaseActs s.curCore s.curCtx x.scope (some obj)
        if !failed.isEmpty then s.parkRelease failed
        else s.onGot (s.writeXl s.curCtx obj (leBytes 4 (x.rseq + 1).toNat)) (lineOf obj) fun _ s =>
          s.homeAtomic.result64 o.sd.toNat o.cf (x.rseq + 1)

/-! ## Bindings (R250, R251) -/

/-- The status of SOBIND: the highest-numbered condition that holds. -/
def Context.bindStatus (c : Context) (obj base len : Nat) : Nat :=
  if obj % 16 ≠ 0 then 4
  else if base % 256 ≠ 0 ∨ len % 256 ≠ 0 ∨ len = 0 ∨ 2 ^ 56 < base + len then 3
  else if c.binds.any fun b => decide (b.base < base + len) && decide (base < b.base + b.len) then 2
  else if 4096 ≤ c.binds.length then 1
  else 0
/-- SOBIND (R251). -/
def execSobind (o : S64) (s : State) : Host.Outcome State Fault Refusal :=
  issue (.s64 0x48 o) s fun s =>
    let obj := s.addrAt o.sa.toNat
    let base := s.addrAt o.sb.toNat
    let len := (s.srcC o).toNat
    let st := (s.ctx s.curCtx).bindStatus obj base len
    let s := if st = 0 then s.updC s.curCtx fun c => { c with binds := c.binds ++ [{ obj := obj, base := base, len := len }] } else s
    s.result64 o.sd.toNat o.cf (BitVec.ofNat 32 st)
/-- SOUNBIND (R251). -/
def execSounbind (o : S64) (s : State) : Host.Outcome State Fault Refusal :=
  issue (.s64 0x49 o) s fun s =>
    let base := s.addrAt o.sa.toNat
    let found := (s.ctx s.curCtx).binds.any fun b => b.base == base
    let s := s.updC s.curCtx fun c => { c with binds := c.binds.filter fun b => b.base != base }
    s.result64 o.sd.toNat o.cf (if found then 0 else 5)

/-! ## WAITA and SWAITG (R203, R245) -/

/-- The signed distance condition of R203 and R245. -/
def reached (v t : Word) : Bool := decide ((v - t).toNat < 2 ^ 31)
/-- A wait on a word completes for the current split: the acquire, sd, cf, the PC past the instruction. -/
def State.waitDone (s : State) (scope sd : Nat) (cf : BitVec 3) (v : Word) : State :=
  let s := (s.acquireImp scope).result64 sd cf v
  s.updS s.cur fun sp => { sp with st := .ready, wake := 0 }
/-- Testing WAITA's word for the current split; a poisoned word traps. -/
def State.testScratch (s : State) (addr : Nat) (t : Word) (eq : Bool) (scope sd : Nat) (cf : BitVec 3) (fail : State → State) : State :=
  let (x, p) := s.scrRead (s.grp s.cur.group).who.cluster (s.scrBase s.cur.group + addr) 4
  let v : Word := BitVec.ofNat 32 x
  if p then s.trapAddr 0x14 (addr / 64 * 64)
  else if (if eq then v == t else reached v t) then s.waitDone scope sd cf v
  else fail s
/-- WAITA (R245). -/
def execWaita (o : S64) (s : State) : Host.Outcome State Fault Refusal :=
  issue (.s64 0x45 o) s fun s =>
    match s.recAt o.sa.toNat with
    | (_, some code) => s.trapNow code
    | (r, none) =>
      let a := r.addr 0 0
      let n := (s.blk (s.blockOf (s.grp s.cur.group))).scratch
      if !(r.kind ≤ 2 || r.kind == 15) then s.trapNow 0x02
      else if !(r.inBounds 0 0 4) || decide (a < 0) || decide ((n : Int) < a + 4) then s.trapNow 0x12
      else if a % 4 ≠ 0 then s.trapNow 0x13
      else
        let t := s.srcB o
        let eq := nbit o.aux.toNat 3
        let scope := o.aux.toNat % 8
        s.testScratch a.toNat t eq scope o.sd.toNat o.cf fun s =>
          s.enterWait (.waita a.toNat t eq scope o.sd.toNat o.cf)
/-- What a read of SWAITG's word gives. -/
inductive Await where
  | value (v : Word)
  | later
  | trap (code va : Nat)
deriving DecidableEq, Repr, Inhabited
/-- Sending the window read of SWAITG. -/
def State.awaitWindow (s : State) (kind va : Nat) : State × Await :=
  match (s.ctx s.curCtx).window kind va .r with
  | none => (s, .trap 0x11 (lineOf va))
  | some w =>
    let busy := s.winReqs.any fun q => q.group == s.cur.group && q.use == .await s.cur.split
    let acc : Access := { kind := .load, rkind := kind, width := 4, d := 0, scalar := true, scope := 0, policy := 0, lanes := [] }
    (if busy then s else s.sendPiece s.cur.group (.await s.cur.split) acc w [{ lane := 0, va := va, data := 0, cmp := 0 }], .later)
/-- A new SWAITG has nothing to do with the window reads of an earlier one (R203). -/
def State.dropAwait (s : State) (who : SplitRef) : State :=
  { s with winReqs := s.winReqs.filter fun q => !(q.group == who.group && q.use == .await who.split) }
/-- Reading SWAITG's word at its home slice, in the weight store, or through a window. -/
def State.awaitRead (s : State) (kind va : Nat) : State × Await :=
  let c := s.ctx s.curCtx
  if kind = 3 ∨ kind = 4 then s.awaitWindow kind va
  else if kind = 6 then
    if !c.granted va 4 then (s, .trap 0x11 (lineOf va))
    else if !s.wsReadable va 4 then (s, .later)
    else if s.dev.wsPoison.contains (va / 64) then (s, .trap 0x14 (va / 64 * 64))
    else (s, .value (BitVec.ofNat 32 (leNat (getBs s.ws va 4))))
  else match s.pathRead s.curCtx va 4 with
    | .error (code, va) => (s, .trap code va)
    | .ok (b, p) => (s, if p then .trap 0x14 (va / 64 * 64) else .value (BitVec.ofNat 32 (leNat b)))
/-- SWAITG's test for the current split; a page fault parks it, and the instruction is issued again. -/
def State.testWord (s : State) (kind va : Nat) (t : Word) (scope sd : Nat) (cf : BitVec 3) (fail : State → State) : State :=
  match s.awaitRead kind va with
  | (s, .trap code a) => s.stopAddr code a
  | (s, .later) => fail s
  | (s, .value v) => if reached v t then s.waitDone scope sd cf v else fail s
/-- SWAITG (R203). -/
def execSwaitg (o : S64) (s : State) : Host.Outcome State Fault Refusal :=
  issue (.s64 0x3F o) s fun s =>
    match s.recAt o.sa.toNat with
    | (_, some code) => s.trapNow code
    | (r, none) =>
      let a := r.addr 0 0
      if !r.inBounds 0 0 4 then s.trapNow 0x12
      else if a % 4 ≠ 0 then s.trapNow 0x13
      else if a < 0 ∨ (2 ^ 56 : Nat) ≤ a then s.trapNow 0x11
      else
        let t := s.srcB o
        let scope := o.aux.toNat % 8
        let go (s : State) (kind va : Nat) : State :=
          (s.dropAwait s.cur).testWord kind va t scope o.sd.toNat o.cf fun s =>
            s.enterWait (.swaitg kind va t (nbit o.aux.toNat 3) scope o.sd.toNat o.cf)
        if r.kind = 5 then
          match s.map5 s.cur.group a.toNat with
          | (s, .ok va) => if va % 4 ≠ 0 then s.trapNow 0x13 else go s 0 va
          | (s, .error (code, va)) => s.stopAddr code va
        else go s r.kind a.toNat

/-- WAITA_POLL (R245): the awaited word is tested again. -/
def execWaitaPoll (who : SplitRef) (s : State) : Host.Outcome State Fault Refusal :=
  .next <| s.as who fun s =>
    match (s.resident who), (s.spl who).wait with
    | .wait, .waita addr t eq scope sd cf => s.testScratch addr t eq scope sd cf id
    | _, _ => s
/-- SWAITG_POLL (R203): the awaited word is read again. -/
def execSwaitgPoll (who : SplitRef) (s : State) : Host.Outcome State Fault Refusal :=
  .next <| s.as who fun s =>
    match (s.resident who), (s.spl who).wait with
    | .wait, .swaitg kind va t _ scope sd cf =>
      s.testWord kind va t scope sd cf fun s => s.updS who fun sp => { sp with pollBy := s.dev.cycle + 4096 }
    | _, _ => s

end Sys2Proof.Machine
end

