-- ==== Sys2Proof/Machine/EngineMem.lean ====
section
/-!
DEFINITION. What the engines share: reads and writes at the home slice, the scratchpad and the weight store (R271, R283, R307),
refused lines and poison (R299, R310, R434), and refresh windows (R227).
-/

namespace Sys2Proof.Machine

/-! ## Weight store (R226, R227) -/

/-- Whether no read of the weight store that an operation made lies in a region's refresh window: its data comes when the window has ended
(R227). -/
def State.outsideWindows (s : State) (op : PendOp) : Bool := op.acc.all s.accessOutside
/-- The first offset of a range outside a context's grant, which is kept in units of 2 MiB. -/
def Context.grantGap (c : Context) (off n : Nat) : Option Nat :=
  let units := (off + n - 1) / 2097152 + 1 - off / 2097152
  ((List.range units).map fun j => max off ((off / 2097152 + j) * 2097152)).find? fun a => !c.granted a 1

/-! ## Reads and writes -/

/-- What an engine access met: the cause and the line or sector. -/
abbrev EngineFault := Nat × Nat
/-- The cause of a line that an engine cannot use: refused, or absent with no frame left to serve it (R388). -/
def State.engineCause (s : State) (c va : Nat) (want : Want) : Nat := if s.xlate c va want = .absent then faultCause else 0x1A
/-- The parts of n bytes in each line: start and length. -/
def linePieces (va n : Nat) : List (Nat × Nat) :=
  if n = 0 then [] else
    (List.range ((va + n - 1) / 256 + 1 - va / 256)).map fun j =>
      let a := max va ((va / 256 + j) * 256)
      (a, min (va + n) ((va / 256 + j + 1) * 256) - a)
/-- The first poisoned sector of a physical range within a line. -/
def State.poisonedAt (s : State) (p n : Nat) : Option Nat :=
  ((List.range 4).map fun k => p / 64 + k).find? fun q => decide (q * 64 < p + n) && s.dev.poison.contains q
/-- An engine's read of memory, line by line, up to a refused or poisoned line (R211, R434). -/
def State.engineRead (s : State) (c va n : Nat) : State × List Byte × Option EngineFault :=
  (linePieces va n).foldl (fun (a : State × List Byte × Option EngineFault) p =>
    match a with
    | (s, l, some f) => (s, l, some f)
    | (s, l, none) =>
      match s.xlateIn c p.1 .r (pageRange va n) with
      | .got ph s =>
        (match s.poisonedAt ph p.2 with
        | some q => (s, l, some (0x14, p.1 - ph + q * 64))
        | none => (s, l ++ getBs s.mem ph p.2, none))
      | _ => (s, l, some (s.engineCause c p.1 .r, lineOf p.1))) (s, [], none)
/-- Writing one line's bytes at the home slice; none when refused. -/
def State.engineLine (s : State) (c va : Nat) (data : List Byte) : Option State := s.writeHomeVA c va data
/-- Writes of an engine at the home slices (R271), one part of a line each, once the pages of all have been found. At a refused line it stops;
how many of the parts before it were written is open (R310, log 9). -/
def State.engineParts (s : State) (c : Nat) (ps : List (Nat × List Byte)) : State × Option EngineFault :=
  let put (s : State) (p : Nat × List Byte) : State := (s.engineLine c p.1 p.2).getD s
  let keep := (ps.map fun p => p.1 / pageBytes).eraseDups
  let found := ps.foldl (fun (a : State × Nat × Bool) p =>
    if a.2.2 then a else match a.1.xlateIn c p.1 .w keep with | .got _ s => (s, a.2.1 + 1, false) | _ => (a.1, a.2.1, true)) (s, 0, false)
  if !found.2.2 then (ps.foldl put found.1, none)
  else
    let (f, s) := found.1.free
    let k := found.2.1
    ((ps.take (f % (k + 1))).foldl put s, some (s.engineCause c (ps.getD k default).1 .w, lineOf (ps.getD k default).1))
/-- Data at an address as parts of lines. -/
def lineParts (va : Nat) (data : List Byte) : List (Nat × List Byte) :=
  (linePieces va data.length).map fun p => (p.1, (data.drop (p.1 - va)).take p.2)
/-- An engine's write of memory. -/
def State.engineWrite (s : State) (c va : Nat) (data : List Byte) : State × Option EngineFault :=
  s.engineParts c (lineParts va data)
/-- Bytes of a cluster's SRAM as an engine reads them, with the first poisoned sector met. -/
def State.sramRead (s : State) (k a n : Nat) : List Byte × Option EngineFault :=
  let x := s.cl k
  let sec := (List.range (n / 64 + 2)).map fun j => a / 64 + j
  (getBs x.sram a n, (sec.find? fun q => decide (q * 64 < a + n) && x.spoison.contains q).map fun q => (0x14, q * 64))
/-- An engine's write of a cluster's SRAM; a whole 64-byte word clears its poison. -/
def State.sramWrite (s : State) (k a : Nat) (b : List Byte) : State :=
  s.updCl k fun c => { c with sram := setBs c.sram a b,
                              spoison := c.spoison.filter fun q => !(decide (a ≤ q * 64) && decide (q * 64 + 64 ≤ a + b.length)) }
/-- Bytes of the weight store as an engine reads them. -/
def State.wsRead (s : State) (off n : Nat) : List Byte × Option EngineFault :=
  let sec := (List.range (n / 64 + 2)).map fun j => off / 64 + j
  (getBs s.ws off n, (sec.find? fun q => decide (q * 64 < off + n) && s.dev.wsPoison.contains q).map fun q => (0x14, q * 64))

/-! ## What the issuing group learns -/

/-- A refused line or poisoned sector ends a command (R299, R310): an entry of KIND 5, and the cause goes to the issuing split. Frames
exhausted fail the context (R388, R389). -/
def State.engineFault (s : State) (gi : Nat) (splitMask : Mask) (pc : Addr56) (f : EngineFault) : State :=
  if f.1 = faultCause then s.failContext gi 0x15 splitMask (BitVec.ofNat 56 f.2) pc else
  let s := s.logGroup gi 5 f.1 splitMask (BitVec.ofNat 56 f.2) pc
  if (s.grp gi).live then s.postAsync gi splitMask f.1 f.2 else s
/-- Flags reach the issuing group unless it has exited (R281). -/
def State.lateFlags (s : State) (gi : Nat) (f : Fl) : State := if (s.grp gi).live then s.orFlags gi f else s
/-- The byte offset of the issuing block's allocation, its size, and whether a range lies within it. -/
def State.scrSize (s : State) : Nat := (s.blk (s.blockOf (s.grp s.cur.group))).scratch
/-- Whether what engines and firmware do in a context's memory waits: a page fault might be served only from the reserve on which an instruction
draws (R387, log 31). -/
def State.mustWait (s : State) (c : Nat) : Bool := (s.ctx c).drawer.isSome
/-- The value of a single scalar operand. -/
def State.one (s : State) (n : Nat) : Word := s.sel n

end Sys2Proof.Machine
end

