-- ==== Sys2Proof/Machine/Texture.lean ====
section
/-!
DEFINITION. Resource heaps and the sampler (R320 to R327): texture entries, texel formats, addressing and filtering, the five
instructions, their completion, and the replay of parked sampler reads.
-/

namespace Sys2Proof.Machine

/-! ## Entries (R320, R321) -/

def texFmt (e : List Word) : Nat := wfield (wordAt e 3) 21 16
def texLevels (e : List Word) : Nat := wfield (wordAt e 3) 15 12
def texLayers (e : List Word) : Nat := wfield (wordAt e 3) 11 0
def texW (e : List Word) (m : Nat) : Nat := max 1 ((wfield (wordAt e 2) 15 0 + 1) / 2 ^ m)
def texH (e : List Word) (m : Nat) : Nat := max 1 ((wfield (wordAt e 2) 31 16 + 1) / 2 ^ m)
/-- The kinds of entry that an instruction meets. -/
inductive EntryKind where
  | null | buffer | texture | invalid
deriving DecidableEq, Repr, Inhabited
def entryKind (e : List Word) : EntryKind :=
  let w7 := wordAt e 7
  let low := wfield w7 27 0 != 0
  let fmt := texFmt e
  match wfield w7 31 28 with
  | 0 => .null
  | 1 => if low || wordAt e 4 != 0 || wordAt e 5 != 0 || wordAt e 6 != 0 || (parseRec (e.take 4)).2 == some 0x02 then .invalid
         else .buffer
  | 2 =>
    if low || wfield (wordAt e 5) 31 10 != 0 || wfield (wordAt e 5) 7 6 != 0 || wordAt e 4 != 0 ||
        wfield (wordAt e 3) 31 22 != 0 || wfield (wordAt e 1) 31 24 != 0 || wfield (wordAt e 0) 7 0 != 0 ||
        !(decide (fmt ≤ 8) || decide (16 ≤ fmt ∧ fmt ≤ 23)) || wfield (wordAt e 5) 9 8 == 3 ||
        decide (Nat.log2 (max (texW e 0) (texH e 0)) < texLevels e) then .invalid
    else .texture
  | _ => .invalid
/-- Block width, height and bytes of a format (R322). -/
def texBlock (fmt : Nat) : Nat × Nat × Nat :=
  match fmt with
  | 0 => (1, 1, 1) | 1 => (1, 1, 2) | 2 => (1, 1, 4) | 3 => (1, 1, 2) | 4 => (1, 1, 4) | 5 => (1, 1, 8)
  | 6 => (1, 1, 4) | 7 => (1, 1, 8) | 8 => (1, 1, 16) | 16 => (4, 4, 8) | 17 => (4, 4, 8) | 18 => (4, 4, 8) | _ => (4, 4, 16)
/-- Row bytes and layer bytes of a level. -/
def texRow (e : List Word) (m : Nat) : Nat :=
  let (bw, _, bb) := texBlock (texFmt e)
  ceilDiv (texW e m) bw * bb
def texLayer (e : List Word) (m : Nat) : Nat :=
  let (_, bh, _) := texBlock (texFmt e)
  ceilDiv (ceilDiv (texH e m) bh * texRow e m) 256 * 256
/-- The address of the block of a texel, and the texel's number in it. -/
def texelAt (e : List Word) (m layer x y : Nat) : Nat × Nat :=
  let (bw, bh, bb) := texBlock (texFmt e)
  let base := (wordAt e 0).toNat + 2 ^ 32 * wfield (wordAt e 1) 23 0
  let below := (List.range m).foldl (fun a k => a + (texLayers e + 1) * texLayer e k) 0
  (base + below + layer * texLayer e m + y / bh * texRow e m + x / bw * bb, y % bh * bw + x % bw)

/-! ## Texels (R322) -/

/-- Round(c / n, F32, RNE) as a pattern. -/
def ratio32 (c : Int) (n : Nat) : Nat := (fF32.roundMag false 1 (decide (c < 0)) (absR (mkRat c n)) 0).bits
def one32 : Nat := 0x3F800000
/-- A BC1 texel: four 8-bit channels. -/
def bc1 (x k : Nat) : List Nat :=
  let c0 := field x 15 0
  let c1 := field x 31 16
  let wide (c : Nat) : List Nat :=
    let r := field c 15 11
    let g := field c 10 5
    let b := field c 4 0
    [r * 8 + r / 4, g * 4 + g / 16, b * 8 + b / 4]
  let mix (f : Nat → Nat → Nat) : List Nat := (List.zipWith f (wide c0) (wide c1)) ++ [255]
  match field x (32 + 2 * k + 1) (32 + 2 * k) with
  | 0 => wide c0 ++ [255]
  | 1 => wide c1 ++ [255]
  | 2 => if c1 < c0 then mix fun a b => (2 * a + b + 1) / 3 else mix fun a b => (a + b + 1) / 2
  | _ => if c1 < c0 then mix fun a b => (a + 2 * b + 1) / 3 else [0, 0, 0, 0]
/-- A BC4 channel: its value in 255ths or 127ths. -/
def bc4 (signed : Bool) (x k : Nat) : Int :=
  let e0 := readInt signed 8 (field x 7 0)
  let e1 := readInt signed 8 (field x 15 8)
  let i := field x (16 + 3 * k + 2) (16 + 3 * k)
  let mix (n : Nat) : Int := floorDiv (((n : Int) - (i - 1 : Nat)) * e0 + ((i - 1 : Nat) : Int) * e1 + (n / 2 : Nat)) n
  if i = 0 then e0 else if i = 1 then e1
  else if e1 < e0 then mix 7
  else if i = 6 then (if signed then -127 else 0)
  else if i = 7 then (if signed then 127 else 255)
  else mix 5
def bc4Comp (signed : Bool) (x k : Nat) : Nat :=
  let c := bc4 signed x k
  if signed then ratio32 (max (-127) c) 127 else ratio32 c 255
/-- The four F32 components of a texel of a block. -/
def texelComps (fmt : Nat) (bytes : List Byte) (k : Nat) : List Nat :=
  let x := leNat bytes
  let fill (l : List Nat) : List Nat := (l ++ List.replicate (3 - l.length) 0) ++ (if l.length < 4 then [one32] else [])
  let unorm (n : Nat) : List Nat := fill ((List.range n).map fun i => ratio32 (field x (8 * i + 7) (8 * i)) 255)
  let half (h : Nat) : Nat := (widen16 fF16 false false h).1
  let f16 (n : Nat) : List Nat := fill ((List.range n).map fun i => half (field x (16 * i + 15) (16 * i)))
  let f32 (n : Nat) : List Nat := fill ((List.range n).map fun i => field x (32 * i + 31) (32 * i))
  let bc6 (signed : Bool) : List Nat :=
    if [0x13, 0x17, 0x1B, 0x1F].contains (x % 32) then [0, 0, 0, one32]
    else (bc6h signed x k).map half ++ [one32]
  match fmt with
  | 0 => unorm 1 | 1 => unorm 2 | 2 => unorm 4
  | 3 => f16 1 | 4 => f16 2 | 5 => f16 4
  | 6 => f32 1 | 7 => f32 2 | 8 => f32 4
  | 16 => (bc1 x k).map fun (c : Nat) => ratio32 (c : Int) 255
  | 17 => fill [bc4Comp false x k]
  | 18 => fill [bc4Comp true x k]
  | 19 => fill [bc4Comp false (x % 2 ^ 64) k, bc4Comp false (x / 2 ^ 64) k]
  | 20 => fill [bc4Comp true (x % 2 ^ 64) k, bc4Comp true (x / 2 ^ 64) k]
  | 21 => bc6 false
  | 22 => bc6 true
  | _ =>
    if x % 256 = 0 then [0, 0, 0, one32]
    else (bc7 x k).map fun (c : Nat) => ratio32 (c : Int) 255
/-- The BORDER colour. -/
def borderComps (e : List Word) : List Nat :=
  match wfield (wordAt e 5) 9 8 with
  | 0 => [0, 0, 0, 0] | 1 => [0, 0, 0, one32] | _ => [one32, one32, one32, one32]

/-! ## Addressing and filtering (R324, R326) -/

/-- A texel index resolved by an address mode; none is the border. -/
def resolveTexel (mode : Nat) (t : Int) (n : Nat) : Option Nat :=
  match mode with
  | 0 => some (t % n).toNat
  | 1 => some (clampI 0 ((n : Int) - 1) t).toNat
  | 2 => let r := (t % (2 * n : Nat)).toNat; some (if n ≤ r then 2 * n - 1 - r else r)
  | _ => if 0 ≤ t ∧ t < n then some t.toNat else none
/-- A tap of a filter: its weight and its block address with the texel's number, or the border. -/
structure Tap where
  weight : Nat
  ref : Option (Nat × Nat)
deriving DecidableEq, Repr, Inhabited
/-- The parameters of a texture request: its opcode, sub-op and imm32. -/
structure TexReq where
  op : Nat
  sub : Nat
  imm : Word
  regs : List Nat := []
deriving DecidableEq, Repr, Inhabited
/-- A coordinate on an axis of n texels, in 256ths of a texel. -/
def texCoord (u : Word) (n : Nat) (off : Int) : Int :=
  let big : Int := pow2I 30
  match fF32.decode u.toNat with
  | .nan _ => clampI (-big) big ((((0 : Rat) * n - mkRat 1 2) * 256).floor + 256 * off)
  | .inf neg => if neg then -big else big
  | v => clampI (-big) big (((v.rat * n - mkRat 1 2) * 256).floor + 256 * off)
/-- The level of detail after its clamp, in exact arithmetic; where MINLOD lies above the other bound, the level is free (log 17). -/
def texLod (e : List Word) (l : Word) (free : Nat) : Rat :=
  let lo : Rat := mkRat (wfield (wordAt e 6) 15 0) 256
  let hi : Rat := minR (mkRat (wfield (wordAt e 6) 31 16) 256) (texLevels e : Nat)
  if hi < lo then mkRat (free % (256 * texLevels e + 1)) 256
  else match fF32.decode l.toNat with
    | .nan _ => maxR lo (minR hi 0)
    | .inf neg => if neg then lo else hi
    | v => maxR lo (minR hi v.rat)
/-- The layer of TSAMPLE and TGATHER4; a NaN gives a free layer (log 17). -/
def texLayerOf (e : List Word) (arr : Bool) (c : Word) (free : Nat) : Nat :=
  if !arr then 0 else
    match fF32.decode c.toNat with
    | .nan _ => free % (texLayers e + 1)
    | .inf neg => if neg then 0 else texLayers e
    | v => (clampI 0 (texLayers e) (if v.rat < 0 then 0 else ((rneR v.rat : Nat) : Int))).toNat
where
  rneR (x : Rat) : Nat :=
    let f := x.floor.toNat
    let fr := x - (f : Rat)
    if mkRat 1 2 < fr ∨ (fr = mkRat 1 2 ∧ f % 2 = 1) then f + 1 else f
/-- The tap at a texel of a level. -/
def tapAt (e : List Word) (m layer : Nat) (weight : Nat) (x y : Int) : Tap :=
  let w5 := wordAt e 5
  match resolveTexel (wfield w5 1 0) x (texW e m), resolveTexel (wfield w5 3 2) y (texH e m) with
  | some x, some y => { weight := weight, ref := some (texelAt e m layer x y) }
  | _, _ => { weight := weight, ref := none }
/-- The taps of one level. -/
def levelTaps (r : TexReq) (e : List Word) (c : List Word) (m layer scale : Nat) : List Tap :=
  let off (hi lo : Nat) : Int := sextN 4 (wfield r.imm hi lo)
  let X := texCoord (wordAt c 0) (texW e m) (off 3 0)
  let Y := texCoord (wordAt c 1) (texH e m) (off 7 4)
  let x0 := floorDiv X 256
  let y0 := floorDiv Y 256
  let fx := (X % 256).toNat
  let fy := (Y % 256).toNat
  let at' (w : Nat) (x y : Int) : Tap := tapAt e m layer w x y
  if r.op = 0x12 then [at' 1 x0 y0, at' 1 (x0 + 1) y0, at' 1 x0 (y0 + 1), at' 1 (x0 + 1) (y0 + 1)]
  else if nbit (wordAt e 5).toNat 4 then
    [at' (scale * ((256 - fx) * (256 - fy))) x0 y0, at' (scale * (fx * (256 - fy))) (x0 + 1) y0,
     at' (scale * ((256 - fx) * fy)) x0 (y0 + 1), at' (scale * (fx * fy)) (x0 + 1) (y0 + 1)]
  else [at' (scale * 65536) (floorDiv (X + 128) 256) (floorDiv (Y + 128) 256)]
/-- The taps of a lane of TSAMPLE or TGATHER4, from its coordinates and two free values. -/
def texTaps (r : TexReq) (e : List Word) (c : List Word) : List Tap :=
  let L := texLod e (wordAt c 3) (wordAt c 4).toNat
  let layer := texLayerOf e (nbit r.sub 2) (wordAt c 2) (wordAt c 5).toNat
  let last := texLevels e
  let taps :=
    if r.op = 0x12 then levelTaps r e c (L + mkRat 1 2).floor.toNat layer 1
    else if nbit (wordAt e 5).toNat 5 then
      let m := L.floor.toNat
      let f := if m = last then 0 else ((L - (m : Rat)) * 256).floor.toNat
      levelTaps r e c m layer (256 - f) ++ levelTaps r e c (m + 1) layer f
    else levelTaps r e c (L + mkRat 1 2).floor.toNat layer 256
  taps.filter fun t => t.weight != 0
/-- The components of a tap from the bytes of its block. -/
def tapComps (e : List Word) (t : Tap) (data : List Byte) : List Nat :=
  match t.ref with
  | some (_, k) => texelComps (texFmt e) data k
  | none => borderComps e
/-- A weighted sum of one component (R324, R350): the canonical NaN for a NaN, or for infinities of opposite sign. -/
def weighted (vs : List (Rat × FVal)) : Nat :=
  let infs := vs.filter fun v => v.2.isInf
  if vs.any (fun v => v.2.isNan) || (infs.any (fun v => v.2.neg) && infs.any fun v => !v.2.neg) then fF32.nan
  else match infs with
    | v :: _ => (fF32.infRes v.2.neg 0 0).bits
    | [] =>
      let x := vs.foldl (fun a v => a + v.1 * v.2.rat) 0
      (fF32.roundMag false 1 (decide (x < 0)) (absR x) 0).bits
/-- The four results of a lane of TSAMPLE or TGATHER4 from the bytes of its taps' blocks. -/
def texResult (r : TexReq) (e : List Word) (taps : List Tap) (data : List (List Byte)) : List Nat :=
  let comps := (taps.zip data).map fun p => (p.1.weight, tapComps e p.1 p.2)
  if r.op = 0x12 then comps.map fun c => c.2.getD (field r.sub 4 3) 0
  else (List.range 4).map fun k => weighted (comps.map fun c => (mkRat c.1 (2 ^ 24), fF32.decode (c.2.getD k 0)))

/-! ## Requests of a lane -/

/-- The record kind that stands for a sampler read in a parked access. -/
def texKind : Nat := 17
/-- What a lane asks for, kept in words so that a replay does not read registers again: a texel fetched whole, a filter, or a
word of a buffer. -/
def laneTexel (e : List Word) (m layer x y : Nat) : List Word :=
  0 :: e ++ [BitVec.ofNat 32 m, BitVec.ofNat 32 layer, BitVec.ofNat 32 x, BitVec.ofNat 32 y]
def laneFilter (e c : List Word) : List Word := 1 :: e ++ c
def laneWord (va kind : Nat) : List Word := [2, BitVec.ofNat 32 va, BitVec.ofNat 32 (va / 2 ^ 32), BitVec.ofNat 32 kind]
/-- The reads of a lane: address and bytes, in the order of its taps; the border reads nothing. -/
def laneReads (r : TexReq) (l : List Word) : List (Option (Nat × Nat)) :=
  let e := (l.drop 1).take 8
  let bb := (texBlock (texFmt e)).2.2
  match (wordAt l 0).toNat with
  | 0 => let n (k : Nat) := (wordAt l k).toNat; [some ((texelAt e (n 9) (n 10) (n 11) (n 12)).1, bb)]
  | 1 => (texTaps r e (l.drop 9)).map fun t => t.ref.map fun p => (p.1, bb)
  | _ => [some (wide64 l 1, 4)]
/-- The four words of a lane from what it has read. -/
def laneResult (r : TexReq) (l : List Word) (data : List (List Byte)) : List Word :=
  let e := (l.drop 1).take 8
  match (wordAt l 0).toNat with
  | 0 =>
    let n (k : Nat) := (wordAt l k).toNat
    (texelComps (texFmt e) (data.getD 0 []) (texelAt e (n 9) (n 10) (n 11) (n 12)).2).map (BitVec.ofNat 32)
  | 1 => (texResult r e (texTaps r e (l.drop 9)) data).map (BitVec.ofNat 32)
  | _ => [BitVec.ofNat 32 (leNat (data.getD 0 [])), 0, 0, 0]
/-- Whether a lane reads the weight store. -/
def laneWs (l : List Word) : Bool := (wordAt l 0).toNat == 2 && (wordAt l 3).toNat == 6

/-- The outcome of sampler reads: finished lanes with their words, requests that wait, refused ones, poison. -/
structure TexServed where
  s : State
  done : List (Nat × List Word)
  pend : List LaneReq
  refused : List LaneReq
  poison : Mask
  paddr : Nat
deriving DecidableEq, Repr, Inhabited
/-- A sector that one lane reads through the sampler cache: a stale copy held when the instruction issued is returned or has been dropped, for
each read apart, a free choice (R213, R229, R440). -/
def State.samplerRead (s : State) (old : Sparse Sector) (core k : Nat) : State × BitVec 512 × Bool :=
  let x := sget noSector old k
  let t := (s.updCore core fun c => { c with scache := sset noSector c.scache k noSector }).samplerSector core k
  if x.valid ≠ allBytes ∨ t.2 = (x.data, x.poison) then s.samplerSector core k
  else
    let (f, s) := s.free
    if f % 2 = 0 then (s, x.data, x.poison) else ({ t.1 with fresh := s.fresh }, t.2)
/-- Reading a lane's blocks through the sampler cache. -/
def State.laneFetch (s : State) (old : Sparse Sector) (gi : Nat) (ws : Bool) (reads : List (Option (Nat × Nat))) :
    State × List (List Byte) × Option Nat :=
  let g := s.grp gi
  reads.foldl (fun (a : State × List (List Byte) × Option Nat) r =>
    match r with
    | none => (a.1, a.2.1 ++ [[]], a.2.2)
    | some (va, n) =>
      let (s, d, p) := a.1.samplerRead old g.coreIx (if ws then wkey va else vkey g.who.ctx va)
      (s, a.2.1 ++ [leBytes n (sectorBytes d (va % 64) n)], if p && a.2.2.isNone then some (va / 64 * 64) else a.2.2))
    (s, [], none)
/-- Serving lanes' sampler reads (R276, R323). -/
def State.texServe (s : State) (gi : Nat) (r : TexReq) (lanes : List (Nat × List Word)) : TexServed :=
  let c := (s.grp gi).who.ctx
  let old := (s.core (s.grp gi).coreIx).scache
  lanes.foldl (fun v x =>
    let reads := laneReads r x.2
    let vas := (reads.filterMap id).map (·.1)
    let req (va : Nat) : LaneReq := { lane := x.1, va := va, data := 0, cmp := 0 }
    let state (va : Nat) : Place1 :=
      if laneWs x.2 then (if (v.s.ctx c).granted va 4 then .ok else .refused)
      else match v.s.xlate c va .r with | .ok _ => .ok | .absent => .absent | _ => .refused
    let bad := vas.filter fun va => state va == .refused
    let wait := vas.filter fun va => state va == .absent
    if bad.isEmpty && wait.isEmpty then
      let (s, data, p) := v.s.laneFetch old gi (laneWs x.2) reads
      match p with
      | some a => { v with s := s, poison := v.poison ||| maskOf (· == x.1), paddr := if v.poison = 0 then a else v.paddr }
      | none => { v with s := s, done := v.done ++ [(x.1, laneResult r x.2 data)] }
    else { v with pend := v.pend ++ wait.map req, refused := v.refused ++ bad.map req })
    { s := s, done := [], pend := [], refused := [], poison := 0, paddr := 0 }
/-- The register words of finished lanes. -/
def texWrites (d : Nat) (done : List (Nat × List Word)) : List (Nat × Nat × Word) :=
  done.flatMap fun x => (List.range 4).map fun k => (d + k, x.1, wordAt x.2 k)
/-- Writing finished lanes at once. -/
def State.writeTex (s : State) (gi d : Nat) (done : List (Nat × List Word)) : State :=
  s.updG gi fun g => (texWrites d done).foldl (fun g w => g.writeV w.1 w.2.1 w.2.2) g
/-- A counted texture operation. -/
def State.texOp (s : State) (kind : PendKind) (r : TexReq) (d : Nat) (lanes : Mask) (done : List (Nat × List Word)) (fl : Fl)
    (asks : List (Nat × List Word)) : PendOp :=
  { id := 0, kind := kind, ctr := .xc, holders := [], lanes := lanes, splitMask := (s.spl s.cur).mask, pc := s.pc,
    vwrites := texWrites d done, swrites := [], flags := fl, acc := none, regs := (List.range 4).map (d + ·) ++ r.regs,
    args := [BitVec.ofNat 32 r.op, BitVec.ofNat 32 r.sub, r.imm, BitVec.ofNat 32 d],
    laneArgs := asks.foldl (fun m x => sput m x.1 x.2) [] }
/-- Parking the lanes whose lines do not translate (R152, R154, R386). -/
def State.parkTexture (s : State) (r : TexReq) (d : Nat) (emask : Mask) (pend : List LaneReq) (asks : List (Nat × List Word)) : State :=
  let g := s.grp s.cur.group
  let sp := s.spl s.cur
  let mask := reqMask pend
  let fin := emask &&& ~~~mask
  let s :=
    if decide (fin ≠ 0) && !sp.trap && g.freeEntry.isSome then
      s.updG s.cur.group fun g =>
        (g.fork s.cur.split fin (sp.pc + 12)).updS s.cur.split fun sp => { sp with mask := sp.mask &&& ~~~fin }
    else s
  let id := s.nextId
  let acc : Access := { kind := .load, rkind := texKind, width := 4, d := d, scalar := false, scope := 0, policy := 0, lanes := pend, reads := r.regs }
  let s := s.countOp (s.texOp .parked r d mask [] 0 (asks.filter fun x => inMask mask x.1))
  let s := s.updS s.cur fun sp =>
    { sp with st := .parked, replay := none, replayNow := false,
              parked := some { acc := acc, op := id, acted := decide (fin ≠ 0), faults := s.faultRecs (reqLines pend) true false,
                               mask := mask, whole := false, src := none } }
  { s with nextId := s.nextId + (reqLines pend).length }
/-- A poisoned sector of a sampler read ends it for the lanes concerned: nothing is returned, an entry of KIND 5 is logged and POISON comes
asynchronously (R434, log 17). -/
def State.texPoison (s : State) (gi : Nat) (splitMask : Mask) (pc : Addr56) (v : TexServed) : State :=
  if v.poison = 0 then s else s.engineFault gi splitMask pc (0x14, v.paddr)
/-- Replaying parked lanes once their records have been answered (R386). -/
def State.replayTexture (s : State) (who : SplitRef) (p : Parked) : State :=
  match s.findOp who.group p.op with
  | none => s
  | some op =>
    let bad (r : LaneReq) : Bool := p.faults.any fun f => f.refused && f.line == lineOf r.va
    let refused := p.acc.lanes.filter bad
    let r : TexReq := { op := (wordAt op.args 0).toNat, sub := (wordAt op.args 1).toNat, imm := wordAt op.args 2 }
    let asks := op.laneArgs.filter fun x => p.acc.lanes.any fun q => q.lane == x.1
    let v := s.texServe who.group r (asks.filter fun x => !refused.any fun q => q.lane == x.1)
    let left := refused ++ v.pend ++ v.refused
    let acted := p.acted || !v.done.isEmpty
    let trap (code : Nat) (s : State) (mask : Mask) (addr : Nat) : State :=
      let pc := (s.spl who).pc
      let s := s.unpark who p 0
      (s.updS who fun sp => { sp with pc := pc, st := .parked }).takeTrap who
        { s.causeOf code with mask := mask, addr := BitVec.ofNat 56 addr, pc := pc,
                              replay := if acted then some (reqMask left) else none }
    if (s.grp who.group).trapElsewhere who.split && !refused.isEmpty then s
    else
      let s := (v.s.writeTex who.group p.acc.d v.done).texPoison who.group op.splitMask op.pc v
      match refused with
      | q :: _ => trap 0x11 s (reqMask left) (lineOf q.va)
      | [] =>
        if left.isEmpty then s.unpark who p 3
        else
          let s := s.updS who fun sp =>
            { sp with parked := some { p with acc := { p.acc with lanes := left }, acted := acted,
                                              faults := s.faultRecs (reqLines left) true false } }
          { s with nextId := s.nextId + (reqLines left).length }

/-! ## Resolution of entries (R323) -/

/-- An entry with its lanes. -/
abbrev TexEntry := List Word × Mask
/-- The entries of the lanes' indices, in the order of each index's lowest lane, or the trap of a refused or poisoned read. -/
def State.texEntries (s : State) (em : Mask) (idx : Nat → Nat) : State × List (Nat × TexEntry) × Option (Nat × Nat) :=
  ((lanesOf em).map idx).eraseDups.foldl (fun (a : State × List (Nat × TexEntry) × Option (Nat × Nat)) i =>
    match a with
    | (s, l, some t) => (s, l, some t)
    | (s, l, none) =>
      match s.heapEntry i with
      | (s, _, some t) => (s, l, some t)
      | (s, e, none) => (s, l ++ [(i, e, maskOf fun n => inMask em n && idx n == i)], none)) (s, [], none)
/-- A lane's word of a v-register. -/
def State.lv (s : State) (r l : Nat) : Word := (s.grp s.cur.group).readV r l
/-- The index of a lane. -/
def State.texIndex (s : State) (o : EEng) (l : Nat) : Nat :=
  ((s.one (eSa o)).toNat + (if eSub o 5 5 = 1 then (s.lv (eImm o 31 24) l).toNat else 0)) % 2 ^ 32
/-- The first entry that an instruction does not accept: the trap's lanes and address. -/
def State.texReject (s : State) (ents : List (Nat × TexEntry)) (buffers : Bool) : Option (Mask × Nat) :=
  (ents.find? fun x => match entryKind x.2.1 with
    | .null => false | .texture => false | .buffer => !buffers | .invalid => true).map fun x => (x.2.2, s.entryAddr x.1)
def texReq (op : Nat) (o : EEng) : TexReq := { op := op, sub := o.sub.toNat, imm := o.imm, regs := engReads op o }
/-- An entry that cannot be read: a fault parks or traps as a load's does; a poisoned one ends the instruction without a result, and POISON comes
asynchronously (R323, R434). -/
def State.texStop (s : State) (op : Nat) (o : EEng) (em : Mask) (code va : Nat) : State :=
  if code = 0x14 then
    let sp := s.spl s.cur
    ((s.countOp { s.texOp .texture (texReq op o) (eD o) em [] 0 [] with regs := engRegs op o }).advance 3).engineFault
      s.cur.group sp.mask sp.pc (0x14, va)
  else s.stopAt code em va (some .xc) (engRegs op o)
/-- Common opening of the texture instructions: entries resolved and checked, then the rest. -/
def State.texOpen (s : State) (op : Nat) (o : EEng) (buffers : Bool) (rest : State → Mask → List (Nat × TexEntry) → State) : State :=
  let em := s.execMask o.pe o.pi.toNat o.pn
  if 63 ≤ (s.spl s.cur).xc then s.hold
  else if em = 0 then s.advance 3
  else match s.texEntries em (s.texIndex o) with
    | (s, _, some (code, va)) => s.texStop op o em code va
    | (s, ents, none) =>
      match s.texReject ents buffers with
      | some (m, a) => s.trapAt 0x02 m a
      | none => rest s em ents
/-- The weight-store reads of an instruction's lanes: their results come outside the refresh windows (R227). -/
def wsLanes (asks : List (Nat × List Word)) : Option Access :=
  match asks.filter fun x => laneWs x.2 with
  | [] => none
  | l => some { kind := .load, rkind := 6, width := 4, d := 0, scalar := false, scope := 0, policy := 0,
                lanes := l.map fun x => { lane := x.1, va := wide64 x.2 1, data := 0, cmp := 0 } }
/-- Issuing the requests of lanes: finished ones complete later, the others park (R248). Finished ones that are written at once wait for the
refresh windows to end (R227). -/
def State.texIssue (s : State) (r : TexReq) (d : Nat) (em : Mask) (asks : List (Nat × List Word)) (done : List (Nat × List Word))
    (fl : Fl) : State :=
  let v := s.texServe s.cur.group r asks
  let all := done ++ v.done
  let wsBad := v.refused.any fun q => asks.any fun x => x.1 == q.lane && laneWs x.2
  let rest := v.pend ++ v.refused
  let poison (t : State) : State := t.texPoison s.cur.group (s.spl s.cur).mask (s.spl s.cur).pc v
  if asks.any (fun x => laneWs x.2) && s.dev.wsLoad then s.hold
  else if !rest.isEmpty && !(wsLanes asks).all s.accessOutside then s.hold
  else if wsBad then
    let s' := poison ((v.s.writeTex s.cur.group d all).raise fl)
    let a := lineOf ((v.refused.head?.map fun q => q.va).getD 0)
    if all.isEmpty then s'.trapAt 0x11 (reqMask rest) a else s'.trapReplay 0x11 (reqMask rest) a
  else if rest.isEmpty then poison ((v.s.countOp { s.texOp .texture r d em all fl [] with acc := wsLanes asks }).advance 3)
  else if !s.recordsFree (reqLines rest) then s.hold
  else poison (((v.s.writeTex s.cur.group d all).raise fl).parkTexture r d em (sortBy (fun a b => decide (a.lane ≤ b.lane)) rest) asks)

/-! ## The instructions (R325, R326) -/

/-- The entry of a lane. -/
def entryOf (ents : List (Nat × TexEntry)) (l : Nat) : List Word := ((ents.find? fun x => inMask x.2.2 l).map fun x => x.2.1).getD []
/-- The lanes on null entries: OOB if there is one. -/
def nullLanes (ents : List (Nat × TexEntry)) : List Nat :=
  ents.flatMap fun x => if entryKind x.2.1 = .null then lanesOf x.2.2 else []
def zeroWords : List Word := [0, 0, 0, 0]
/-- The third coordinate where ARR is set, and the level by LODM, as words. -/
def State.texLevelWord (s : State) (o : EEng) (l : Nat) : Word :=
  match eSub o 1 0 with | 1 => s.lv (eVa o + 3) l | 2 => s.one (eSb o) | _ => 0
def State.texCoords (s : State) (o : EEng) (l : Nat) : List Word :=
  [s.lv (eVa o) l, s.lv (eVa o + 1) l, if eSub o 2 2 = 1 then s.lv (eVa o + 2) l else 0, s.texLevelWord o l]
/-- TSAMPLE and TGATHER4. -/
def texFiltered (op : Nat) (o : EEng) (s : State) : State :=
  s.texOpen op o false fun s em ents =>
    let nulls := nullLanes ents
    let n := s.fresh
    let s := { s with fresh := n + 64 }
    let free (k : Nat) : Word := BitVec.ofNat 32 (Config.freeNat (n + k))
    let asks := ((lanesOf em).filter fun l => !nulls.contains l).map fun l =>
      (l, laneFilter (entryOf ents l) (s.texCoords o l ++ [free (2 * l), free (2 * l + 1)]))
    s.texIssue (texReq op o) (eD o) em asks (nulls.map fun l => (l, zeroWords)) (flIf (!nulls.isEmpty) flOOB)
/-- TSAMPLE (R326). -/
def execTsample (o : EEng) (s : State) : Host.Outcome State Fault Refusal := issue (.eng 0x10 o) s (texFiltered 0x10 o)
/-- TGATHER4 (R326). -/
def execTgather4 (o : EEng) (s : State) : Host.Outcome State Fault Refusal := issue (.eng 0x12 o) s (texFiltered 0x12 o)

/-- A lane of TFETCH on a texture entry: its request, none where a coordinate is out of range. -/
def fetchTexel (r : TexReq) (e c : List Word) : Option (List Word) :=
  let x := (wordAt c 0).toInt + sextN 4 (wfield r.imm 3 0)
  let y := (wordAt c 1).toInt + sextN 4 (wfield r.imm 7 4)
  let layer := (wordAt c 2).toInt
  let m := (wordAt c 3).toInt
  if m < 0 ∨ texLevels e < m ∨ layer < 0 ∨ texLayers e < layer ∨ x < 0 ∨ texW e m.toNat ≤ x ∨ y < 0 ∨ texH e m.toNat ≤ y then none
  else some (laneTexel e m.toNat layer.toNat x.toNat y.toNat)
/-- A lane of TFETCH on a buffer entry: its record and x. -/
structure FetchWord where
  lane : Nat
  r : BufRec
  x : Nat
deriving DecidableEq, Repr, Inhabited
/-- InBounds and Addr with i = 4x for linear arithmetic, exact, and i = x otherwise (R326). -/
def FetchWord.inside (f : FetchWord) : Bool :=
  if f.r.linear then f.r.kind != 15 && decide (4 * f.x + 4 ≤ f.r.extent) else f.r.inBounds f.x 0 4
def FetchWord.addr (f : FetchWord) : Int := if f.r.linear then (f.r.base + 4 * f.x : Nat) else f.r.addr f.x 0
/-- The checks of R30 over the buffer lanes of one instruction. -/
def fetchChecks (l : List FetchWord) : Option (Nat × Mask) :=
  let mask (p : FetchWord → Bool) : Mask := maskOf fun n => l.any fun f => f.lane == n && p f
  let oob := mask fun f => !f.inside && f.r.oobtrap
  let mis := mask fun f => f.inside && decide (f.addr % 4 ≠ 0)
  let far := mask fun f => f.inside && (decide (f.addr < 0) || decide ((2 ^ 56 : Nat) ≤ f.addr))
  if oob ≠ 0 then some (0x12, oob) else if mis ≠ 0 then some (0x13, mis) else if far ≠ 0 then some (0x11, far) else none
/-- Kind-5 lanes are mapped (R273): the requests, or the trap of a lane. -/
def State.fetchMap (s : State) (l : List FetchWord) : State × Except (Nat × Mask × Nat) (List (Nat × List Word)) :=
  let out (f : FetchWord) : Bool := f.r.kind == 5 && ((s.ctx s.curCtx).bound f.addr.toNat).isNone
  match l.filter out with
  | h :: t => (s, .error (0x11, maskOf fun n => (h :: t).any (·.lane == n), h.addr.toNat))
  | [] =>
    l.foldl (fun a f =>
      match a with
      | (s, .error e) => (s, .error e)
      | (s, .ok r) =>
        if f.r.kind ≠ 5 then (s, .ok (r ++ [(f.lane, laneWord f.addr.toNat f.r.kind)]))
        else match s.map5 s.cur.group f.addr.toNat with
          | (s, .error (code, va)) => (s, .error (code, maskOf (· == f.lane), va))
          | (s, .ok va) =>
            if va % 4 ≠ 0 then (s, .error (0x13, maskOf (· == f.lane), 0)) else (s, .ok (r ++ [(f.lane, laneWord va 0)])))
      (s, .ok [])
/-- The window access of lanes of one kind (R219, R420), counted on XC with the rest of the instruction. A line of another lane that is refused
stops it before any lane has completed (R248). -/
def State.fetchWindow (s : State) (r : TexReq) (d : Nat) (em : Mask) (far : List (Nat × List Word)) (asks : List (Nat × List Word))
    (done : List (Nat × List Word)) (fl : Fl) : State :=
  let c := s.ctx s.curCtx
  let vaOf (x : Nat × List Word) : Nat := wide64 x.2 1
  let win (x : Nat × List Word) : Option Window := c.window (wordAt x.2 3).toNat (vaOf x) .r
  match far.filter fun x => (win x).isNone with
  | h :: t => s.trapAt 0x11 (maskOf fun n => (h :: t).any (·.1 == n)) (lineOf (vaOf h))
  | [] =>
    -- one operation counts the instruction: the lines of the other lanes are served before any lane acts
    let v := s.texServe s.cur.group r asks
    if asks.any (fun x => laneWs x.2) && s.dev.wsLoad then s.hold
    else match v.refused, v.pend with
      | q :: _, _ => s.trapAt 0x11 em (lineOf q.va)
      | [], q :: t => s.parkLines (reqLines (q :: t)) false em false (some .xc) (d :: r.regs)
      | [], [] =>
        let id := s.nextId
        let zeros := far.map fun x => (x.1, zeroWords)
        let ids := (List.range far.length).map (id + 1 + ·)
        let sp := s.spl s.cur
        let s := (v.s.countOp { s.texOp (.window ids) r d em (done ++ v.done ++ zeros) fl [] with acc := wsLanes asks }).advance 3
        let s := s.texPoison s.cur.group sp.mask sp.pc v
        far.foldl (fun s x =>
          match win x with
          | none => s
          | some w =>
            let acc : Access := { kind := .load, rkind := (wordAt x.2 3).toNat, width := 4, d := d, scalar := false, scope := 0, policy := 0, lanes := [] }
            s.sendPiece s.cur.group (.lanes id) acc w [{ lane := x.1, va := vaOf x, data := 0, cmp := 0 }]) s
/-- TFETCH (R326). -/
def execTfetch (o : EEng) (s : State) : Host.Outcome State Fault Refusal :=
  issue (.eng 0x11 o) s fun s =>
    s.texOpen 0x11 o true fun s em ents =>
      let r := texReq 0x11 o
      let kindOf (l : Nat) : EntryKind := entryKind (entryOf ents l)
      let nulls := nullLanes ents
      let tex := ((lanesOf em).filter fun l => kindOf l == .texture).map fun l => (l, fetchTexel r (entryOf ents l) (s.texCoords o l))
      let words : List FetchWord := ((lanesOf em).filter fun l => kindOf l == .buffer).map fun l =>
        let rc := (parseRec ((entryOf ents l).take 4)).1
        { lane := l, r := rc, x := (s.lv (eVa o) l).toNat }
      let misplaced := maskOf fun l => inMask em l && kindOf l == .buffer && (parseRec ((entryOf ents l).take 4)).2 == some 0x13
      if misplaced ≠ 0 then s.trapAt 0x13 misplaced 0
      else match fetchChecks words with
        | some (code, m) => s.trapAt code m 0
        | none =>
          match s.fetchMap (words.filter (·.inside)) with
          | (s, .error (code, m, va)) => s.stopAt code (if code = faultCause then em else m) va (some .xc) (engRegs 0x11 o)
          | (s, .ok asks) =>
            let zero := nulls ++ (tex.filterMap fun x => if x.2.isNone then some x.1 else none) ++
              (words.filter fun f => !f.inside).map (·.lane)
            let done := zero.map fun l => (l, zeroWords)
            let fl := flIf (!zero.isEmpty) flOOB
            let isFar (x : Nat × List Word) : Bool := (wordAt x.2 3) == 3 || (wordAt x.2 3) == 4
            let asked := tex.filterMap fun x => x.2.map fun a => (x.1, a)
            let far := asks.filter isFar
            if far.isEmpty then s.texIssue r (eD o) em (asked ++ asks) done fl
            else s.fetchWindow r (eD o) em far (asked ++ asks.filter fun x => !isFar x) done fl
/-- The four words of TQUERY (R326). -/
def queryWords (e : List Word) (m : Int) : List Word :=
  match entryKind e with
  | .texture =>
    if m < 0 ∨ texLevels e < m then zeroWords
    else [BitVec.ofNat 32 (texW e m.toNat), BitVec.ofNat 32 (texH e m.toNat), BitVec.ofNat 32 (texLayers e + 1),
          BitVec.ofNat 32 (texLevels e + 1)]
  | .buffer => [wordAt e 2, 0, 0, 0]
  | _ => zeroWords
/-- TQUERY (R326). -/
def execTquery (o : EEng) (s : State) : Host.Outcome State Fault Refusal :=
  issue (.eng 0x13 o) s fun s =>
    s.texOpen 0x13 o true fun s em ents =>
      let done := (lanesOf em).map fun l => (l, queryWords (entryOf ents l) (s.one (eSb o)).toInt)
      s.texIssue (texReq 0x13 o) (eD o) em [] done (flIf (!(nullLanes ents).isEmpty) flOOB)
/-- TREC (R326): the entry's words, once for the split, without any check of it. -/
def execTrec (o : EEng) (s : State) : Host.Outcome State Fault Refusal :=
  issue (.eng 0x14 o) s fun s =>
    let mask := (s.spl s.cur).mask
    if 63 ≤ (s.spl s.cur).xc then s.hold
    else match s.heapEntry (s.one (eSa o)).toNat with
      | (s, _, some (code, va)) => s.texStop 0x14 o mask code va
      | (s, e, none) =>
        let null := wfield (wordAt e 7) 31 28 == 0
        let words := if null then List.replicate 8 0 else e
        let op := s.texOp .texture (texReq 0x14 o) 0 mask [] (flIf null flOOB) []
        (s.countOp { op with regs := [], swrites := (List.range 8).map fun k => (eSb o + k, wordAt words k) }).advance 3
/-- The completion of a texture operation: destinations and flags are written and XC falls. -/
def execTextureCompletion (group op : Nat) (s : State) : Host.Outcome State Fault Refusal :=
  .next <|
    match s.findOp group op with
    | some p => if p.kind == .texture && s.outsideWindows p then s.updG group fun g => g.finish p else s
    | none => s

end Sys2Proof.Machine
end

