-- ==== Sys2Proof/Machine/Views.lean ====
section
/-!
DEFINITION. View sets, gaze, the warped sample grid and the raster walker (R328 to R347).
-/

namespace Sys2Proof.Machine

/-! ## Breakpoints and the sample grid (R334, R335) -/

/-- The breakpoints of one axis: gaze in sixteenths, fovea, size. -/
def breakPair (g fov size : Nat) : Nat × Nat :=
  let lo := 8 * floorDiv ((g : Int) - 16 * fov) 128
  let hi := -(8 * floorDiv (-((g : Int) + 16 * fov)) 128)
  ((clampI 0 size lo).toNat, (clampI 0 size hi).toNat)
/-- The grid latched for a gaze. -/
def View.latch (v : View) (w h sh : Nat) (g : Nat × Nat) (stale : Bool) : Warp :=
  let x := breakPair g.1 v.fovx w
  let y := breakPair g.2 v.fovy h
  { bx1 := x.1, bx2 := x.2, by1 := y.1, by2 := y.2, codes := v.codes, w := w, h := h, sh := sh, stale := stale }
/-- The density code of x segment k, and of y segment k. -/
def Warp.dx (a : Warp) (k : Nat) : Nat := field a.codes (2 * k + 1) (2 * k)
def Warp.dy (a : Warp) (k : Nat) : Nat := field a.codes (2 * k + 9) (2 * k + 8)
def Warp.n0 (a : Warp) : Nat := a.bx1 / 2 ^ a.dx 0
def Warp.n1 (a : Warp) : Nat := (a.bx2 - a.bx1) / 2 ^ a.dx 1
def Warp.n2 (a : Warp) : Nat := (a.w - a.bx2) / 2 ^ a.dx 2
def Warp.nx (a : Warp) : Nat := a.n0 + a.n1 + a.n2
/-- ColX(j), and the code of its segment. -/
def Warp.colX (a : Warp) (j : Nat) : Nat × Nat :=
  if j < a.n0 then (128 * 2 ^ a.dx 0 * (2 * j + 1), a.dx 0)
  else if j < a.n0 + a.n1 then (256 * a.bx1 + 128 * 2 ^ a.dx 1 * (2 * (j - a.n0) + 1), a.dx 1)
  else (256 * a.bx2 + 128 * 2 ^ a.dx 2 * (2 * (j - a.n0 - a.n1) + 1), a.dx 2)
def Warp.cols (a : Warp) : List (Nat × Nat) := (List.range a.nx).map a.colX
/-- The rows of a strip, band by band: RowY and the band's code. -/
def Warp.rows (a : Warp) (strip : Nat) : List (Nat × Nat) :=
  (List.range (a.sh / 8)).flatMap fun b =>
    let y := strip * a.sh + 8 * b
    let c := if y < a.by1 then a.dy 0 else if y < a.by2 then a.dy 1 else a.dy 2
    (List.range (8 / 2 ^ c)).map fun k => (256 * y + 128 * 2 ^ c * (2 * k + 1), c)

/-! ## The set of a group (R328) -/

def ViewSet.nviews (v : ViewSet) : Nat := v.views.length
def ViewSet.nstrip (v : ViewSet) : Nat := v.strips.length
def ViewSet.view (v : ViewSet) (k : Nat) : View := v.views.getD k default
def ViewSet.strip (v : ViewSet) (k : Nat) : Strip := v.strips.getD k default
def ViewSet.updStrip (v : ViewSet) (k : Nat) (f : Strip → Strip) : ViewSet := { v with strips := upd v.strips k f }
/-- The grid latched for a strip and view. -/
def ViewSet.warp (v : ViewSet) (strip view : Nat) : Warp := ((v.strip strip).views.getD view default).warp
/-- A graphics instruction with its group's set, or the trap of R328. -/
def State.withSet (s : State) (f : Nat → ViewSet → State) : State :=
  let k := (s.grp s.cur.group).regs.viewset
  if (s.set k).ctx = some s.curCtx then f k (s.set k) else s.trapAt 0x11 (s.spl s.cur).mask k
/-- The view and strip of a view and strip scalar, none if a bit or a number is out of range. -/
def ViewSet.viewStrip (v : ViewSet) (x : Word) : Option (Nat × Nat) :=
  let view := wfield x 3 0
  let strip := wfield x 19 8
  if wfield x 7 4 ≠ 0 ∨ wfield x 31 20 ≠ 0 ∨ v.nviews ≤ view ∨ v.nstrip ≤ strip then none else some (view, strip)

/-! ## Gaze packets (R332, R333) -/

/-- Whether a set accepts a gaze packet. -/
def ViewSet.accepts (v : ViewSet) (payload : List Byte) : Bool :=
  let w := wordsOf payload
  let nv := wfield (wordAt w 0) 31 24
  let d := (wordAt w 1 - v.seq.getD 0).toNat
  payload.length == 8 + 4 * nv && wfield (wordAt w 0) 15 0 == 0x475A && wfield (wordAt w 0) 23 16 == 1 &&
    decide (1 ≤ nv ∧ nv ≤ v.nviews) && (v.seq.isNone || decide (1 ≤ d ∧ d < 2 ^ 31))
/-- A set judging a packet at its port. -/
def ViewSet.packet (v : ViewSet) (tick : Nat) (payload : List Byte) : ViewSet :=
  if !v.accepts payload then { v with drops := v.drops + 1 }
  else
    let w := wordsOf payload
    let nv := wfield (wordAt w 0) 31 24
    { v with
      seq := some (wordAt w 1).toNat
      arrival := tick
      views := (List.range v.views.length).map fun k =>
        let x := v.view k
        if k < nv then { x with gaze := some (wfield (wordAt w (2 + k)) 15 0, wfield (wordAt w (2 + k)) 31 16) } else x }
/-- GAZE_PACKET (R333): every loaded set that names the port judges the datagram. -/
def execGazePacket (port : BitVec 16) (payload : List Byte) (s : State) : Host.Outcome State Fault Refusal :=
  .next { s with sets := s.sets.map fun v =>
    if v.ctx.isSome && v.gzport == port.toNat then v.packet s.dev.tick payload else v }

/-! ## GZLATCH (R336, R351) -/

def gazeAge (v : ViewSet) (tick : Nat) : Nat := if v.seq.isNone then 0xFFFF else min 0xFFFF ((tick - v.arrival) / 100)
def gazeStale (v : ViewSet) (tick : Nat) : Bool :=
  v.seq.isNone || (v.gzage != 0 && decide (100 * v.gzage < tick - v.arrival))
/-- A strip latched at a tick with a deadline. -/
def ViewSet.latchStrip (v : ViewSet) (k tick dl : Nat) : ViewSet :=
  let stale := gazeStale v tick
  v.updStrip k fun t =>
    { t with st := .latched, latch := tick, dl := dl, stale := stale, gzseq := if stale then 0 else v.seq.getD 0,
             views := (List.range v.nviews).map fun i =>
               let x := v.view i
               let g := if stale then (x.dgx, x.dgy) else x.gaze.getD (x.dgx, x.dgy)
               { t.views.getD i default with warp := x.latch v.w v.h v.sh g stale } }
/-- The deadline of a group's launch. -/
def Group.deadline (g : Group) : Nat := let d := wfield g.lch.stripdl 19 0; if d = 0 then 2 ^ 20 - 1 else d
/-- GZLATCH (R336). -/
def execGzlatch (o : EEng) (s : State) : Host.Outcome State Fault Refusal :=
  issue (.eng 0x40 o) s fun s =>
    s.withSet fun k v =>
      let strip := (s.one (eSa o)).toNat
      let tick := s.dev.tick
      if v.nstrip ≤ strip then s.trapNow 0x02
      else if (v.strip strip).st ≠ .idle then (s.writeS s.cur (eSb o) 1).advance 3
      else
        let word := BitVec.ofNat 32 (gazeAge v tick * 65536 + (gazeStale v tick).toNat * 4)
        ((s.updSet k fun v => v.latchStrip strip tick (s.grp s.cur.group).deadline).writeS s.cur (eSb o) word).advance 3

/-! ## VWARP (R337 to R339) -/

/-- Writing four words to a quad of a lane. -/
def Group.writeQuad (g : Group) (d l : Nat) (w : List Word) : Group :=
  (List.range 4).foldl (fun g k => g.writeV (d + k) l (wordAt w k)) g
/-- Writing quads of lanes. -/
def State.writeQuads (s : State) (d : Nat) (l : List (Nat × List Word)) : State :=
  s.updG s.cur.group fun g => l.foldl (fun g x => g.writeQuad d x.1 x.2) g
/-- The nearest integer, ties to even, of a signed rational. -/
def rneInt (x : Rat) : Int :=
  let f := x.floor
  let fr := x - (f : Rat)
  if mkRat 1 2 < fr ∨ (fr = mkRat 1 2 ∧ f % 2 = 1) then f + 1 else f
/-- The result of VWARP.proj for a vertex (R338). -/
def projectVertex (m p : List Word) : List Word :=
  let e : REnv := { mode := 1, fz := false }
  let v (w : Word) : FVal := fF32.decode w.toNat
  let q (r : Nat) : FVal :=
    let ps := (List.range 4).map fun c => (v (wordAt m (4 * r + c)), v (wordAt p c))
    fF32.decode (fF32.sum e (ps.flatMap fun x => [x.1, x.2]) (ps.map fun x => fmulExact x.1 x.2) 0).bits
  let qs := (List.range 4).map q
  let bad (x : FVal) : Bool := x.isNan || x.isInf
  if qs.any bad || decide ((q 3).rat ≤ 0) then [0x80000000, 0x80000000, 0x7FC00000, 0x7FC00000]
  else
    let at' (r : Nat) : Int := rneInt (256 * (q r).rat / (q 3).rat)
    let far := decide (2 ^ 27 ≤ (at' 0).natAbs) || decide (2 ^ 27 ≤ (at' 1).natAbs)
    let ratio (a : FVal) : Word := BitVec.ofNat 32 (fF32.div e a (q 3) 0).bits
    [if far then 0x80000000 else w32 (at' 0), if far then 0x80000000 else w32 (at' 1), ratio (q 2), ratio (.fin false 1)]
/-- Opening of a VWARP: the view in range. -/
def State.vwarp (s : State) (o : EEng) (strips : Bool) (f : ViewSet → Nat → Nat → Mask → State) : State :=
  let em := s.execMask o.pe o.pi.toNat o.pn
  if em = 0 then s.advance 3
  else s.withSet fun _ v =>
    let view := (s.one (eSa o)).toNat
    let strip := if strips then (s.one (eSb o)).toNat else 0
    if v.nviews ≤ view || (strips && decide (v.nstrip ≤ strip)) then s.trapNow 0x02 else f v view strip em
/-- VWARP.proj (R338). -/
def execVwarpProj (o : EEng) (s : State) : Host.Outcome State Fault Refusal :=
  issue (.eng 0x41 o) s fun s =>
    s.vwarp o false fun v view _ em =>
      (s.writeQuads (eD o) ((lanesOf em).map fun l =>
        (l, projectVertex (v.view view).m ((List.range 4).map fun k => s.lv (eVa o + k) l)))).advance 3
/-- The result of VWARP.pos for a cell, none outside the grid (R339). -/
def Warp.pos (a : Warp) (rows : List (Nat × Nat)) (x : Word) : Option (List Word) :=
  let gx := wfield x 12 0
  match rows[wfield x 28 16]? with
  | some (y, c) =>
    if gx < a.nx then
      some [BitVec.ofNat 32 (a.colX gx).1, BitVec.ofNat 32 y, BitVec.ofNat 32 (2 ^ (a.colX gx).2), BitVec.ofNat 32 (2 ^ c)]
    else none
  | none => none
/-- VWARP.pos (R339). -/
def execVwarpPos (o : EEng) (s : State) : Host.Outcome State Fault Refusal :=
  issue (.eng 0x41 o) s fun s =>
    s.vwarp o true fun v view strip em =>
      let a := v.warp strip view
      let rows := a.rows strip
      let rs := (lanesOf em).map fun l => (l, a.pos rows (s.lv (eVa o) l))
      let s := s.writeQuads (eD o) (rs.map fun x => (x.1, x.2.getD [0x80000000, 0x80000000, 0, 0]))
      (s.raise (flIf (rs.any fun x => x.2.isNone) flOOB)).advance 3
/-- The result of VWARP.geom. -/
def Warp.geom (a : Warp) (ny : Nat) : List Word :=
  [BitVec.ofNat 32 (a.nx + 65536 * ny), BitVec.ofNat 32 (a.bx1 + 65536 * a.bx2), BitVec.ofNat 32 (a.by1 + 65536 * a.by2),
   BitVec.ofNat 32 (a.codes % 2 ^ 14 + 65536 * a.stale.toNat)]
/-- VWARP.geom (R339). -/
def execVwarpGeom (o : EEng) (s : State) : Host.Outcome State Fault Refusal :=
  issue (.eng 0x41 o) s fun s =>
    s.vwarp o true fun v view strip em =>
      let a := v.warp strip view
      (s.writeQuads (eD o) ((lanesOf em).map fun l => (l, a.geom (a.rows strip).length))).advance 3

/-! ## RTRI (R340 to R342) -/

/-- The indices of positions within bounds, as first and one past the last. -/
def boxRange (ps : List (Nat × Nat)) (lo hi : Int) : Nat × Nat :=
  ((ps.filter fun p => decide ((p.1 : Int) < lo)).length, (ps.filter fun p => decide ((p.1 : Int) ≤ hi)).length)
def minOf (l : List Int) : Int := l.foldl min (l.headD 0)
def maxOf (l : List Int) : Int := l.foldl max (l.headD 0)
/-- The box of a slot's vertices in its grid: gx range, gy range. -/
def TriSlot.box (t : TriSlot) : (Nat × Nat) × (Nat × Nat) :=
  (boxRange t.warp.cols (minOf t.xs) (maxOf t.xs), boxRange (t.warp.rows t.strip) (minOf t.ys) (maxOf t.ys))
def emptySlot : TriSlot :=
  { ready := false, xs := [], ys := [], area := 0, swapped := false, view := 0, strip := 0, warp := default }
/-- The status of a setup and the slot it leaves (R340). -/
def setupTriangle (w : List Word) (cull view strip : Nat) (a : Warp) : Nat × TriSlot :=
  let x (k : Nat) : Int := (wordAt w (2 * k)).toInt
  let y (k : Nat) : Int := (wordAt w (2 * k + 1)).toInt
  let area := (x 1 - x 0) * (y 2 - y 0) - (x 2 - x 0) * (y 1 - y 0)
  let neg := decide (area < 0)
  let t : TriSlot :=
    { ready := true, xs := if neg then [x 0, x 2, x 1] else [x 0, x 1, x 2], ys := if neg then [y 0, y 2, y 1] else [y 0, y 1, y 2],
      area := area.natAbs, swapped := neg, view := view, strip := strip, warp := a }
  let b := t.box
  if (List.range 6).any fun k => decide (2 ^ 27 ≤ (wordAt w k).toInt.natAbs) then (3, emptySlot)
  else if area = 0 then (1, emptySlot)
  else if (cull = 1 ∧ area < 0) ∨ (cull = 2 ∧ 0 < area) then (2, emptySlot)
  else if b.1.2 ≤ b.1.1 ∨ b.2.2 ≤ b.2.1 then (4, emptySlot)
  else (0, t)
/-- RTRI (R340). -/
def execRtri (o : EEng) (s : State) : Host.Outcome State Fault Refusal :=
  issue (.eng 0x42 o) s fun s =>
    s.withSet fun _ v =>
      let w := s.readSs s.cur (eSa o) 7
      match v.viewStrip (wordAt w 6) with
      | none => s.trapNow 0x02
      | some (view, strip) =>
        let (sd, t) := setupTriangle w (eSub o 1 0) view strip (v.warp strip view)
        let s := s.updG s.cur.group fun g => { g with tris := g.tris.set (eD o) t }
        (s.writeS s.cur (eSb o) (BitVec.ofNat 32 sd)).advance 3

/-! ## RWALK (R343, R344) -/

/-- E_i(x, y) of R341, and whether edge i is top or left. -/
def TriSlot.edge (t : TriSlot) (i : Nat) (x y : Int) : Int × Bool :=
  let X (k : Nat) : Int := t.xs.getD (k % 3) 0
  let Y (k : Nat) : Int := t.ys.getD (k % 3) 0
  let dx := X (i + 2) - X (i + 1)
  let dy := Y (i + 2) - Y (i + 1)
  (dx * (y - Y (i + 1)) - dy * (x - X (i + 1)), decide (dy < 0) || (decide (dy = 0) && decide (0 < dx)))
def TriSlot.covered (t : TriSlot) (x y : Int) : Bool :=
  [0, 1, 2].all fun i => let (e, tl) := t.edge i x y; decide (0 < e) || (decide (e = 0) && tl)
/-- Round(a / b, F32, RNE) of integers with b > 0. -/
def quot32 (a b : Int) : Word := BitVec.ofNat 32 (fF32.roundMag false 1 (decide (a < 0)) (absR (mkRat a b.toNat)) 0).bits
/-- The words of a covered cell (R344). -/
def TriSlot.cellWords (t : TriSlot) (gx gy : Nat) (x y : Nat) : List Word :=
  let e (i : Nat) : Int := (t.edge (if t.swapped then 3 - i else i) x y).1
  [BitVec.ofNat 32 (gy * 65536 + gx), quot32 (e 1) t.area, quot32 (e 2) t.area, BitVec.ofNat 32 (y / 128 * 65536 + x / 128)]
/-- The walk: at most 256 cells from one on, as cells in the order of the lanes, and the output token. -/
def TriSlot.walk (t : TriSlot) (cols rows : List (Nat × Nat)) (bx by' : Nat × Nat) :
    Nat → Nat → Nat → Nat → List (List Word) → List (List Word) × Word
  | 0, _, gy, gx, acc => (acc, if gy < by'.2 then BitVec.ofNat 32 (gy * 65536 + gx) else 0x80000000)
  | fuel + 1, want, gy, gx, acc =>
    if by'.2 ≤ gy then (acc, 0x80000000)
    else if want ≤ acc.length then (acc, BitVec.ofNat 32 (gy * 65536 + gx))
    else
      let x := (cols.getD gx default).1
      let y := (rows.getD gy default).1
      let acc := if t.covered x y then acc ++ [t.cellWords gx gy x y] else acc
      if gx + 1 < bx.2 then t.walk cols rows bx by' fuel want gy (gx + 1) acc
      else t.walk cols rows bx by' fuel want (gy + 1) bx.1 acc
/-- RWALK's cells and output token from a slot, a token and a count of lanes. -/
def TriSlot.run (t : TriSlot) (token : Word) (lanes : Nat) : List (List Word) × Word :=
  if !t.ready || token.getLsbD 31 then ([], 0x80000000)
  else
    let cols := t.warp.cols
    let rows := t.warp.rows t.strip
    let b := t.box
    let gy := wfield token 28 16
    let gx := wfield token 12 0
    let start : Nat × Nat :=
      if gy < b.2.1 then (b.2.1, b.1.1) else if gx < b.1.1 then (gy, b.1.1) else if b.1.2 ≤ gx then (gy + 1, b.1.1) else (gy, gx)
    t.walk cols rows b.1 b.2 256 lanes start.1 start.2 []
/-- RWALK (R343, R344). -/
def execRwalk (o : EEng) (s : State) : Host.Outcome State Fault Refusal :=
  issue (.eng 0x43 o) s fun s =>
    let em := s.execMask o.pe o.pi.toNat o.pn
    let token := s.one (eSa o)
    if 63 ≤ (s.spl s.cur).xc then s.hold
    else if em = 0 then s.advance 3
    else if wfield token 30 29 ≠ 0 ∨ wfield token 15 13 ≠ 0 then s.trapNow 0x02
    else
      let lanes := lanesOf em
      let t := (s.grp s.cur.group).tris.getD (eSub o 1 0) emptySlot
      let (cells, out) := t.run token lanes.length
      let rs := (List.range lanes.length).map fun i => (lanes.getD i 0, cells.getD i [0xFFFFFFFF, 0, 0, 0])
      (s.countOp { s.texOp .raster (texReq 0x43 o) (eD o) em rs 0 [] with swrites := [(eSb o, out)] }).advance 3
/-- RASTER_WALK_COMPLETION (R343). -/
def execRasterWalkCompletion (group op : Nat) (s : State) : Host.Outcome State Fault Refusal :=
  .next <|
    match s.findOp group op with
    | some p => if p.kind == .raster then s.updG group fun g => g.finish p else s
    | none => s

end Sys2Proof.Machine
end

