-- ==== Sys2Proof/Machine/Display.lean ====
section
/-!
DEFINITION. Lens resampling and the display serialiser (R348 to R357): LRES, TEMIT, strip packets and strip expiry.
-/

namespace Sys2Proof.Machine

/-! ## LRES (R349, R350) -/

/-- The axes that LRES reads: positions of columns and rows. -/
def lresAxes (v : ViewSet) (strip view : Nat) (uni : Bool) : List Nat × List Nat :=
  if uni then ((List.range v.w).map fun j => 256 * j + 128, (List.range v.sh).map fun i => 256 * (strip * v.sh + i) + 128)
  else
    let a := v.warp strip view
    (a.cols.map (·.1), (a.rows strip).map (·.1))
/-- Whether ny rows of a tile lie within a space of n bytes (R346, R349). -/
def BufRec.tileIn (r : BufRec) (ny n : Nat) : Bool :=
  let elems := ny * 2 ^ r.swzw
  let whole := elems / 32 * 32
  decide (elems ≤ r.extent) && decide (r.base + 8 * whole ≤ n) &&
    (List.range (elems - whole)).all fun k => decide (r.addr (whole + k) 0 + 8 ≤ (n : Int))
/-- The place of a coordinate on an axis: its index and its fraction. -/
def axisPlace (ps : List Nat) (x : Int) : Nat × Rat × Bool :=
  let lo : Int := (ps.headD 0 : Nat)
  let hi : Int := (ps.getLast?.getD 0 : Nat)
  let c := clampI lo hi x
  let j := (ps.filter fun (p : Nat) => decide ((p : Int) ≤ c)).length - 1
  let a := ps.getD j 0
  let t : Rat := if j + 1 = ps.length then 0 else mkRat (c - a) (ps.getD (j + 1) 0 - a)
  (j, t, c ≠ x)
/-- One channel of a lane: the taps with their weights, and whether the source lay outside. -/
structure LresTap where
  weight : Rat
  j : Nat
  i : Nat
deriving DecidableEq, Repr, Inhabited
def lresTaps (cols rows : List Nat) (x y : Int) : List LresTap × Bool :=
  let (j, tx, ox) := axisPlace cols x
  let (i, ty, oy) := axisPlace rows y
  ([{ weight := (1 - tx) * (1 - ty), j := j, i := i }, { weight := tx * (1 - ty), j := j + 1, i := i },
    { weight := (1 - tx) * ty, j := j, i := i + 1 }, { weight := tx * ty, j := j + 1, i := i + 1 }].filter (·.weight ≠ 0), ox || oy)
/-- The display position that a channel reads, in 1/256 pixel. -/
def lensPoint (lens : List Word) (px py : Nat) (c : Nat) : Int × Int :=
  let p (k : Nat) : Rat := (fF32.decode (wordAt lens k).toNat).rat
  let half : Rat := mkRat 1 2
  let ux := (px : Rat) + half - p 0
  let uy := (py : Rat) + half - p 1
  let r2 := (ux * p 2) * (ux * p 2) + (uy * p 2) * (uy * p 2)
  let f := 1 + p 3 * r2 + p 4 * (r2 * r2) + p 5 * (r2 * r2 * r2)
  let sc := match c with | 0 => p 6 | 1 => 1 | _ => p 7
  ((256 * (p 0 + ux * f * sc)).floor, (256 * (p 1 + uy * f * sc)).floor)
/-- A lane's words, OOB, and the poisoned sector of the tile that it reads first (R434). -/
def State.lresLane (s : State) (v : ViewSet) (view : Nat) (r : BufRec) (cols rows : List Nat) (x : Word) : List Word × Bool × Option Nat :=
  let px := wfield x 12 0
  let py := wfield x 28 16
  if v.w ≤ px ∨ v.h ≤ py then ([0, 0, 0, 7], true, none)
  else
    let g := s.grp s.cur.group
    let base := s.scrBase s.cur.group
    let chan (c : Nat) : Word × Bool × Option Nat :=
      let q := lensPoint (v.view view).lens px py c
      let (taps, out) := lresTaps cols rows q.1 q.2
      let off (t : LresTap) : Nat := (r.addr (t.i * 2 ^ r.swzw + t.j) 0).toNat
      let read (t : LresTap) : Nat × Bool := s.scrRead g.who.cluster (base + off t) 8
      let val (t : LresTap) : Rat × FVal := (t.weight, fF16.decode (field (read t).1 (16 * c + 15) (16 * c)))
      (BitVec.ofNat 32 (weighted (taps.map val)), out, (taps.find? fun t => (read t).2).map fun t => off t / 64 * 64)
    let cs := (List.range 3).map chan
    let m := ofBits (cs.map fun c => c.2.1)
    (cs.map (·.1) ++ [BitVec.ofNat 32 m], false, cs.findSome? fun c => c.2.2)
/-- LRES on a LATCHED strip makes it BUILDING (R352). -/
def Strip.build (t : Strip) : Strip := if t.st = .latched then { t with st := .building } else t
/-- LRES (R349, R350). -/
def execLres (o : EEng) (s : State) : Host.Outcome State Fault Refusal :=
  issue (.eng 0x44 o) s fun s =>
    let em := s.execMask o.pe o.pi.toNat o.pn
    if em = 0 then (if 63 ≤ (s.spl s.cur).xc then s.hold else s.advance 3)
    else s.withSet fun k v =>
      let (r, t) := s.recAt (eSa o)
      match v.viewStrip (s.one (eSb o)) with
      | none => s.trapNow 0x02
      | some (view, strip) =>
        let (cols, rows) := lresAxes v strip view (nbit o.sub.toNat 0)
        if t = some 0x02 ∨ r.kind ≠ 2 ∨ r.esize ≠ 3 ∨ 2 ^ r.swzw < cols.length then s.trapNow 0x02
        else if t.isSome then s.trapNow 0x13
        else if !r.tileIn rows.length s.scrSize then s.trapNow 0x12
        else
          let rs := (lanesOf em).map fun l => (l, s.lresLane v view r cols rows (s.lv (eVa o) l))
          let bad := maskOf fun l => rs.any fun x => x.1 == l && x.2.2.2.isSome
          if bad ≠ 0 then s.trapAt 0x14 bad ((rs.findSome? fun x => x.2.2.2).getD 0)
          else if 63 ≤ (s.spl s.cur).xc then s.hold
          else
            let s := s.updSet k fun v => v.updStrip strip Strip.build
            let fl := flIf (rs.any fun x => x.2.2.1) flOOB
            (s.countOp (s.texOp .lres (texReq 0x44 o) (eD o) em (rs.map fun x => (x.1, x.2.1)) fl [])).advance 3
/-- LRES_COMPLETION (R349). -/
def execLresCompletion (group op : Nat) (s : State) : Host.Outcome State Fault Refusal :=
  .next <|
    match s.findOp group op with
    | some p => if p.kind == .lres then s.updG group fun g => g.finish p else s
    | none => s

/-! ## TEMIT (R352, R353) -/

def pfmtBytes (pfmt : Nat) : Nat := if pfmt = 2 then 8 else 4
/-- Whether every view of a strip has been handed over. -/
def Strip.allEmitted (t : Strip) : Bool := t.views.all (·.emitted)
/-- A view has one more transmission to make: FSEQ rises by 1 (R356). -/
def StripView.send (x : StripView) (late : Bool) : StripView :=
  { x with fseq := x.fseq + 1, due := x.due ++ [{ late := late, fseq := x.fseq + 1, payload := x.last }] }
/-- A handover (R352). -/
def Strip.handover (t : Strip) (view : Nat) (p : Payload) : Strip :=
  let t := { t with views := upd t.views view fun x => { x with emitted := true, last := some { p with fseq := x.fseq + 1 } }.send false }
  { t with st := if t.allEmitted then .emitted else .building }
/-- TEMIT (R353). -/
def execTemit (o : EEng) (s : State) : Host.Outcome State Fault Refusal :=
  issue (.eng 0x45 o) s fun s =>
    s.withSet fun k v =>
      let (r, t) := s.recAt (eSa o)
      let pfmt := eSub o 1 0
      match v.viewStrip (s.one (eSb o)) with
      | none => s.trapNow 0x02
      | some (view, strip) =>
        let x := v.strip strip
        if t = some 0x02 ∨ r.kind ≠ 0 then s.trapNow 0x02
        else if r.extent < v.w * v.sh * pfmtBytes pfmt then s.trapNow 0x12
        else if r.base % 256 ≠ 0 then s.trapNow 0x13
        else if (s.spl s.cur).vsc ≠ 0 ∨ (s.spl s.cur).smc ≠ 0 then s.hold
        else
          let done (s : State) (w : Word) : State := (s.writeS s.cur (eSc o) w).advance 3
          if x.st = .fallback then done s 2
          else if (x.st = .latched ∨ x.st = .building) ∧ !(x.views.getD view default).emitted then
            let p : Payload := { base := r.base, ctx := s.curCtx, pfmt := pfmt, fseq := 0, stale := x.stale, gzseq := x.gzseq,
                                 group := s.cur.group, splitMask := (s.spl s.cur).mask, pc := s.pc }
            done (s.updSet k fun v => v.updStrip strip fun t => t.handover view p) 0
          else done s 1

/-! ## The serialiser (R351 to R356) -/

/-- Largest payload of a strip packet under an MTU (R354). -/
def stripPmax (mtu : Nat) (v6 : Bool) : Nat := min 8192 ((mtu - (if v6 then 40 else 20) - 8 - 32) / 64 * 64)
/-- What a packet header says of the transmission. -/
structure StripHead where
  late : Bool
  noref : Bool
  stale : Bool
  pfmt : Nat
  strip : Nat
  view : Nat
  set : Nat
  fseq : Nat
  orig : Nat
  sh : Nat
  w : Nat
  gzseq : Nat
deriving DecidableEq, Repr, Inhabited
/-- The 32-byte header (R354). -/
def StripHead.bytes (h : StripHead) (last : Bool) (pkt off len : Nat) : List Byte :=
  let flags := h.late.toNat + 2 * h.noref.toNat + 4 * last.toNat + 8 * h.stale.toNat
  [flags * 2 ^ 24 + 0x15354, h.pfmt * 2 ^ 20 + h.strip * 256 + h.view * 16 + h.set, h.fseq, h.orig, h.sh * 65536 + h.strip * h.sh,
   pkt * 65536 + h.w, off, h.gzseq % 65536 * 65536 + len].flatMap fun w => leBytes 4 w
/-- A header of a transmission without pixels. -/
def StripHead.empty (h : StripHead) : StripHead := { h with noref := true, stale := false, pfmt := 0, orig := 0, gzseq := 0 }
/-- The packets of a payload of which the first `have'` bytes could be read. -/
def stripPackets (h : StripHead) (pmax total : Nat) (data : List Byte) (whole : Bool) : List (List Byte) :=
  let n := ceilDiv total pmax
  let count := if whole then n else data.length / pmax
  let body := (List.range count).map fun i =>
    let len := min pmax (total - i * pmax)
    h.bytes (i + 1 == n) i (i * pmax) len ++ (data.drop (i * pmax)).take len
  if whole then body else body ++ [h.empty.bytes true count 0 0]
/-- The strip returns to IDLE once it is EMITTED or FALLBACK and every view has gone (R352). -/
def Strip.rest (t : Strip) : Strip :=
  if (t.st = .emitted ∨ t.st = .fallback) ∧ t.views.all fun x => x.due.isEmpty then
    { t with st := .idle, views := t.views.map fun x => { x with emitted := false } }
  else t
/-- A DESTROY whose last view set has been released: the memory is unmapped, and the command answered (R415). -/
def State.finishDestroy (s : State) (c : Nat) : State :=
  match (s.ctx c).destroyReply with
  | some (q, cmd) =>
    if s.sets.any fun v => v.ctx == some c then s
    else ((s.updC c fun x => { x with destroyReply := none }).unmapAll c).respond q cmd 0 [[]]
  | none => s
/-- The binding of a set that waits for its strips is released once all are IDLE (R352, R389, R415). -/
def State.settleSet (s : State) (k : Nat) : State :=
  let v := s.set k
  if v.releasing && v.strips.all fun t => t.st == .idle then
    let s := match v.unbindReply with
      | some (q, cmd) => s.respond q cmd 0 [[]]
      | none => s
    let s := s.updSet k fun _ => ViewSet.reset
    match v.ctx with
    | some c => s.finishDestroy c
    | none => s
  else s
/-- The route of a view: port, subport, IPv6, priority (R355). -/
def routePort (r : List Word) : Nat := wfield (wordAt r 1) 31 28
def routeSub (r : List Word) : Nat := wfield (wordAt r 1) 27 26
def routeV6 (r : List Word) : Bool := nbit (wordAt r 1).toNat 25
def routePcp (r : List Word) : Nat := wfield (wordAt r 1) 23 21
def State.subport (s : State) (p n : Nat) : Subport := (s.ports.getD p default).subs.getD n default
def State.updPort (s : State) (p : Nat) (f : Port → Port) : State := { s with ports := upd s.ports p f }
def State.updSub (s : State) (p n : Nat) (f : Subport → Subport) : State := s.updPort p fun x => { x with subs := upd x.subs n f }
/-- Sending packets by a route; a down link drops and counts them (R356). -/
def State.sendStrip (s : State) (set : Nat) (r : List Word) (ps : List (List Byte)) : State :=
  if (s.subport (routePort r) (routeSub r)).up then ps.foldl (fun s p => s.send (.strip (routePort r) (routeSub r) r p)) s
  else
    (s.updSet set fun v => { v with stripDrops := v.stripDrops + ps.length }).updPort (routePort r) fun p =>
      { p with stripDrops := p.stripDrops + ps.length }
/-- STRIP_PACKET_TRANSMISSION (R354, R356): the view's first waiting transmission is sent whole, unless its priority is paused, or a fault on
its payload might be served only from a reserve in use (R353, R387). -/
def execStripPacketTransmission (set strip view : Nat) (s : State) : Host.Outcome State Fault Refusal :=
  .next <|
    let v := s.set set
    let t := v.strip strip
    let x := t.views.getD view default
    let r := (v.view view).route
    match x.due with
    | [] => s
    | d :: rest =>
      let port := s.subport (routePort r) (routeSub r)
      if (v.nstrip ≤ strip || decide (t.views.length ≤ view)) || (port.up && port.paused.getLsbD (routePcp r)) ||
        (d.payload.any fun p => s.mustWait p.ctx) then s
      else
        let h : StripHead := { late := d.late, noref := false, stale := false, pfmt := 0, strip := strip, view := view, set := set,
                               fseq := d.fseq, orig := 0, sh := v.sh, w := v.w, gzseq := 0 }
        let close (s : State) : State :=
          (s.updSet set fun v => v.updStrip strip fun t =>
            Strip.rest { t with views := upd t.views view fun x => { x with due := rest } }).settleSet set
        match d.payload with
        | none => close (s.sendStrip set r [h.empty.bytes true 0 0 0])
        | some p =>
          let h := { h with stale := p.stale, pfmt := p.pfmt, orig := p.fseq, gzseq := p.gzseq }
          let total := v.w * v.sh * pfmtBytes p.pfmt
          let (s, data, e) := s.engineRead p.ctx p.base total
          let ps := stripPackets h (stripPmax port.mtu (routeV6 r)) total data e.isNone
          let s := s.sendStrip set r ps
          close (match e with | some e => s.engineFault p.group p.splitMask p.pc e | none => s)
/-- STRIP_EXPIRY (R351, R352). -/
def execStripExpiry (set strip : Nat) (s : State) : Host.Outcome State Fault Refusal :=
  .next <|
    let t := (s.set set).strip strip
    if (t.st = .latched ∨ t.st = .building) ∧ t.latch + t.dl ≤ s.dev.tick then
      s.updSet set fun v => v.updStrip strip fun t =>
        { t with st := .fallback, views := t.views.map fun x => if x.emitted then x else x.send true }
    else s

end Sys2Proof.Machine
end

