-- ==== Sys2Proof/Machine/Matrix.lean ====
section
/-!
DEFINITION. The cluster matrix engine (R277 to R299): operands and format blocks, acceptance by version, the seven matrix
instructions, and the completion of a command.
-/

namespace Sys2Proof.Machine

/-! ## Operands (R284 to R288) -/

/-- One operand of an MMA: its type, format word, bytes, direction and scale bytes. -/
structure MatOperand where
  type : Nat
  fmt : FmtWord
  dir : Nat
  data : List Byte
  scales : List Byte
deriving DecidableEq, Repr, Inhabited

/-- The slot width of a type under a format word (R285). -/
def matSlot (type : Nat) (f : FmtWord) : Nat := if type = 0 then f.slotBits else 16
/-- The operand types of a format block. -/
def fblockA (f : List Word) : Nat := wfield (wordAt f 2) 1 0
def fblockB (f : List Word) : Nat := wfield (wordAt f 2) 3 2
/-- The validity of a format block (R284). -/
def fblockOk (f : List Word) : Bool :=
  let ok (type : Nat) (w : Word) : Bool := if type = 0 then fmtValid w else w == 0
  fblockA f != 3 && fblockB f != 3 && ok (fblockA f) (wordAt f 0) && ok (fblockB f) (wordAt f 1) && wfield (wordAt f 2) 31 4 == 0
/-- K of a pair (R285). -/
def fblockK (f : List Word) : Nat :=
  2048 / max (matSlot (fblockA f) (FmtWord.ofWord (wordAt f 0))) (matSlot (fblockB f) (FmtWord.ofWord (wordAt f 1)))
/-- Bytes of an operand and of its scales (R285, R288); no scales for F16, BF16 and unscaled words. -/
def operandBytes (type : Nat) (w : Word) (k : Nat) : Nat := 64 * k * matSlot type (FmtWord.ofWord w) / 8
def scaleArray (type : Nat) (w : Word) (k : Nat) : Nat :=
  let f := FmtWord.ofWord w
  if type ≠ 0 ∨ f.blk = 0 then 0 else 64 * (k / f.blockLen) * f.scaleBytes
/-- The largest finite magnitude of a type (R52). -/
def typeMaxMag (type : Nat) (w : Word) : Rat :=
  match type with
  | 0 => (FmtWord.ofWord w).maxMagnitude
  | 1 => fF16.grid.value fF16.maxIdx
  | _ => fBF16.grid.value fBF16.maxIdx
/-- AutoAnchor of a format block (R52). -/
def fblockAnchor (f : List Word) : Int := autoAnchor (typeMaxMag (fblockA f) (wordAt f 0)) (typeMaxMag (fblockB f) (wordAt f 1))
/-- Element number e of an array of slots (R47, R286). -/
def slotAt (bits : Nat) (l : List Byte) (e : Nat) : Nat :=
  if bits = 4 then field (l.getD (e / 2) 0).toNat (4 * (e % 2) + 3) (4 * (e % 2))
  else leNat ((l.drop (e * (bits / 8))).take (bits / 8))
/-- Val(op, r, k) of R292. -/
def MatOperand.val (m : MatOperand) (kk r k : Nat) : FVal :=
  let e := if m.dir = 0 then r * kk + k else k * 64 + r
  match m.type with
  | 0 =>
    let v := formatValue m.fmt (slotAt m.fmt.slotBits m.data e)
    if m.fmt.blk = 0 then v else
      let n := r * (kk / m.fmt.blockLen) + k / m.fmt.blockLen
      fmulNan v (scaleValue m.fmt.scf (leNat ((m.scales.drop (n * m.fmt.scaleBytes)).take m.fmt.scaleBytes)))
  | 1 => fF16.decode (slotAt 16 m.data e)
  | _ => fBF16.decode (slotAt 16 m.data e)

/-! ## Tiles -/

/-- Element number of (i, j) of a tile. -/
def Tile.elem (t : Tile) (n : Nat) : Int := sget 0 t.x n
/-- The tile's four sticky bits cleared and every element 0 (R292, R293); poison stays for MMA. -/
def Tile.cleared (t : Tile) (anchor : Int) : Tile :=
  { t with x := [], anchor := anchor, nv := false, loss := false, ovf := false, fault := false }
/-- Flags ORed into the sticky bits (R281). -/
def Tile.sticky (t : Tile) (f : Fl) : Tile :=
  { t with nv := t.nv || f &&& flNV != 0, loss := t.loss || f &&& flACCLOSS != 0, ovf := t.ovf || f &&& flACCOVF != 0 }
/-- Setting every element by its number, with flags. -/
def Tile.setAll (t : Tile) (f : Nat → Int × Fl) : Tile × Fl :=
  (List.range 4096).foldl (fun (a : Tile × Fl) n =>
    let (x, fl) := f n
    ({ a.1 with x := sset 0 a.1.x n x }, a.2 ||| fl)) ({ t with x := [] }, 0)
/-- The product of an MMA added to a tile (R292). -/
def Tile.multiply (t : Tile) (a b : MatOperand) (k : Nat) : Tile × Fl :=
  t.setAll fun n =>
    let ps := (List.range k).map fun q => fmulNan (a.val k (n / 64) q) (b.val k (n % 64) q)
    accAdd (t.elem n) t.anchor ps
/-- A loaded F32 value as an element (R296). -/
def loadElem (anchor : Int) (bits : Nat) : Int × Fl :=
  match fF32.decode bits with
  | .nan _ => (0, flNV)
  | .inf neg => (if neg then -(pow2I 191) else pow2I 191 - 1, flACCOVF)
  | v =>
    let y := v.rat / pow2 (anchor - 160)
    let x := y.floor
    let fl := flIf (decide ((x : Rat) ≠ y)) flACCLOSS
    if pow2I 191 - 1 < x then (pow2I 191 - 1, fl ||| flACCOVF)
    else if x < -(pow2I 191) then (-(pow2I 191), fl ||| flACCOVF) else (x, fl)
/-- The element number at a place of a payload: row-major, or column-major with COL (R295). -/
def placeElem (col : Bool) (e : Nat) : Nat := if col then e % 64 * 64 + e / 64 else e
/-- The output format of an MST type. -/
def mstFmt (type : Nat) (w : Word) : OutFmt :=
  match type with | 0 => .f32 | 1 => .f16 | 2 => .bf16 | 3 => .i32 | _ => .word w
/-- Bytes of an MST payload (R295). -/
def mstBytes (type : Nat) (w : Word) : Nat :=
  match type with
  | 0 | 3 => 16384 | 1 | 2 => 8192 | 4 => 4096 * (FmtWord.ofWord w).slotBits / 8 | _ => 98304
/-- The payload of an MST, with its flags. -/
def Tile.payload (t : Tile) (type : Nat) (w : Word) (col : Bool) (mode : Nat) : List Byte × Fl :=
  let res (e : Nat) : FRes := accRound (t.elem (placeElem col e)) t.anchor (mstFmt type w) (if mode = 6 then 1 else mode) 0
  let flags : Fl := if type = 5 then 0 else (List.range 4096).foldl (fun f e => f ||| (res e).flags) 0
  let bytes : List Byte :=
    match type with
    | 5 => (List.range 4096).flatMap fun e => leBytes 24 (wrapN 192 (t.elem (placeElem col e)))
    | 4 =>
      if (FmtWord.ofWord w).slotBits = 4 then
        (List.range 2048).map fun e => BitVec.ofNat 8 ((res (2 * e)).bits % 16 + 16 * (res (2 * e + 1)).bits)
      else (List.range 4096).map fun e => BitVec.ofNat 8 (res e).bits
    | 0 | 3 => (List.range 4096).flatMap fun e => leBytes 4 (res e).bits
    | _ => (List.range 4096).flatMap fun e => leBytes 2 (res e).bits
  (bytes, flags)
/-- A tile set from a payload of an MLD, from a number of its bytes on unchanged (R296, R299). -/
def Tile.loaded (t : Tile) (raw col : Bool) (data : List Byte) : Tile × Fl :=
  let w := if raw then 24 else 4
  let count := data.length / w
  (List.range count).foldl (fun (a : Tile × Fl) e =>
    let bits := leNat ((data.drop (e * w)).take w)
    let (x, fl) := if raw then (sextN 192 bits, 0) else loadElem t.anchor bits
    ({ a.1 with x := sset 0 a.1.x (placeElem col e) x, poison := a.1.poison.filter (· != placeElem col e) }, a.2 ||| fl)) (t, 0)

/-! ## Acceptance (R277, R279, R280, R291) -/

def State.curCluster (s : State) : Nat := (s.grp s.cur.group).who.cluster
def State.tile (s : State) (k t : Nat) : Tile := (s.cl k).tiles.getD t default
def State.updTile (s : State) (k t : Nat) (f : Tile → Tile) : State := s.updCl k fun c => { c with tiles := upd c.tiles t f }
/-- Step 1 of R291: the tile belongs to the issuing group's context. -/
def State.ownsTile (s : State) (t : Nat) : Bool := (s.tile s.curCluster t).owner == some s.curCtx
/-- The trap of step 1: TRAPADDRLO holds the tile number. -/
def State.trapTile (s : State) (t : Nat) (mask : Mask) : State := s.trapAt 0x11 mask t
/-- Steps 8 and 9 of R291 (R279, R280), then the command enters the queue. A tile accepts one command in a cycle: a second is tested again in
the next. `writer` advances TV; `count` makes a counted operation of it. -/
def State.acceptMatrix (s : State) (m : MatCmd) (writer : Bool) (mask : Mask) (count : Bool) : State :=
  let k := s.curCluster
  let t := s.tile k m.tile
  let dist := (m.e + 65536 - t.tv) % 65536
  if t.acceptAt = s.dev.cycle + 1 then s.hold
  else if dist = 0 then
    if 32 ≤ (s.cl k).matq.length then s.hold
    else
      let op := s.nextId
      let now := s.dev.cycle + 1
      let s := s.updTile k m.tile fun t => { t with tv := if writer then (t.tv + 1) % 65536 else t.tv, acceptAt := now }
      let s :=
        if count then
          s.countOp { id := 0, kind := .matrix, ctr := .vmc, holders := [], lanes := mask, splitMask := (s.spl s.cur).mask, pc := s.pc,
                      vwrites := [], swrites := [], flags := 0, acc := none, regs := [m.vd], args := [], laneArgs := [] }
        else s
      (s.updCl k fun c => { c with matq := c.matq ++ [{ m with op := op }] }).advance 3
  else if dist < 32768 then s.hold
  else s.trapAt 0x1A mask (t.tv + m.tile * 65536)
/-- A command of the issuing split with its sequence word (R289). -/
def State.matCmd (s : State) (kind : MatKind) (tile : Nat) (o : EEng) : MatCmd :=
  let g := s.grp s.cur.group
  let seq := s.one (eSc o)
  { kind := kind, tile := tile, e := wfield seq 31 16, group := s.cur.group, ctx := g.who.ctx, block := s.blockOf g,
    splitMask := (s.spl s.cur).mask, lanes := 0, pc := s.pc, sub := o.sub.toNat, mode := g.mode, fmt := [], locA := 0,
    locB := wfield seq 15 0, addr := 0, anchor := none, cw := none, vd := 0, index := 0, op := 0, snapshot := none }
/-- Whether n bytes from a scratchpad offset lie in the block's allocation. -/
def State.inScratch (s : State) (off n : Nat) : Bool := decide (off + n ≤ s.scrSize)
/-- An anchor operand in range (R293, R296). -/
def anchorOk (w : Word) : Bool := decide (-1024 ≤ w.toInt ∧ w.toInt ≤ 1023)

/-! ## The instructions -/

/-- Whether an MMA's operands and scales lie within their spaces (R287, R288). A weight-store location above 0x5FFFFF fails here with BOUNDS, not
as a value outside its range (DEDUCED, log 32). -/
def State.mmaInside (s : State) (f : List Word) (ws : Bool) (locA locB : Nat) : Bool :=
  let k := fblockK f
  let sizeA := operandBytes (fblockA f) (wordAt f 0) k
  let sizeB := operandBytes (fblockB f) (wordAt f 1) k
  let scaleA := scaleArray (fblockA f) (wordAt f 0) k
  let scaleB := scaleArray (fblockB f) (wordAt f 1) k
  (if ws then decide (locA * 4096 + sizeA ≤ 0x600000 * 4096) else s.inScratch (locA * 4096) sizeA) &&
    s.inScratch (locB * 4096) sizeB && (scaleA == 0 || s.inScratch (wfield (wordAt f 3) 15 0 * 64) scaleA) &&
    (scaleB == 0 || s.inScratch (wfield (wordAt f 3) 31 16 * 64) scaleB)
/-- The first byte of an A operand in the weight store outside the grant (R225). -/
def State.mmaGap (s : State) (f : List Word) (locA : Nat) : Option Nat :=
  (s.ctx s.curCtx).grantGap (locA * 4096) (operandBytes (fblockA f) (wordAt f 0) (fblockK f))

/-- MMA (R292). -/
def execMma (o : EEng) (s : State) : Host.Outcome State Fault Refusal :=
  issue (.eng 0x20 o) s fun s =>
    let t := eD o
    let mask := (s.spl s.cur).mask
    let f := s.readSs s.cur (eSb o) 4
    let ws := nbit o.sub.toNat 2
    let locA := (s.one (eSa o)).toNat
    let m := { s.matCmd .mma t o with fmt := f, locA := locA }
    if !s.ownsTile t then s.trapTile t mask
    else if !fblockOk f then s.trapNow 0x1B
    else if !s.mmaInside f ws locA m.locB then s.trapNow 0x12
    else match (if ws then s.mmaGap f locA else none) with
      | some a => s.trapAddr 0x11 a
      | none =>
        if (s.spl s.cur).vsc ≠ 0 ∨ (s.spl s.cur).smc ≠ 0 then s.hold else s.acceptMatrix m true mask false
/-- MZERO (R293). -/
def execMzero (o : EEng) (s : State) : Host.Outcome State Fault Refusal :=
  issue (.eng 0x21 o) s fun s =>
    let t := eD o
    let mask := (s.spl s.cur).mask
    let auto := nbit o.sub.toNat 0
    let f := s.readSs s.cur (eSb o) 4
    let a := s.one (eSb o)
    if !s.ownsTile t then s.trapTile t mask
    else if !auto && !anchorOk a then s.trapNow 0x02
    else if auto && !fblockOk f then s.trapNow 0x1B
    else s.acceptMatrix { s.matCmd .mzero t o with anchor := some (if auto then fblockAnchor f else a.toInt) } true mask false
/-- MRD (R294): an empty mask makes only checks 1 to 5 of R291, and a full VMC holds it (R169). -/
def execMrd (o : EEng) (s : State) : Host.Outcome State Fault Refusal :=
  issue (.eng 0x22 o) s fun s =>
    let t := eImm o 5 3
    let em := s.execMask o.pe o.pi.toNat o.pn
    let rnd := eImm o 2 0
    let m := { s.matCmd .mrd t o with
      lanes := em, vd := eD o, index := (s.one (eSa o)).toNat % 128, mode := if rnd = 0 then (s.grp s.cur.group).mode else rnd }
    if !s.ownsTile t then s.trapTile t (s.spl s.cur).mask
    else if rnd = 7 then s.trapNow 0x02
    else if 63 ≤ (s.spl s.cur).vmc then s.hold
    else if em = 0 then s.advance 3
    else s.acceptMatrix m false em true
/-- The memory side of MST and MLD (R295, R296): a record's base or a scratchpad offset, or the cause of a trap; a record of any kind but 0 is
ILLEGAL_OPERAND, whatever its base. R291 names no step for RDONLY: it stands after the completion word's range and before the payload's (DEDUCED,
log 32). -/
def State.tilePlace (s : State) (o : EEng) (mem store : Bool) (size : Nat) : Except Nat Nat :=
  if mem then
    let (r, t) := s.recAt (eSa o)
    if r.kind ≠ 0 then .error 0x02
    else match t with
    | some c => .error c
    | none =>
      if store && r.rdonly then .error 0x11
      else if r.extent < size then .error 0x12
      else if r.base % 64 ≠ 0 then .error 0x13
      else .ok r.base
  else
    let a := (s.one (eSa o)).toNat
    if !s.inScratch a size then .error 0x12 else if a % 64 ≠ 0 then .error 0x13 else .ok a
/-- MST (R295). -/
def execMst (o : EEng) (s : State) : Host.Outcome State Fault Refusal :=
  issue (.eng 0x23 o) s fun s =>
    let t := eD o
    let mask := (s.spl s.cur).mask
    let type := eSub o 2 0
    let w := s.one (eSb o)
    let mem := nbit o.sub.toNat 4
    let cw := nbit o.sub.toNat 5
    let m := s.matCmd .mst t o
    let place := s.tilePlace o mem true (mstBytes type w)
    let bad : Bool := match place with | .error 0x02 => true | _ => false
    if !s.ownsTile t then s.trapTile t mask
    else if bad then s.trapNow 0x02
    else if type = 4 ∧ (!fmtValid w || (FmtWord.ofWord w).blk != 0) = true then s.trapNow 0x1B
    else if cw && !s.inScratch (m.locB * 64) 4 then s.trapNow 0x12
    else match place with
      | .error c => s.trapNow c
      | .ok a =>
        if (s.spl s.cur).vsc ≠ 0 ∨ (s.spl s.cur).smc ≠ 0 then s.hold
        else s.acceptMatrix { m with addr := a, fmt := [w], cw := if cw then some (m.locB * 64, o.imm) else none } false mask false
/-- MLD (R296). -/
def execMld (o : EEng) (s : State) : Host.Outcome State Fault Refusal :=
  issue (.eng 0x24 o) s fun s =>
    let t := eD o
    let mask := (s.spl s.cur).mask
    let seta := nbit o.sub.toNat 3
    let a := s.one (eSb o)
    let place := s.tilePlace o (nbit o.sub.toNat 2) false (if nbit o.sub.toNat 0 then 98304 else 16384)
    let bad : Bool := match place with | .error 0x02 => true | _ => false
    if !s.ownsTile t then s.trapTile t mask
    else if bad || (seta && !anchorOk a) then s.trapNow 0x02
    else match place with
      | .error c => s.trapNow c
      | .ok p =>
        if (s.spl s.cur).vsc ≠ 0 ∨ (s.spl s.cur).smc ≠ 0 then s.hold
        else s.acceptMatrix { s.matCmd .mld t o with addr := p, anchor := if seta then some a.toInt else none } true mask false
/-- The status word of R278. -/
def State.tileStatus (s : State) (k n : Nat) : Word :=
  let t := s.tile k n
  let busy := (s.cl k).matq.any fun m => m.tile == n && (m.kind == .mst || m.kind == .mrd)
  BitVec.ofNat 32 ((t.tv == t.ver && !busy).toNat * 2 ^ 31 + t.fault.toNat * 2 ^ 30 + t.ovf.toNat * 2 ^ 29 + t.loss.toNat * 2 ^ 28 +
    t.nv.toNat * 2 ^ 27 + wrapN 11 t.anchor * 65536 + t.ver)
/-- MVER (R297). -/
def execMver (o : EEng) (s : State) : Host.Outcome State Fault Refusal :=
  issue (.eng 0x25 o) s fun s =>
    let t := eD o
    if !s.ownsTile t then s.trapTile t (s.spl s.cur).mask
    else
      let k := s.curCluster
      let x : Word := if nbit o.sub.toNat 0 then BitVec.ofNat 32 (s.tile k t).tv else s.tileStatus k t
      (s.writeS s.cur (eSb o) x).advance 3
/-- MWAIT (R298). -/
def execMwait (o : EEng) (s : State) : Host.Outcome State Fault Refusal :=
  issue (.eng 0x26 o) s fun s =>
    let t := eD o
    let e := wfield (s.one (eSc o)) 31 16
    let d := (e + 65536 - (s.tile s.curCluster t).ver) % 65536
    if !s.ownsTile t then s.trapTile t (s.spl s.cur).mask
    else if d = 0 ∨ 32768 ≤ d then s.advance 3
    else s.hold

/-! ## Completion (R280, R281, R299) -/

def MatKind.writer : MatKind → Bool | .mma | .mzero | .mld => true | _ => false
/-- Whether the command at an index may be performed: no earlier writer of its tile is queued, and its weights can be read. -/
def State.matReady (s : State) (k i : Nat) : Bool :=
  let q := (s.cl k).matq
  match q[i]? with
  | none => false
  | some m =>
    !s.mustWait m.ctx && !((q.take i).any fun x => x.tile == m.tile && x.kind.writer) &&
      (m.kind != .mma || !nbit m.sub 2 ||
        s.wsReadable (m.locA * 4096) (operandBytes (fblockA m.fmt) (wordAt m.fmt 0) (fblockK m.fmt)))
/-- Removing a command; readers before a writer have read the tile and keep what they read. -/
def State.matLeave (s : State) (k i : Nat) (m : MatCmd) : State :=
  let t := s.tile k m.tile
  s.updCl k fun c => { c with matq :=
    (if m.kind.writer then
      (c.matq.take i).map fun x => if x.tile = m.tile ∧ x.snapshot.isNone then { x with snapshot := some t } else x
     else c.matq.take i) ++ c.matq.drop (i + 1) }
/-- The base of the command's block in its cluster's SRAM. -/
def State.cmdBase (s : State) (block : Nat) : Nat := (s.blk block).scrOff * 4096
/-- A writer's result: the tile, its flags, its version (R281). -/
def State.tileDone (s : State) (k : Nat) (m : MatCmd) (t : Tile) (fl : Fl) : State :=
  (s.lateFlags m.group fl).updTile k m.tile fun x =>
    { t.sticky fl with owner := x.owner, tv := x.tv, ver := (m.e + 1) % 65536 }
/-- MMA's performance. -/
def State.doMma (s : State) (k : Nat) (m : MatCmd) : State :=
  let base := s.cmdBase m.block
  let f := m.fmt
  let kk := fblockK f
  let operand (type : Nat) (w : Word) (dir loc scl : Nat) (ws : Bool) : MatOperand × Option EngineFault :=
    let n := operandBytes type w kk
    let (d, e1) := if ws then s.wsRead (loc * 4096) n else s.sramRead k (base + loc * 4096) n
    let (c, e2) := s.sramRead k (base + scl * 64) (scaleArray type w kk)
    ({ type := type, fmt := FmtWord.ofWord w, dir := dir, data := d, scales := c }, e1.or e2)
  let (a, ea) := operand (fblockA f) (wordAt f 0) (m.sub % 2) m.locA (wfield (wordAt f 3) 15 0) (nbit m.sub 2)
  let (b, eb) := operand (fblockB f) (wordAt f 1) (m.sub / 2 % 2) m.locB (wfield (wordAt f 3) 31 16) false
  let t := s.tile k m.tile
  match ea.or eb with
  | some e => (s.tileDone k m { t with fault := true } 0).engineFault m.group m.splitMask m.pc e
  | none =>
    let t := if nbit m.sub 3 then t.cleared (fblockAnchor f) else t
    let (t', fl) := t.multiply a b kk
    s.tileDone k m t' fl
/-- MRD's performance: its lanes, the random state of mode 6, its flags (R294). -/
def State.doMrd (s : State) (m : MatCmd) (t : Tile) : State :=
  let g := s.grp m.group
  if !g.live then s else
    let r := m.index % 64
    let h := m.index / 64
    let n (l : Nat) : Nat := if nbit m.sub 1 then (32 * h + l) * 64 + r else r * 64 + 32 * h + l
    let bad := (lanesOf m.lanes).filter fun l => t.poison.contains (n l)
    let good := (lanesOf m.lanes).filter fun l => !t.poison.contains (n l)
    let res (l : Nat) : FRes := accRound (t.elem (n l)) t.anchor (if nbit m.sub 0 then .i32 else .f32) m.mode (g.regs.rng.getD l 0)
    let g := good.foldl (fun g l =>
      let x := res l
      let g := (g.writeV m.vd l (BitVec.ofNat 32 x.bits)).orFlags x.flags
      { g with regs := { g.regs with rng := g.regs.rng.set l x.rng } }) g
    let g := match (s.findOp m.group m.op) with | some op => g.finish op | none => g
    let s := s.updG m.group fun _ => g
    if bad.isEmpty then s else s.engineFault m.group m.splitMask m.pc (0x14, 0)
/-- MST's performance: the payload, the flags, the completion word; a refused line leaves the rest out (R295, R299). -/
def State.doMst (s : State) (k : Nat) (m : MatCmd) (t : Tile) : State :=
  let w := wordAt m.fmt 0
  let base := s.cmdBase m.block
  let (bytes, fl) := t.payload (m.sub % 8) w (nbit m.sub 3) m.mode
  let fault (s : State) (e : EngineFault) : State :=
    (s.updTile k m.tile fun x => { x with fault := true }).engineFault m.group m.splitMask m.pc e
  if !t.poison.isEmpty then fault s (0x14, 0)
  else
    let (s, e) := if nbit m.sub 4 then s.engineWrite m.ctx m.addr bytes else (s.sramWrite k (base + m.addr) bytes, none)
    match e with
    | some e => fault s e
    | none =>
      let s := (s.lateFlags m.group fl).updTile k m.tile fun x => x.sticky fl
      match m.cw with
      | some (off, v) => s.sramWrite k (base + off) (leBytes 4 v.toNat)
      | none => s
/-- MLD's performance (R296, R299). -/
def State.doMld (s : State) (k : Nat) (m : MatCmd) : State :=
  let raw := nbit m.sub 0
  let n := if raw then 98304 else 16384
  let base := s.cmdBase m.block
  let (s, data, e) :=
    if nbit m.sub 2 then s.engineRead m.ctx m.addr n
    else
      let (d, e) := s.sramRead k (base + m.addr) n
      (s, match e with | some e => d.take (e.2 - (base + m.addr)) | none => d, e)
  let t := s.tile k m.tile
  let t := { t with anchor := m.anchor.getD t.anchor }
  match e with
  | none =>
    let (t', fl) := t.loaded raw (nbit m.sub 1) data
    s.tileDone k m { t' with poison := [] } fl
  | some e =>
    let (f, s) := s.free
    let (t', fl) := t.loaded raw (nbit m.sub 1) (data.take (f % (data.length + 1)))
    (s.tileDone k m { t' with fault := true } fl).engineFault m.group m.splitMask m.pc e
/-- MATRIX_COMMAND_COMPLETION (R280): a command that may be performed is performed whole. -/
def execMatrixCommandCompletion (cluster index : Nat) (s : State) : Host.Outcome State Fault Refusal :=
  .next <|
    match (s.cl cluster).matq[index]? with
    | none => s
    | some m =>
      if !s.matReady cluster index then s else
        let t := s.tile cluster m.tile
        let read := m.snapshot.getD t
        let s := s.matLeave cluster index m
        match m.kind with
        | .mma => s.doMma cluster m
        | .mzero => s.tileDone cluster m { t.cleared (m.anchor.getD 0) with poison := [] } 0
        | .mrd => s.doMrd m read
        | .mst => s.doMst cluster m read
        | .mld => s.doMld cluster m

end Sys2Proof.Machine
end

