-- ==== Sys2Proof/Machine/Copy.lean ====
section
/-!
DEFINITION. The copy engine and the fixed-rate block coder (R301 to R319): payloads, the six instructions, acceptance, performance
and completion, window ends of CPREM, follow-on offers and shadow publish.
-/

namespace Sys2Proof.Machine

/-! ## Payloads (R304, R305, R318) -/

/-- The address of a payload byte of a record. -/
def BufRec.byteAt (r : BufRec) (b : Nat) : Nat :=
  if r.linear then r.base + b else (r.addr (b / 2 ^ r.esize) 0).toNat + b % 2 ^ r.esize
/-- The contiguous pieces of payload bytes off to off + n − 1: offset and length. -/
def BufRec.pieces (r : BufRec) (off n : Nat) : List (Nat × Nat) :=
  if n = 0 then []
  else if r.linear then [(off, n)]
  else
    let e := 2 ^ r.esize
    (List.range ((off + n - 1) / e + 1 - off / e)).map fun j =>
      let a := max off ((off / e + j) * e)
      (a, min (off + n) ((off / e + j + 1) * e) - a)
/-- The bytes that a payload range may use of a space: its last element in bounds and, with a limit, every byte below it (R306). A linear
offset is an I32 (R29): one of 2³¹ or more lies before the base, and no range goes on to such an offset. -/
def BufRec.rangeOk (r : BufRec) (limit : Option Nat) (x : Nat × Nat) : Bool :=
  decide ((if r.linear then x.1 + x.2 else (x.1 + x.2 + 2 ^ r.esize - 1) / 2 ^ r.esize) ≤ r.extent) &&
    (!r.linear || decide (x.1 + x.2 ≤ 2 ^ 31)) &&
    match limit with
    | some m => (r.pieces x.1 x.2).all fun p => decide (r.byteAt p.1 + p.2 ≤ m)
    | none => true
/-- Whether every piece of a range starts at a multiple of 4. -/
def BufRec.aligned (r : BufRec) (x : Nat × Nat) : Bool := (r.pieces x.1 x.2).all fun p => r.byteAt p.1 % 4 == 0

/-- The control word of a command (R304). -/
def copyControl (op : Nat) (ctl : List Word) : Word :=
  match op with | 0x31 => wordAt ctl 6 | 0x30 | 0x35 => wordAt ctl 0 | _ => wordAt ctl 2
def copyLen (op : Nat) (ctl : List Word) : Nat :=
  let n := wfield (copyControl op ctl) 15 0
  64 * (if n = 0 then 65536 else n)
/-- The byte offset of the completion word, where CW is set. -/
def copyCw (op : Nat) (sub : Nat) (ctl : List Word) : Option Nat :=
  if nbit sub (if op = 0x31 then 4 else 2) then some (wfield (copyControl op ctl) 31 16 * 64) else none
/-- SSP and DSP. -/
def copySsp (op sub : Nat) : Bool := nbit sub (if op = 0x31 then 5 else 0)
def copyDsp (op sub : Nat) : Bool := op == 0x31 || (op != 0x32 && nbit sub 1)
/-- ORD, which CPYM does not have. -/
def copyOrd (op sub : Nat) : Bool := op != 0x31 && nbit sub 3
def blockRows (ctl : List Word) : Nat := wfield (wordAt ctl 0) 31 16
def blockCols (ctl : List Word) : Nat := wfield (wordAt ctl 0) 15 0
def sideOffset (ctl : List Word) : Nat := (wordAt ctl 1).toNat
def imagePitch (ctl : List Word) : Nat := (wordAt ctl 3).toNat
/-- The rows of an image as payload ranges (R318). The bytes between rows, which are neither read nor written, count for no check (DEDUCED,
log 32). -/
def imageRanges (ctl : List Word) : List (Nat × Nat) :=
  (List.range (4 * blockRows ctl)).map fun y => (y * imagePitch ctl, 8 * blockCols ctl)
def codedRange (ctl : List Word) : Nat × Nat := (0, 16 * (blockRows ctl * blockCols ctl))
def sideRange (ctl : List Word) : Nat × Nat := (sideOffset ctl, 2 * (blockRows ctl * blockCols ctl))
/-- What a command reads of its source and writes of its destination. -/
def copyReads (op : Nat) (ctl : List Word) : List (Nat × Nat) :=
  match op with | 0x33 => imageRanges ctl | 0x34 => [codedRange ctl] | _ => [(0, copyLen op ctl)]
def copyWrites (op : Nat) (ctl : List Word) : List (Nat × Nat) :=
  match op with | 0x33 => [codedRange ctl] | 0x34 => imageRanges ctl | _ => [(0, copyLen op ctl)]
/-- The record kinds accepted (R305). -/
def copyKinds (op sub : Nat) (src dst : BufRec) : Bool :=
  let near (k : Nat) : Bool := decide (k ≤ 2)
  let far (k : Nat) : Bool := k == 3 || k == 4
  let source (k : Nat) : Bool := if copySsp op sub then near k else near k || (if op = 0x35 then far k else k == 6)
  let dest (k : Nat) : Bool :=
    if copyDsp op sub then near k else match op with
      | 0x32 => k == 0
      | 0x35 => near k || far k
      | _ => near k || k == 6
  source src.kind && dest dst.kind && (op != 0x35 || (far src.kind != far dst.kind)) &&
    (src.linear || decide (2 ≤ src.esize)) && (dst.linear || decide (2 ≤ dst.esize))
/-- The geometry of CPENC and CPDEC (R318). -/
def copyGeometry (op : Nat) (ctl : List Word) : Bool :=
  if op = 0x33 ∨ op = 0x34 then
    blockRows ctl != 0 && blockCols ctl != 0 && imagePitch ctl % 8 == 0 && decide (8 * blockCols ctl ≤ imagePitch ctl) &&
      (op == 0x34 || (sideOffset ctl % 64 == 0 && decide ((codedRange ctl).2 ≤ sideOffset ctl)))
  else true

/-! ## Issue (R301, R306) -/

/-- The address of an object in two words. -/
def addr56 (l : List Word) (i : Nat) : Nat := wide64 l i % 2 ^ 56
/-- The command of an issuing split. -/
def State.copyCmd (s : State) (op : Nat) (o : EEng) : CopyCmd :=
  let g := s.grp s.cur.group
  let n := match op with | 0x31 => 8 | 0x32 | 0x33 | 0x34 => 4 | _ => 0
  { opcode := op, group := s.cur.group, ctx := g.who.ctx, block := s.blockOf g, splitMask := (s.spl s.cur).mask, pc := s.pc,
    sub := o.sub.toNat, imm := o.imm, src := s.readSs s.cur (eSa o) 4, dst := s.readSs s.cur (eSb o) 4,
    ctl := if n = 0 then [s.one (eSc o)] else s.readSs s.cur (eSc o) n, tile := eD o % 8, mode := g.mode, op := 0,
    landed := false, order := s.dev.cycle }
/-- Bounds of R306, step 5. -/
def State.copyInside (s : State) (m : CopyCmd) (src dst : BufRec) : Bool :=
  let scr (here : Bool) (r : BufRec) : Option Nat :=
    if here then some s.scrSize else if r.kind = 6 then some (0x600000 * 4096) else none
  let op := m.opcode
  (copyReads op m.ctl).all (src.rangeOk (scr (copySsp op m.sub) src)) &&
  (copyWrites op m.ctl).all (dst.rangeOk (scr (copyDsp op m.sub) dst)) &&
  (op != 0x33 || dst.rangeOk (scr (copyDsp op m.sub) dst) (sideRange m.ctl)) &&
  (match copyCw op m.sub m.ctl with | some a => s.inScratch a 4 | none => true) &&
  (op != 0x31 || s.mmaInside (m.ctl.take 4) (nbit m.sub 2) (wordAt m.ctl 4).toNat (wfield (wordAt m.ctl 5) 15 0))
/-- The first byte outside the grant that a command reads of the weight store (R306, step 7). -/
def State.copyGap (s : State) (m : CopyCmd) (src : BufRec) : Option Nat :=
  let c := s.ctx m.ctx
  let a :=
    if src.kind = 6 then
      ((copyReads m.opcode m.ctl).flatMap fun x => src.pieces x.1 x.2).findSome? fun p => c.grantGap (src.byteAt p.1) p.2
    else none
  a.or (if m.opcode = 0x31 && nbit m.sub 2 then s.mmaGap (m.ctl.take 4) (wordAt m.ctl 4).toNat else none)
/-- The checks of R306 in order, then the port: XC rises. -/
def State.copyIssue (s : State) (op : Nat) (o : EEng) : State :=
  let m := s.copyCmd op o
  let (src, t1) := parseRec m.src
  let (dst, t2) := parseRec m.dst
  if op = 0x31 && !s.ownsTile m.tile then s.trapTile m.tile m.splitMask
  else if t1 = some 0x02 || t2 = some 0x02 || !copyKinds op m.sub src dst || !copyGeometry op m.ctl then s.trapNow 0x02
  else if t1.isSome || t2.isSome then s.trapNow 0x13
  else if dst.rdonly then s.trapNow 0x11
  else if dst.kind = 6 then s.trapNow 0x1C
  else if op = 0x31 && !fblockOk (m.ctl.take 4) then s.trapNow 0x1B
  else if !s.copyInside m src dst then s.trapNow 0x12
  else if !((copyReads op m.ctl).all src.aligned && (copyWrites op m.ctl).all dst.aligned) ||
      (op == 0x32 && addr56 m.ctl 0 % 16 != 0) then s.trapNow 0x13
  else match s.copyGap m src with
    | some a => s.trapAddr 0x11 a
    | none =>
      if (s.spl s.cur).vsc ≠ 0 ∨ (s.spl s.cur).smc ≠ 0 ∨ 63 ≤ (s.spl s.cur).xc then s.hold
      else
        let id := s.nextId
        let s := s.countOp { id := 0, kind := .copyPort, ctr := .xc, holders := [], lanes := 0, splitMask := m.splitMask, pc := s.pc,
                             vwrites := [], swrites := [], flags := 0, acc := none, regs := [], args := [], laneArgs := [] }
        (s.updCl s.curCluster fun c => { c with ports := c.ports ++ [{ m with op := id }] }).advance 3
/-- CPY (R312). -/
def execCpy (o : EEng) (s : State) : Host.Outcome State Fault Refusal := issue (.eng 0x30 o) s fun s => s.copyIssue 0x30 o
/-- CPYM (R313). -/
def execCpym (o : EEng) (s : State) : Host.Outcome State Fault Refusal := issue (.eng 0x31 o) s fun s => s.copyIssue 0x31 o
/-- CPUB (R315). -/
def execCpub (o : EEng) (s : State) : Host.Outcome State Fault Refusal := issue (.eng 0x32 o) s fun s => s.copyIssue 0x32 o
/-- CPENC (R317). -/
def execCpenc (o : EEng) (s : State) : Host.Outcome State Fault Refusal := issue (.eng 0x33 o) s fun s => s.copyIssue 0x33 o
/-- CPDEC (R317). -/
def execCpdec (o : EEng) (s : State) : Host.Outcome State Fault Refusal := issue (.eng 0x34 o) s fun s => s.copyIssue 0x34 o
/-- CPREM (R312). -/
def execCprem (o : EEng) (s : State) : Host.Outcome State Fault Refusal := issue (.eng 0x35 o) s fun s => s.copyIssue 0x35 o

/-- Whether one waiting command enters before another: by cycle of issue, then core, then partition (R301). -/
def State.entersBefore (s : State) (a b : CopyCmd) : Bool :=
  let key (m : CopyCmd) : Nat := (s.grp m.group).coreIx * 8 + (s.grp m.group).part
  decide (a.order < b.order) || (a.order == b.order && decide (key a < key b))
/-- The command of the ports that enters next. -/
def State.nextPort (s : State) (k : Nat) : Option CopyCmd :=
  (s.cl k).ports.foldl (fun a m => match a with
    | none => some m
    | some b => if s.entersBefore m b then some m else some b) none
/-- COPY_ACCEPTANCE (R301): the next command of the ports enters the queue, and XC falls. -/
def execCopyAcceptance (cluster : Nat) (s : State) : Host.Outcome State Fault Refusal :=
  .next <|
    match s.nextPort cluster with
    | none => s
    | some m =>
      if 16 ≤ (s.cl cluster).copyq.length then s
      else
        let (n, s) := s.newId
        let s := match s.findOp m.group m.op with | some op => s.updG m.group fun g => g.finish op | none => s
        s.updCl cluster fun c => { c with ports := c.ports.filter (· != m), copyq := c.copyq ++ [{ m with order := n }] }

/-! ## The block coder (R316, R317) -/

/-- Rounding a non-negative value to an integer, RNE. -/
def rneNat (x : Rat) : Nat :=
  let f := x.floor.toNat
  let fr := x - (f : Rat)
  if roundUp 1 false fr (f % 2 = 1) 0 && decide (fr ≠ 0) then f + 1 else f
/-- y[k] of R317 from the patterns of BASE and STEP. -/
def decodeCode (base step q : Nat) : Nat :=
  let b := fF16.decode base
  let d := fF16.decode step
  (fF16.sum { mode := 1, fz := false } [b, d] [some b, fmulExact (.fin false (q : Rat)) d] 0).bits
/-- The 16 bytes of a block and its bound, from 16 F16 patterns. -/
def encodeBlock (v : List Nat) : List Byte × Nat :=
  let vals := v.map fF16.decode
  let special := vals.any fun x => x.isNan || x.isInf
  let rs : List Rat := vals.map fun x => match x with | .nan _ => 0 | .inf n => if n then -65504 else 65504 | y => y.rat
  let lo := rs.foldl minR (rs.getD 0 0)
  let hi := rs.foldl maxR (rs.getD 0 0)
  let b := (fF16.roundMag false 1 (decide (lo < 0)) (absR lo) 0).bits
  let d := (fF16.roundMag false 3 false ((hi - lo) / 63) 0).bits
  let dr := (fF16.decode d).rat
  let q := rs.map fun x => if dr = 0 then 0 else min 63 (rneNat ((x - lo) / dr))
  let ys := q.map fun k => fF16.decode (decodeCode b d k)
  let err := (ys.zip rs).foldl (fun a p => maxR a (absR (p.1.rat - p.2))) 0
  let bound := if special || ys.any FVal.isInf then 0x7C00 else (fF16.roundMag false 3 false err 0).bits
  let codes := q.foldr (fun k a => k + 64 * a) 0
  (leBytes 16 (b + 65536 * d + 2 ^ 32 * codes), bound)
/-- The 16 F16 patterns of a coded block. -/
def decodeBlock (bytes : List Byte) : List Nat :=
  let x := leNat bytes
  (List.range 16).map fun k => decodeCode (field x 15 0) (field x 31 16) (field x (32 + 6 * k + 5) (32 + 6 * k))

/-! ## Performing (R307 to R310) -/

/-- Reading payload bytes of a side. -/
def State.payRead (s : State) (k : Nat) (m : CopyCmd) (r : BufRec) (scr : Bool) (x : Nat × Nat) :
    State × List Byte × Option EngineFault :=
  let base := s.cmdBase m.block
  (r.pieces x.1 x.2).foldl (fun (a : State × List Byte × Option EngineFault) p =>
    match a with
    | (s, l, some e) => (s, l, some e)
    | (s, l, none) =>
      let at' := r.byteAt p.1
      if scr then let (b, e) := s.sramRead k (base + at') p.2; (s, if e.isSome then l else l ++ b, e)
      else if r.kind = 6 then let (b, e) := s.wsRead at' p.2; (s, if e.isSome then l else l ++ b, e)
      else let (s, b, e) := s.engineRead m.ctx at' p.2; (s, l ++ b, e)) (s, [], none)
/-- Reading every range of the source, up to a refused or poisoned line. -/
def State.payReadAll (s : State) (k : Nat) (m : CopyCmd) (r : BufRec) (scr : Bool) (l : List (Nat × Nat)) :
    State × List (List Byte) × Option EngineFault :=
  l.foldl (fun (a : State × List (List Byte) × Option EngineFault) x =>
    match a with
    | (s, l, some e) => (s, l, some e)
    | (s, l, none) => let (s, b, e) := s.payRead k m r scr x; (s, l ++ [b], e)) (s, [], none)
/-- Payload data at an offset as addressed parts of the destination. -/
def BufRec.parts (r : BufRec) (off : Nat) (data : List Byte) : List (Nat × List Byte) :=
  (r.pieces off data.length).map fun p => (r.byteAt p.1, (data.drop (p.1 - off)).take p.2)
/-- Writing outputs at their payload offsets. -/
def State.payWrite (s : State) (k : Nat) (m : CopyCmd) (r : BufRec) (scr : Bool) (outs : List (Nat × List Byte)) :
    State × Option EngineFault :=
  let parts := outs.flatMap fun x => r.parts x.1 x.2
  let base := s.cmdBase m.block
  if scr then (parts.foldl (fun s p => s.sramWrite k (base + p.1) p.2) s, none)
  else s.engineParts m.ctx (parts.flatMap fun p => lineParts p.1 p.2)
/-- The units of 64 bytes of a copied payload. -/
def unitsOf (data : List Byte) : List (Nat × List Byte) :=
  (List.range (data.length / 64)).map fun i => (64 * i, (data.drop (64 * i)).take 64)
/-- The patterns of block (bx, by) in image rows. -/
def imageBlock (rows : List (List Byte)) (bx by' : Nat) : List Nat :=
  (List.range 16).map fun j => leNat (((rows.getD (4 * by' + j / 4) []).drop (8 * bx + 2 * (j % 4))).take 2)
/-- What a command writes, from what it has read. -/
def copyOutputs (op : Nat) (ctl : List Word) (rows : List (List Byte)) : List (Nat × List Byte) :=
  let bc := blockCols ctl
  match op with
  | 0x33 =>
    (List.range (rows.length / 4 * bc)).flatMap fun n =>
      let (b, e) := encodeBlock (imageBlock rows (n % bc) (n / bc))
      [(16 * n, b), (sideOffset ctl + 2 * n, leBytes 2 e)]
  | 0x34 =>
    let data := rows.getD 0 []
    (List.range (data.length / 16)).flatMap fun n =>
      let y := decodeBlock ((data.drop (16 * n)).take 16)
      (List.range 4).map fun j =>
        ((4 * (n / bc) + j) * imagePitch ctl + 8 * (n % bc), ((y.drop (4 * j)).take 4).flatMap fun v => leBytes 2 v)
  | _ => unitsOf (rows.getD 0 [])
/-- Copying a command's payload: a fault leaves a free part of the outputs written (R310, log 9). -/
def State.copyPayload (s : State) (k : Nat) (m : CopyCmd) : State × Option EngineFault :=
  let (src, _) := parseRec m.src
  let (dst, _) := parseRec m.dst
  let (s, rows, e) := s.payReadAll k m src (copySsp m.opcode m.sub) (copyReads m.opcode m.ctl)
  let rows := if e.isSome && m.opcode == 0x33 then rows.take (rows.length - 1) else rows
  let outs := copyOutputs m.opcode m.ctl rows
  match e with
  | none => s.payWrite k m dst (copyDsp m.opcode m.sub) outs
  | some e =>
    let (f, s) := s.free
    ((s.payWrite k m dst (copyDsp m.opcode m.sub) (outs.take (f % (outs.length + 1)))).1, some e)

/-- A command leaves the queue. -/
def State.copyLeave (s : State) (k : Nat) (m : CopyCmd) : State :=
  s.updCl k fun c => { c with copyq := c.copyq.filter fun x => x.order != m.order }
/-- The completion word (R309). -/
def State.copyWord (s : State) (k : Nat) (m : CopyCmd) : State :=
  match copyCw m.opcode m.sub m.ctl with
  | some a => s.sramWrite k (s.cmdBase m.block + a) (leBytes 4 m.imm.toNat)
  | none => s
/-- A command ends with a cause (R310). -/
def State.copyFail (s : State) (k : Nat) (m : CopyCmd) (e : EngineFault) : State :=
  let s := { s with winReqs := s.winReqs.filter fun q => q.use != WinUse.copy k m.order }
  (s.copyLeave k m).engineFault m.group m.splitMask m.pc e
/-- The publish step of CPUB (R274, R315): the object's MAP and RSEQ, or the cause. -/
def State.publish (s : State) (m : CopyCmd) : State × Option EngineFault :=
  let obj := addr56 m.ctl 0
  let s := match s.xlateServed m.ctx obj .r with | some (_, s) => s | none => s
  match s.syncObj m.ctx obj with
  | (s, .error (code, va)) =>
    (s, some (if code = 0x14 ∨ code = faultCause then code else 0x1A, if code = 0x02 then obj else va))
  | (s, .ok x) =>
    let words := leBytes 4 (x.rseq + 1).toNat ++ leBytes 4 x.scope ++ leBytes 8 (parseRec m.dst).1.base
    match s.writeXl m.ctx obj words with
    | .got _ s => (s, none)
    | .exhausted => (s, some (faultCause, lineOf obj))
    | _ => (s, some (0x1A, lineOf obj))

/-! ## CPREM's window end (R312, R420) -/

/-- The requests of a window end: payload offset, address and length of each line. -/
def windowLines (r : BufRec) (n : Nat) : List (Nat × Nat × Nat) :=
  (linePieces r.base n).map fun p => (p.1 - r.base, p.1, p.2)
/-- A window request of a command. -/
def State.copyRequest (s : State) (k : Nat) (m : CopyCmd) (kind : AccKind) (rkind : Nat) (w : Window) (x : Nat × Nat × Nat)
    (data : List Byte) : State :=
  let (id, s) := s.newId
  let remote := w.remote + (x.2.1 - w.va)
  let acc : Access := { kind := kind, rkind := rkind, width := x.2.2, d := 0, scalar := true, scope := 0, policy := 0,
                        lanes := [{ lane := x.1, va := x.2.1, data := 0, cmp := 0 }] }
  let q : WinReq := { id := id, group := m.group, use := .copy k m.order, acc := acc, q := w.q, remote := remote, sent := s.dev.tick, failed := none }
  let s := { s with winReqs := s.winReqs ++ [q] }
  s.send (if kind.isLoad then Sent.rdmaReadOut w.q id remote x.2.2 else Sent.rdmaWriteOut w.q id remote data)
/-- Starting a CPREM: its local side is read, and every line of the window is asked for or sent. -/
def State.copyRemote (s : State) (k : Nat) (m : CopyCmd) : State × Option EngineFault :=
  let (src, _) := parseRec m.src
  let (dst, _) := parseRec m.dst
  let n := copyLen m.opcode m.ctl
  let out := dst.kind = 3 ∨ dst.kind = 4
  let far := if out then dst else src
  let want : Want := if out then .w else .r
  let c := s.ctx m.ctx
  let lines := windowLines far n
  let (s, rows, e) := if out then s.payReadAll k m src (copySsp m.opcode m.sub) [(0, n)] else (s, [], none)
  let data := rows.getD 0 []
  let reachable (x : Nat × Nat × Nat) : Option Window := c.window far.kind x.2.1 want
  let bad := lines.findIdx? fun x => (reachable x).isNone || (out && decide (data.length < x.1 + x.2.2))
  let post (s : State) (x : Nat × Nat × Nat) : State :=
    match reachable x with
    | some w => s.copyRequest k m (if out then .store else .load) far.kind w x ((data.drop x.1).take x.2.2)
    | none => s
  match bad with
  | none => (lines.foldl post s, none)
  | some i =>
    let x := lines.getD i default
    let (f, s) := s.free
    let s := if out then (lines.take (f % (i + 1))).foldl post s else s
    (s, some (if (reachable x).isNone then (0x1A, lineOf x.2.1) else e.getD (0x1A, lineOf x.2.1)))
/-- A window request of a command is acknowledged: data read are written at the local side. -/
def State.copyAcknowledged (s : State) (k order : Nat) (q : WinReq) (data : List Byte) : State :=
  match (s.cl k).copyq.find? fun m => m.order == order with
  | none => s
  | some m =>
    if !q.acc.kind.isLoad then s
    else
      let off := (q.acc.lanes.headD default).lane
      let (s, e) := s.payWrite k m (parseRec m.dst).1 (copyDsp m.opcode m.sub) [(off, data.take q.acc.width)]
      match e with
      | some e => s.copyFail k m e
      | none => s

/-! ## Completion (R308, R309, R314) -/

/-- Whether the command at an index may be performed (R301, R307, R308): of those that take time, the remote copies, at most four are
performed at once, a line that could be served only from a reserve in use waits (R387), and a payload still to be read from the weight store
waits for a region that can be read (R226, R227). -/
def State.copyReady (s : State) (k i : Nat) (m : CopyCmd) : Bool :=
  let (src, _) := parseRec m.src
  (m.landed || decide (((s.cl k).copyq.filter fun x => x.opcode == 0x35 && x.landed).length < 4)) && !s.mustWait m.ctx &&
  !(copyOrd m.opcode m.sub && ((s.cl k).copyq.take i).any fun x => x.group == m.group && x.opcode != 0x31) &&
    (m.landed || src.kind != 6 || ((copyReads m.opcode m.ctl).flatMap fun x => src.pieces x.1 x.2).all fun p => s.wsReadable (src.byteAt p.1) p.2)
/-- The offers that wait in a cluster; those of a saved block wait nowhere. -/
def State.activeOffers (s : State) (k : Nat) : List CopyCmd := (s.cl k).offers.filter fun m => !(s.blk m.block).saved
/-- A CPYM whose payload has landed joins the offers when fewer than 16 wait (R314). -/
def State.joinOffers (s : State) (k : Nat) (m : CopyCmd) : State :=
  if 16 ≤ (s.activeOffers k).length then
    s.updCl k fun c => { c with copyq := c.copyq.map fun x => if x.order = m.order then { x with landed := true } else x }
  else (s.copyLeave k m).updCl k fun c => { c with offers := c.offers ++ [{ m with landed := true }] }
/-- Marking a command started. -/
def State.copyStarted (s : State) (k : Nat) (m : CopyCmd) : State :=
  s.updCl k fun c => { c with copyq := c.copyq.map fun x => if x.order = m.order then { x with landed := true } else x }
/-- COPY_COMMAND_COMPLETION (R309): a command that may be performed is performed whole; a CPREM first sends its requests, and ends
when each has been acknowledged. -/
def execCopyCommandCompletion (cluster index : Nat) (s : State) : Host.Outcome State Fault Refusal :=
  .next <|
    match (s.cl cluster).copyq[index]? with
    | none => s
    | some m =>
      if !s.copyReady cluster index m then s
      else if m.opcode = 0x35 then
        if m.landed then
          (if s.winReqs.any fun q => q.use == WinUse.copy cluster m.order then s else (s.copyLeave cluster m).copyWord cluster m)
        else match s.copyRemote cluster m with
          | (s, some e) => s.copyFail cluster m e
          | (s, none) => s.copyStarted cluster m
      else if m.opcode = 0x31 && m.landed then s.joinOffers cluster m
      else match s.copyPayload cluster m with
        | (s, some e) => s.copyFail cluster m e
        | (s, none) =>
          if m.opcode = 0x31 then s.joinOffers cluster m
          else if m.opcode = 0x32 then
            match s.publish m with
            | (s, some e) => s.copyFail cluster m e
            | (s, none) => (s.copyLeave cluster m).copyWord cluster m
          else (s.copyLeave cluster m).copyWord cluster m
/-- The MMA that a CPYM offers (R313). -/
def CopyCmd.follow (m : CopyCmd) : MatCmd :=
  { kind := .mma, tile := m.tile, e := wfield (wordAt m.ctl 5) 31 16, group := m.group, ctx := m.ctx, block := m.block,
    splitMask := m.splitMask, lanes := 0, pc := m.pc, sub := m.sub % 16, mode := m.mode, fmt := m.ctl.take 4,
    locA := (wordAt m.ctl 4).toNat, locB := wfield (wordAt m.ctl 5) 15 0, addr := 0, anchor := none, cw := none, vd := 0, index := 0,
    op := 0, snapshot := none }
/-- The distance of an offer from its tile's TV (R279). -/
def State.offerDist (s : State) (k : Nat) (m : CopyCmd) : Nat := (m.follow.e + 65536 - (s.tile k m.tile).tv) % 65536
/-- Whether an offer is accepted or refused when it is tested now (R279, R313): one of a saved block waits, and so does one that could be accepted
while the queue is full; a tile takes one instruction in a cycle. -/
def State.offerActs (s : State) (k : Nat) (m : CopyCmd) : Bool :=
  !(s.blk m.block).saved && (s.tile k m.tile).acceptAt != s.dev.cycle + 1 &&
    (if s.offerDist k m = 0 then decide ((s.cl k).matq.length < 32) else decide (32768 ≤ s.offerDist k m))
/-- The split as whose instruction an offer is made (R282, R313): of its group the lowest that holds lanes of the issuing split. -/
def State.offerSplit (s : State) (m : CopyCmd) : SplitRef :=
  { group := m.group, split := ((s.grp m.group).splits.findIdx? fun sp => sp.mask &&& m.splitMask != 0).getD 0 }
/-- Whether an instruction of one split comes before one of another that names the same tile: core, partition, then R188 (R279). -/
def State.goesFirst (s : State) (a b : SplitRef) : Bool :=
  let place (r : SplitRef) : Nat := (s.grp r.group).coreIx * 8 + (s.grp r.group).part
  decide (place a < place b) || (place a == place b && s.before a b)
/-- The offers that are accepted or refused now, in the order of R279. -/
def State.offersNow (s : State) (k : Nat) : List (Nat × SplitRef) :=
  sortBy (fun a b => !s.goesFirst b.2 a.2) (((s.cl k).offers.zipIdx.filter fun x => s.offerActs k x.1).map fun x => (x.2, s.offerSplit x.1))
/-- FOLLOW_ON_OFFER (R313): the first offer in the order of R279 is accepted with its completion word, or refused. -/
def execFollowOnOffer (cluster index : Nat) (s : State) : Host.Outcome State Fault Refusal :=
  .next <|
    match (s.cl cluster).offers[index]? with
    | none => s
    | some m =>
      let f := m.follow
      let leave (s : State) : State := s.updCl cluster fun c => { c with offers := c.offers.eraseIdx index }
      if (s.offersNow cluster).head?.map (·.1) ≠ some index then s
      else if s.offerDist cluster m = 0 then
        let s := (leave s).updTile cluster f.tile fun t => { t with tv := (t.tv + 1) % 65536, acceptAt := s.dev.cycle + 1 }
        (s.updCl cluster fun c => { c with matq := c.matq ++ [f] }).copyWord cluster m
      else (leave s).engineFault m.group m.splitMask m.pc (0x1A, (s.tile cluster f.tile).tv + m.tile * 65536)

end Sys2Proof.Machine
end

