-- ==== Sys2Proof/Machine/Prism.lean ====
section
/-!
DEFINITION. The Prism ray units (R358 to R376): scene structures, traversal, the triangle test, any-hit events, the spawn queue and
the five ray instructions.
-/

namespace Sys2Proof.Machine

/-! ## Values -/

/-- The order of extended reals; NaN is ordered with nothing. -/
def FVal.le : FVal → FVal → Bool
  | .nan _, _ => false
  | _, .nan _ => false
  | .inf true, _ => true
  | _, .inf false => true
  | .inf false, _ => false
  | _, .inf true => false
  | a, b => decide (a.rat ≤ b.rat)
def FVal.ofRat (x : Rat) : FVal := .fin (decide (x < 0)) (absR x)
def FVal.isFin : FVal → Bool | .fin _ _ => true | _ => false
def FVal.minOf (a b : FVal) : FVal := if a.le b then a else b
def FVal.maxOf (a b : FVal) : FVal := if a.le b then b else a
/-- The value of an F32 word. -/
def f32v (w : Word) : FVal := fF32.decode w.toNat
/-- Round(x, F32, RNE) as a word, and as a value where it is finite (R366). -/
def r32 (x : Rat) : Word := BitVec.ofNat 32 (fF32.roundMag false 1 (decide (x < 0)) (absR x) 0).bits
def r32v (x : Rat) : Option Rat := let v := f32v (r32 x); if v.isFin then some v.rat else none
def at3 (l : List Rat) (k : Nat) : Rat := l.getD k 0

/-! ## Boxes and transforms (R359, R361, R365) -/

/-- The slab of one axis: entry and exit, none where it is empty. -/
def slab (lo hi : FVal) (o d : Rat) : Option (FVal × FVal) :=
  if d = 0 then (if lo.le (.ofRat o) && (FVal.ofRat o).le hi then some (.inf true, .inf false) else none)
  else
    let q (x : FVal) : FVal := match x with | .inf n => .inf (n != decide (d < 0)) | y => .ofRat ((y.rat - o) / d)
    if d < 0 then some (q hi, q lo) else some (q lo, q hi)
/-- The entry distance of a box, none where it is not entered. -/
def boxEntry (b : List FVal) (o d : List Rat) (tmin hb : FVal) : Option FVal :=
  let v (k : Nat) : FVal := b.getD k (.nan false)
  if b.any FVal.isNan || [0, 1, 2].any fun a => !(v a).le (v (a + 3)) then none
  else do
    let x ← slab (v 0) (v 3) (at3 o 0) (at3 d 0)
    let y ← slab (v 1) (v 4) (at3 o 1) (at3 d 1)
    let z ← slab (v 2) (v 5) (at3 o 2) (at3 d 2)
    let te := (x.1.maxOf y.1).maxOf z.1
    let tx := (x.2.minOf y.2).minOf z.2
    if te.le tx && te.le hb && tmin.le tx then some te else none
/-- Whether XF is finite. -/
def xfFinite (w : List Word) : Bool := (List.range 12).all fun k => (f32v (wordAt w k)).isFin
/-- The object-space ray, none where it is not usable. -/
def objectRay (w : List Word) (o d : List Rat) : Option (List Rat × List Rat) := do
  let m (r c : Nat) : Rat := (f32v (wordAt w (4 * r + c))).rat
  let row (r : Nat) (v : List Rat) : Rat := m r 0 * at3 v 0 + m r 1 * at3 v 1 + m r 2 * at3 v 2
  let o' ← [0, 1, 2].mapM fun r => r32v (row r o + m r 3)
  let d' ← [0, 1, 2].mapM fun r => r32v (row r d)
  if d'.all (· = 0) then none else some (o', d')

/-! ## The triangle test (R366) -/

/-- What the triangle test gives: t, its word, the two weights, FRONT. -/
structure TriHit where
  t : Rat
  tw : Word
  w1 : Word
  w2 : Word
  front : Bool
deriving DecidableEq, Repr, Inhabited
/-- Steps 1 to 8; none is a miss or a cull. -/
def triTest (p : List FVal) (o d : List Rat) (cullF cullB : Bool) : Option TriHit :=
  if !p.all FVal.isFin then none
  else do
    let ad := d.map absR
    let kz := if at3 ad 1 ≤ at3 ad 0 ∧ at3 ad 2 ≤ at3 ad 0 then 0 else if at3 ad 2 ≤ at3 ad 1 then 1 else 2
    let k1 := (kz + 1) % 3
    let k2 := (kz + 2) % 3
    let flip := decide (at3 d kz < 0)
    let kx := if flip then k2 else k1
    let ky := if flip then k1 else k2
    let sx ← r32v (at3 d kx / at3 d kz)
    let sy ← r32v (at3 d ky / at3 d kz)
    let sz ← r32v (1 / at3 d kz)
    let sheared (i : Nat) : Option (List Rat) := do
      let q ← [0, 1, 2].mapM fun a => r32v ((p.getD (3 * i + a) (.nan false)).rat - at3 o a)
      let x ← r32v (at3 q kx - sx * at3 q kz)
      let y ← r32v (at3 q ky - sy * at3 q kz)
      let z ← r32v (sz * at3 q kz)
      some [x, y, z]
    let a ← sheared 0
    let b ← sheared 1
    let c ← sheared 2
    let ue := at3 c 0 * at3 b 1 - at3 c 1 * at3 b 0
    let ve := at3 a 0 * at3 c 1 - at3 a 1 * at3 c 0
    let we := at3 b 0 * at3 a 1 - at3 b 1 * at3 a 0
    let u ← r32v ue
    let v ← r32v ve
    let w ← r32v we
    let det ← r32v (u + v + w)
    let mixed := [ue, ve, we].any (· < 0) && [ue, ve, we].any (0 < ·)
    let front := decide (0 < det)
    if mixed || decide (u = 0 ∧ v = 0 ∧ w = 0) || decide (det = 0) || (front && cullF) || (!front && cullB) then none
    else
      let T ← r32v (u * at3 a 2 + v * at3 b 2 + w * at3 c 2)
      let t ← r32v (T / det)
      let _ ← r32v (v / det)
      let _ ← r32v (w / det)
      some { t := t, tw := r32 (T / det), w1 := r32 (v / det), w2 := r32 (w / det), front := front }

/-! ## Rays (R363, R364) -/

/-- INVALID of R363. -/
def rayInvalid (w : List Word) : Bool :=
  let v (k : Nat) : FVal := f32v (wordAt w k)
  !([0, 1, 2, 4, 5, 6].all fun k => (v k).isFin) || ([4, 5, 6].all fun k => (v k).isZero) || (v 3).isNan || (v 7).isNan ||
    wfield (wordAt w 8) 7 3 != 0
def RayCtx.o (c : RayCtx) : List Rat := [0, 1, 2].map fun k => (f32v (wordAt c.ray k)).rat
def RayCtx.d (c : RayCtx) : List Rat := [4, 5, 6].map fun k => (f32v (wordAt c.ray k)).rat
def RayCtx.tmin (c : RayCtx) : FVal := f32v (wordAt c.ray 3)
def RayCtx.tmax (c : RayCtx) : FVal := f32v (wordAt c.ray 7)
/-- The current bound. -/
def RayCtx.hb (c : RayCtx) : FVal := match c.hit with | some h => f32v h.t | none => c.tmax
def RayCtx.depth (c : RayCtx) : Nat := wfield (wordAt c.ray 8) 2 0
def RayCtx.opqAll (c : RayCtx) : Bool := c.flags.getLsbD 0
def RayCtx.first (c : RayCtx) : Bool := c.flags.getLsbD 1
def RayCtx.cullB (c : RayCtx) : Bool := c.flags.getLsbD 2
def RayCtx.cullF (c : RayCtx) : Bool := c.flags.getLsbD 3
def RayCtx.rayMask (c : RayCtx) : Nat := wfield c.flags 15 8
def RayHit.words (h : RayHit) : List Word := [h.t, h.w1, h.w2, h.prim, h.inst, h.geom]
/-- The eight words of a result (R364). -/
def RayCtx.result (c : RayCtx) (status : Nat) : List Word :=
  let h := if status = 3 then c.cand else if status = 1 ∨ status = 6 then none else c.hit
  let has := h.isSome && (status == 4 || status == 5 || status == 7)
  let front := match h with | some x => x.front | none => false
  [BitVec.ofNat 32 (has.toNat * 4096 + front.toNat * 2048 + c.depth * 256 + status)] ++
    (match h with | some x => x.words | none => [0, 0, 0, 0, 0xFFFFFFFF, 0]) ++ [BitVec.ofNat 32 c.visits]
/-- Committing a candidate (R367): with FIRST the ray ends as HIT. -/
def RayCtx.commit (c : RayCtx) (h : RayHit) : RayCtx :=
  { c with hit := some h, cand := none, final := if c.first then some 2 else c.final }
/-- The status at the end of traversal. -/
def RayCtx.endStatus (c : RayCtx) : Nat := if c.hit.isSome then 2 else 1
/-- Applying the recorded decision to the candidate. -/
def RayCtx.resume (c : RayCtx) : RayCtx :=
  let r := { c with st := .running, decision := 0, cand := none }
  match c.cand, c.decision with
  | some h, 1 => r.commit h
  | some h, 2 => { r.commit h with final := some 2 }
  | _, 3 => { r with final := some r.endStatus }
  | _, _ => r

/-! ## Reading the scene (R358, R372) -/

/-- Why a traversal step stops: a refused or poisoned line, data of a window not yet here, a region of the weight store in its refresh window
(R227), a malformed structure. -/
inductive RayStop where
  | fault (e : EngineFault)
  | need (pos n : Nat)
  | later
  | malformed
deriving DecidableEq, Repr, Inhabited
/-- The parts of n bytes in each sector. -/
def sectorPieces (va n : Nat) : List (Nat × Nat) :=
  if n = 0 then [] else
    (List.range ((va + n - 1) / 64 + 1 - va / 64)).map fun j =>
      let a := max va ((va / 64 + j) * 64)
      (a, min (va + n) ((va / 64 + j + 1) * 64) - a)
/-- A sector as a node read sees it: bytes valid in the cluster cache, others from the home slice or the weight store. It reads the bytes of a
mask, and meets the poison of the places that give these. -/
def State.nodeSector (s : State) (k key : Nat) (need : BitVec 64) : BitVec 512 × Bool :=
  let y := s.ccAt k key
  let (h, p) := s.homeSector key
  (blend h y.data y.valid, (p && need &&& ~~~y.valid != 0) || (y.poison && need &&& y.valid != 0))
/-- Bytes of the scene; faults that Clove-M resolves are served. -/
def State.rayFetch (s : State) (gi : Nat) (c : RayCtx) (pos n : Nat) : State × Except RayStop (List Byte) :=
  let g := s.grp gi
  let (r, _) := parseRec c.bvh
  let va := r.base + pos
  if r.extent < pos + n then (s, .error .malformed)
  else if r.kind = 3 then
    let ps := linePieces va n
    let found := ps.filterMap fun p => c.got.lookup p
    if found.length = ps.length then (s, .ok (found.flatMap id)) else (s, .error (.need pos n))
  else
    let sectors (s : State) (key : Nat → Nat) (at' : Nat → Nat) : Except RayStop (List Byte) :=
      let parts := (sectorPieces va n).map fun p => (p, s.nodeSector g.who.cluster (key p.1) (byteMask (p.1 % 64) p.2))
      match parts.find? fun p => p.2.2 with
      | some p => .error (.fault (0x14, at' p.1.1))
      | none => .ok (parts.flatMap fun p => leBytes p.1.2 (sectorBytes p.2.1 (p.1.1 % 64) p.1.2))
    if r.kind = 6 then
      match (s.ctx g.who.ctx).grantGap va n with
      | some a => (s, .error (.fault (0x1A, lineOf a)))
      | none => if !s.wsReadable va n then (s, .error .later) else (s, sectors s wkey fun a => a / 64 * 64)
    else
      let (s, bad) := (linePieces va n).foldl (fun (a : State × Option Nat) p =>
        match a with
        | (s, some b) => (s, some b)
        | (s, none) => match s.xlateServed g.who.ctx p.1 .r with
          | some (_, s) => (s, none)
          | none => (s, some p.1)) (s, none)
      match bad with
      | some b => (s, .error (.fault (s.engineCause g.who.ctx b .r, lineOf b)))
      | none => (s, sectors s (vkey g.who.ctx) fun a => a / 64 * 64)
/-- The ray in the space of an instance: origin, direction, the INST word. -/
def State.rayFrame (s : State) (gi : Nat) (c : RayCtx) (ipos : Option Nat) :
    State × Except RayStop (List Rat × List Rat × Word) :=
  match ipos with
  | none => (s, .ok (c.o, c.d, 0xFFFFFFFF))
  | some p =>
    match s.rayFetch gi c p 64 with
    | (s, .error e) => (s, .error e)
    | (s, .ok b) =>
      let w := wordsOf b
      match (if xfFinite w then objectRay w c.o c.d else none) with
      | some (o, d) => (s, .ok (o, d, wordAt w 13))
      | none => (s, .error .malformed)

/-! ## The stack (R368) -/

def RayCtx.spillRec (c : RayCtx) : BufRec := match c.spill with | some w => (parseRec w).1 | none => nullRec
def RayCtx.capacity (c : RayCtx) : Nat := if c.spill.isSome then c.spillRec.extent / 512 else 0
def RayCtx.spillAddr (c : RayCtx) (lane n : Nat) : Nat := c.spillRec.base + 16 * (lane * c.capacity + n)
/-- What a step makes of a ray. -/
inductive RayOut where
  | go (c : RayCtx)
  | wait (pos n : Nat)
  | later
  | event (c : RayCtx)
  | ended (c : RayCtx) (status : Nat)
  | fault (c : RayCtx) (e : EngineFault)
deriving DecidableEq, Repr, Inhabited
/-- The outcome of a step that could not go on. -/
def RayStop.out (e : RayStop) (c : RayCtx) : RayOut :=
  match e with | .fault f => .fault c f | .need p n => .wait p n | .later => .later | .malformed => .ended c 4
/-- TE as it is spilled. -/
def teWord (x : FVal) : Word :=
  match x with | .inf n => (if n then 0xFF800000 else 0x7F800000) | y => r32 y.rat
/-- Pushing an entry; a full on-chip stack spills its bottom entry. -/
def State.rayPush (s : State) (gi lane : Nat) (c : RayCtx) (e : RayStack) : State × Except RayOut RayCtx :=
  if c.stack.length < 8 then (s, .ok { c with stack := e :: c.stack })
  else if c.capacity ≤ c.spilled then (s, .error (.ended c 5))
  else
    let b := c.stack.getLastD default
    let words := [b.child, teWord b.te, match b.ipos with | some p => BitVec.ofNat 32 (p / 16) | none => 0xFFFFFFFF, 0]
    match s.engineWrite (s.grp gi).who.ctx (c.spillAddr lane c.spilled) (bytesOf words) with
    | (s, some f) => (s, .error (.fault c f))
    | (s, none) => (s, .ok { c with stack := e :: c.stack.dropLast, spilled := c.spilled + 1 })
/-- Popping an entry: none at the end of traversal. -/
def State.rayPop (s : State) (gi lane : Nat) (c : RayCtx) : State × Except RayOut (RayCtx × Option RayStack) :=
  match c.stack with
  | h :: t => (s, .ok ({ c with stack := t }, some h))
  | [] =>
    if c.spilled = 0 then (s, .ok (c, none))
    else
      match s.engineRead (s.grp gi).who.ctx (c.spillAddr lane (c.spilled - 1)) 16 with
      | (s, _, some f) => (s, .error (.fault c f))
      | (s, b, none) =>
        let w := wordsOf b
        let e : RayStack := { child := wordAt w 0, te := f32v (wordAt w 1),
                              ipos := if wordAt w 2 = 0xFFFFFFFF then none else some (16 * (wordAt w 2).toNat) }
        (s, .ok ({ c with spilled := c.spilled - 1 }, some e))

/-! ## Traversal (R365, R369) -/

def childType (w : Word) : Nat := wfield w 31 30
def childPos (w : Word) : Nat := 16 * wfield w 29 0
/-- The entered children of an inner node, nearest first. -/
def enteredChildren (w : List Word) (o d : List Rat) (tmin hb : FVal) (ipos : Option Nat) : List RayStack :=
  let one (k : Nat) : Option RayStack :=
    let child := wordAt w (48 + k)
    if childType child = 0 then none
    else (boxEntry ((List.range 6).map fun j => f32v (wordAt w (6 * k + j))) o d tmin hb).map fun te =>
      { child := child, te := te, ipos := ipos }
  sortBy (fun a b => a.te.le b.te) ((List.range 8).filterMap one)
/-- Pushing entries from the farthest on. -/
def State.rayPushAll (s : State) (gi lane : Nat) (c : RayCtx) : List RayStack → State × Except RayOut RayCtx
  | [] => (s, .ok c)
  | e :: t =>
    match s.rayPush gi lane c e with
    | (s, .ok c) => s.rayPushAll gi lane c t
    | (s, .error x) => (s, .error x)
/-- A visit to an inner node. -/
def State.visitInner (s : State) (gi lane : Nat) (c : RayCtx) (e : RayStack) : State × RayOut :=
  let pos := childPos e.child
  if pos % 256 ≠ 0 then (s, .ended c 4)
  else match s.rayFrame gi c e.ipos with
    | (s, .error x) => (s, x.out c)
    | (s, .ok (o, d, _)) =>
      match s.rayFetch gi c pos 256 with
      | (s, .error x) => (s, x.out c)
      | (s, .ok b) =>
        match enteredChildren (wordsOf b) o d c.tmin c.hb e.ipos with
        | [] => (s, .go c)
        | h :: t =>
          match s.rayPushAll gi lane { c with next := some h } t.reverse with
          | (s, .ok c) => (s, .go c)
          | (s, .error x) => (s, x)
/-- The validity of a leaf (R360). -/
def leafOk (w : List Word) : Bool :=
  let n := wfield (wordAt w 0) 3 0
  wfield (wordAt w 0) 31 4 == 0 && wordAt w 1 == 0 && wordAt w 2 == 0 && wordAt w 3 == 0 && decide (1 ≤ n ∧ n ≤ 8)
/-- A visit to a leaf. -/
def State.visitLeaf (s : State) (gi : Nat) (c : RayCtx) (e : RayStack) : State × RayOut :=
  let pos := childPos e.child
  match s.rayFetch gi c pos 16 with
  | (s, .error x) => (s, x.out c)
  | (s, .ok b) =>
    let h := wordsOf b
    let n := wfield (wordAt h 0) 3 0
    if !leafOk h then (s, .ended c 4)
    else match s.rayFetch gi c (pos + 16) (48 * n) with
      | (s, .error x) => (s, x.out c)
      | (s, .ok b) =>
        let w := wordsOf b
        if (List.range n).any fun k => wfield (wordAt w (12 * k + 10)) 31 1 != 0 then (s, .ended c 4)
        else (s, .go { c with leaf := some { words := w, k := 0, ipos := e.ipos } })
/-- A visit to an instance record. -/
def State.visitInstance (s : State) (gi : Nat) (c : RayCtx) (e : RayStack) : State × RayOut :=
  let pos := childPos e.child
  if pos % 64 ≠ 0 ∨ e.ipos.isSome = true then (s, .ended c 4)
  else match s.rayFetch gi c pos 64 with
    | (s, .error x) => (s, x.out c)
    | (s, .ok b) =>
      let w := wordsOf b
      if wfield (wordAt w 12) 31 30 ≠ 0 ∨ wfield (wordAt w 14) 31 8 ≠ 0 ∨ wordAt w 15 ≠ 0 then (s, .ended c 4)
      else if !xfFinite w then (s, .ended c 4)
      else if c.rayMask &&& wfield (wordAt w 14) 7 0 = 0 then (s, .go c)
      else match objectRay w c.o c.d with
        | none => (s, .go c)
        | some _ => (s, .go { c with next := some { child := 0x40000000 ||| wordAt w 12, te := .inf true, ipos := some pos } })
/-- One triangle of the leaf in progress. -/
def RayCtx.triangle (c : RayCtx) (l : RayLeaf) (o d : List Rat) (inst : Word) : RayOut :=
  let w := l.words.drop (12 * l.k)
  if w.isEmpty then .go { c with leaf := none }
  else
    let c := { c with leaf := some { l with k := l.k + 1 } }
    match triTest ((List.range 9).map fun j => f32v (wordAt w j)) o d c.cullF c.cullB with
    | none => .go c
    | some h =>
      let t := FVal.ofRat h.t
      if !(c.tmin.le t && t.le c.tmax) || (c.hit.isSome && c.hb.le t) then .go c
      else
        let r : RayHit := { t := h.tw, w1 := h.w1, w2 := h.w2, prim := wordAt w 9, inst := inst, geom := wordAt w 11, front := h.front }
        if (wordAt w 10).getLsbD 0 || c.opqAll then .go (c.commit r)
        else .event { c with st := .event, cand := some r, decision := 0 }
/-- One step of a ray's traversal. -/
def State.rayStep (s : State) (gi lane : Nat) (c : RayCtx) : State × RayOut :=
  match c.final, c.leaf, c.next with
  | some f, _, _ => (s, .ended c f)
  | none, some l, _ =>
    match s.rayFrame gi c l.ipos with
    | (s, .error x) => (s, x.out c)
    | (s, .ok (o, d, inst)) => (s, c.triangle l o d inst)
  | none, none, some e =>
    let c := { c with next := none, visits := c.visits + 1 }
    if c.budget < c.visits then (s, .ended c 4)
    else match childType e.child with
      | 1 => s.visitInner gi lane c e
      | 2 => s.visitLeaf gi c e
      | _ => s.visitInstance gi c e
  | none, none, none =>
    match s.rayPop gi lane c with
    | (s, .error x) => (s, x)
    | (s, .ok (c, none)) => (s, .ended c c.endStatus)
    | (s, .ok (c, some e)) => if !e.te.le c.hb then (s, .go c) else (s, .go { c with next := some e })
/-- Steps until a ray stops; a step that waits for window data leaves the ray as it was before the step. -/
def State.rayRun : Nat → State → Nat → Nat → RayCtx → State × RayCtx × RayOut
  | 0, s, _, _, c => (s, c, .go c)
  | fuel + 1, s, gi, lane, c =>
    match s.rayStep gi lane c with
    | (s, .go c) => s.rayRun fuel gi lane { c with got := [] }
    | (s, out) => (s, c, out)
/-- Steps enough for any ray within its budget: each visit has at most eight triangles and seven pushes. -/
def RayCtx.fuel (c : RayCtx) : Nat := 24 * (c.budget + 2)

/-! ## Results (R369, R372) -/

def Group.ray (g : Group) (l : Nat) : RayCtx := g.rays.getD l default
def Group.updRay (g : Group) (l : Nat) (f : RayCtx → RayCtx) : Group := { g with rays := upd g.rays l f }
/-- Asking a window for the lines of a structure; a line outside the window is refused. -/
def State.askRay (s : State) (gi lane : Nat) (c : RayCtx) (pos n : Nat) : State × Option EngineFault :=
  let x := s.ctx (s.grp gi).who.ctx
  let ps := (linePieces ((parseRec c.bvh).1.base + pos) n).filter fun p => (c.got.lookup p).isNone
  match ps.find? fun p => (x.window 3 p.1 .r).isNone with
  | some p => (s, some (0x1A, lineOf p.1))
  | none =>
    (ps.foldl (fun s p =>
      match x.window 3 p.1 .r with
      | none => s
      | some w =>
        let (id, s) := s.newId
        let acc : Access := { kind := .load, rkind := 3, width := p.2, d := 0, scalar := true, scope := 0, policy := 0,
                              lanes := [{ lane := lane, va := p.1, data := 0, cmp := 0 }] }
        let q : WinReq := { id := id, group := gi, use := .ray lane, acc := acc, q := w.q, remote := w.remote + (p.1 - w.va),
                             sent := s.dev.tick, failed := none }
        ({ s with winReqs := s.winReqs ++ [q] }).send (.rdmaReadOut w.q id q.remote p.2)) s, none)
/-- Whether a ray waits for a window. -/
def State.rayWaits (s : State) (gi lane : Nat) : Bool := s.winReqs.any fun q => q.group == gi && q.use == WinUse.ray lane
/-- A ray's result is written, and its context is EVENT or DONE. -/
def State.rayWrite (s : State) (gi lane d : Nat) (c : RayCtx) (status : Nat) : State :=
  s.updG gi fun g =>
    let g := (c.result status).zipIdx.foldl (fun g (x : Word × Nat) => g.writeV (d + x.2) lane x.1) g
    g.updRay lane fun _ => { c with st := if status = 3 then .event else .done, got := [] }
/-- A fetch of a structure that fails counts its visit as a fetch that succeeds does (R365). -/
def RayCtx.failedFetch (c : RayCtx) : RayCtx :=
  if c.final.isNone && c.leaf.isNone && c.next.isSome then { c with visits := c.visits + 1 } else c
/-- A ray ends with FAULT, once: its other requests are forgotten, the cause goes to the issuing split and the log (R369). -/
def State.rayFault (s : State) (gi lane d : Nat) (c : RayCtx) (op : PendOp) (e : EngineFault) : State :=
  let s := { s with winReqs := s.winReqs.filter fun q => !(q.group == gi && q.use == WinUse.ray lane) }
  (s.rayWrite gi lane d c 7).engineFault gi op.splitMask op.pc e
/-- Running the ray of a lane for an operation. -/
def State.rayAdvance (s : State) (gi lane : Nat) (op : PendOp) : State :=
  let c := (s.grp gi).ray lane
  let d := (wordAt op.args 0).toNat
  let (s, c, out) := s.rayRun c.fuel gi lane c
  match out with
  | .go c => s.rayWrite gi lane d c 4
  | .event c => s.rayWrite gi lane d c 3
  | .ended c f => s.rayWrite gi lane d c f
  | .fault c e => s.rayFault gi lane d c op e
  | .wait pos n =>
    let s := s.updG gi fun g => g.updRay lane fun _ => c
    match s.askRay gi lane c pos n with
    | (s, none) => s
    | (s, some e) => s.rayFault gi lane d c.failedFetch op e
  | .later => s.updG gi fun g => g.updRay lane fun _ => c
/-- RAY_RESULT (R372): the lowest running ray of the operation that does not wait runs to its event or end; when none is left
running, XC falls. A scene in the weight store waits in LOAD mode (R226). -/
def execRayResult (group op : Nat) (s : State) : Host.Outcome State Fault Refusal :=
  .next <|
    match s.findOp group op with
    | none => s
    | some p =>
      if p.kind != .ray || (s.grp group).saved || s.mustWait (s.grp group).who.ctx then s else
        let g := s.grp group
        let running := (lanesOf p.lanes).filter fun l => (g.ray l).st == .running && (g.ray l).op == p.id
        if running.isEmpty then s.updG group fun g => g.finish p
        else match running.find? fun l =>
            !s.rayWaits group l && !(s.dev.wsLoad && (parseRec (g.ray l).bvh).1.kind == 6) with
          | some l => s.rayAdvance group l p
          | none => s
/-- Window data for a ray arrive. -/
def State.rayArrived (s : State) (q : WinReq) (lane : Nat) (data : List Byte) : State :=
  s.updG q.group fun g => g.updRay lane fun c =>
    { c with got := c.got ++ [(((q.acc.lanes.headD default).va, q.acc.width), data.take q.acc.width)] }

/-! ## RTRACE, RNEXT, RCOMMIT (R371 to R373) -/

/-- A determinant by its first row. -/
def det2 (a b c d : Rat) : Rat := a * d - b * c
def det3 (m : Nat → Nat → Rat) : Rat :=
  m 0 0 * det2 (m 1 1) (m 1 2) (m 2 1) (m 2 2) - m 0 1 * det2 (m 1 0) (m 1 2) (m 2 0) (m 2 2) +
    m 0 2 * det2 (m 1 0) (m 1 1) (m 2 0) (m 2 1)
def det4 (m : Nat → Nat → Rat) : Rat :=
  let minor (c : Nat) : Rat := det3 fun i j => m (i + 1) (if j < c then j else j + 1)
  m 0 0 * minor 0 - m 0 1 * minor 1 + m 0 2 * minor 2 - m 0 3 * minor 3
/-- M⁻¹ · v, dehomogenised, by Cramer's rule; none where M is singular or w is 0. -/
def unproject (m : Nat → Nat → Rat) (v : List Rat) : Option (List Rat) :=
  let c (k : Nat) : Rat := det4 fun i j => if j = k then v.getD i 0 else m i j
  if det4 m = 0 ∨ c 3 = 0 then none else some [c 0 / c 3, c 1 / c 3, c 2 / c 3]
/-- The ray of a warped cell (R372): nine words, none where INVALID. -/
def cellRay (a : Warp) (strip : Nat) (mw : List Word) (cell : Word) : Option (List Word) :=
  let gx := wfield cell 12 0
  match (a.rows strip)[wfield cell 28 16]? with
  | none => none
  | some (y, _) =>
    if a.nx ≤ gx then none
    else do
      let m (i j : Nat) : Rat := (f32v (wordAt mw (4 * i + j))).rat
      let x : Rat := mkRat (a.colX gx).1 256
      let yy : Rat := mkRat y 256
      let n ← unproject m [x, yy, 0, 1]
      let f ← unproject m [x, yy, 1, 1]
      some [r32 (at3 n 0), r32 (at3 n 1), r32 (at3 n 2), 0, r32 (at3 f 0 - at3 n 0), r32 (at3 f 1 - at3 n 1),
            r32 (at3 f 2 - at3 n 2), 0x3F800000, 0]
/-- A new ray of a lane; none is INVALID. -/
def newRay (w : Option (List Word)) (flags : Word) (bvh : List Word) (spill : Option (List Word)) (budget op : Nat) : RayCtx :=
  let ray := w.getD (List.replicate 9 0)
  let bad := w.isNone || rayInvalid ray
  let c : RayCtx :=
    { st := .running, ray := ray, flags := flags, bvh := bvh, spill := spill, budget := if budget = 0 then 65536 else budget,
      hit := none, cand := none, stack := [], spilled := 0, next := some { child := 0x40000000, te := .inf true, ipos := none },
      leaf := none, decision := 0, visits := 0, final := none, got := [], op := op }
  { c with final := if bad then some 6 else if !c.tmin.le c.tmax then some 1 else none }
/-- Whether some active lane's ray is running. -/
def State.rayBusy (s : State) (em : Mask) : Bool := (lanesOf em).any fun l => ((s.grp s.cur.group).ray l).st == .running
/-- A counted ray operation. -/
def State.rayOp (s : State) (kind : PendKind) (op : Nat) (o : EEng) (n : Nat) (lanes : Mask) : PendOp :=
  { id := 0, kind := kind, ctr := .xc, holders := [], lanes := lanes, splitMask := (s.spl s.cur).mask, pc := s.pc, vwrites := [],
    swrites := [], flags := 0, acc := none, regs := (List.range n).map (eD o + ·) ++ engReads op o, args := [BitVec.ofNat 32 (eD o)], laneArgs := [] }
/-- The nine words of a lane's record. -/
def State.rayWords (s : State) (va l : Nat) : List Word := (List.range 9).map fun k => s.lv (va + k) l
/-- RTRACE after R328: its records, then the rays. -/
def State.rtrace (s : State) (o : EEng) (em : Mask) (ray : State → Nat → Option (List Word)) : State :=
  let spl := nbit o.sub.toNat 1
  let (r, t1) := s.recAt (eSa o)
  let (p, t2) := s.recAt (eSc o)
  let bvh := s.readSs s.cur (eSa o) 4
  let spill := if spl then some (s.readSs s.cur (eSc o) 4) else none
  if t1 = some 0x02 || !(r.kind == 0 || r.kind == 3 || r.kind == 6) || (spl && (t2 == some 0x02 || p.kind != 0)) then s.trapNow 0x02
  else if spl && p.rdonly then s.trapNow 0x11
  else if s.rayBusy em ∨ 63 ≤ (s.spl s.cur).xc then s.hold
  else
    let budget := (s.grp s.cur.group).lch.rbudget
    let s := s.updG s.cur.group fun g => (lanesOf em).foldl (fun g l =>
      g.updRay l fun _ => newRay (ray s l) o.imm bvh spill budget s.nextId) g
    (s.countOp (s.rayOp .ray 0x50 o 8 em)).advance 3
/-- RTRACE (R372). -/
def execRtrace (o : EEng) (s : State) : Host.Outcome State Fault Refusal :=
  issue (.eng 0x50 o) s fun s =>
    let em := s.execMask o.pe o.pi.toNat o.pn
    if em = 0 then (if 63 ≤ (s.spl s.cur).xc then s.hold else s.advance 3)
    else if nbit o.sub.toNat 0 then
      s.withSet fun _ v =>
        match v.viewStrip (s.one (eSb o)) with
        | none => s.trapNow 0x02
        | some (view, strip) => s.rtrace o em fun s l => cellRay (v.warp strip view) strip (v.view view).m (s.lv (eVa o) l)
    else s.rtrace o em fun s l => some (s.rayWords (eVa o) l)
/-- RNEXT (R373). -/
def execRnext (o : EEng) (s : State) : Host.Outcome State Fault Refusal :=
  issue (.eng 0x51 o) s fun s =>
    let em := s.execMask o.pe o.pi.toNat o.pn
    if em = 0 then (if 63 ≤ (s.spl s.cur).xc then s.hold else s.advance 3)
    else if s.rayBusy em ∨ 63 ≤ (s.spl s.cur).xc then s.hold
    else
      let lanes := maskOf fun l => inMask em l && ((s.grp s.cur.group).ray l).st == .event
      let s := s.updG s.cur.group fun g => (lanesOf lanes).foldl (fun g l => g.updRay l fun c => { c.resume with op := s.nextId }) g
      (s.countOp (s.rayOp .ray 0x51 o 8 lanes)).advance 3
/-- RCOMMIT (R373). -/
def execRcommit (o : EEng) (s : State) : Host.Outcome State Fault Refusal :=
  issue (.eng 0x52 o) s fun s =>
    let em := s.execMask o.pe o.pi.toNat o.pn
    if s.rayBusy em then s.hold
    else
      (s.updG s.cur.group fun g => (lanesOf em).foldl (fun g l =>
        g.updRay l fun c => if c.st = .event then { c with decision := eSub o 1 0 } else c) g).advance 3

/-! ## The spawn queue (R370, R374, R375) -/

/-- The entry that a record of a depth takes: a general one (8), else the reserved one of its depth. -/
def spawnSlot (q : List (List Word × Nat × Nat)) (depth : Nat) : Option Nat :=
  if (q.filter fun e => e.2.1 == 8).length < 248 then some 8
  else if q.all fun e => e.2.1 != depth then some depth else none
def rayDepth (w : List Word) : Nat := wfield (wordAt w 8) 2 0
/-- Pushing the waiting records of an operation in lane order; without NB the first that finds no entry waits. -/
def spawnLanes (now d : Nat) (nb : Bool) : List (Nat × List Word) → List (List Word × Nat × Nat) → List (Nat × Nat × Word) →
    List (Nat × List Word) × List (List Word × Nat × Nat) × List (Nat × Nat × Word)
  | [], q, out => ([], q, out)
  | (l, w) :: t, q, out =>
    match spawnSlot q (rayDepth w) with
    | some k => spawnLanes now d nb t (q ++ [(w, k, now)]) (out ++ [(d, l, 0)])
    | none => if nb then spawnLanes now d nb t q (out ++ [(d, l, 1)]) else ((l, w) :: t, q, out)
/-- Serving a spawn operation of a group. -/
def State.spawnServe (s : State) (gi : Nat) (op : PendOp) : State :=
  let k := (s.grp gi).who.cluster
  let (left, q, out) := spawnLanes s.dev.cycle (wordAt op.args 0).toNat (wordAt op.args 1 != 0) op.laneArgs (s.cl k).spawn []
  (s.updCl k fun c => { c with spawn := q }).updG gi fun g =>
    { g with ops := g.ops.map fun x => if x.id = op.id then { x with laneArgs := left, vwrites := x.vwrites ++ out } else x }
/-- Every waiting push of a cluster, in the order of issue; those of a group that has ended complete too (R384). -/
def State.spawnDrain (s : State) (k : Nat) : State :=
  let ops := (List.range s.groups.length).flatMap fun gi =>
    if !(s.grp gi).saved && (s.grp gi).who.cluster == k then
      ((s.grp gi).ops.filter fun op => op.kind == .spawn && !op.laneArgs.isEmpty).map fun op => (gi, op)
    else []
  (sortBy (fun (a b : Nat × PendOp) => decide (a.2.id ≤ b.2.id)) ops).foldl (fun s x => s.spawnServe x.1 x.2) s
/-- Whether the issuing context owns the queue of its cluster. -/
def State.ownsSpawn (s : State) : Bool := (s.cl s.curCluster).spawnOwner == some s.curCtx
/-- RSPAWN (R374). -/
def execRspawn (o : EEng) (s : State) : Host.Outcome State Fault Refusal :=
  issue (.eng 0x53 o) s fun s =>
    let em := s.execMask o.pe o.pi.toNat o.pn
    if em = 0 then (if 63 ≤ (s.spl s.cur).xc then s.hold else s.advance 3)
    else if !s.ownsSpawn then s.trapNow 0x11
    else if 63 ≤ (s.spl s.cur).xc then s.hold
    else
      let ws := (lanesOf em).map fun l => (l, s.rayWords (eVa o) l)
      let bad := ws.filter fun x => rayInvalid x.2
      let op := { s.rayOp .spawn 0x53 o 1 em with
        args := [BitVec.ofNat 32 (eD o), BitVec.ofNat 32 (eSub o 0 0)], vwrites := bad.map fun x => (eD o, x.1, 2)
        laneArgs := ws.filter fun x => !rayInvalid x.2 }
      ((s.countOp op).spawnDrain s.curCluster).advance 3
/-- The entry popped next: the greatest depth, oldest first, pushed in an earlier cycle. -/
def spawnNext (now : Nat) (q : List (List Word × Nat × Nat)) : Option Nat :=
  (List.range 8).findSome? fun k => q.findIdx? fun e => rayDepth e.1 == 7 - k && decide (e.2.2 < now)
/-- Popping for lanes. -/
def spawnPops (now : Nat) : List Nat → List (List Word × Nat × Nat) → List (Nat × List Word) × List (List Word × Nat × Nat) × Nat
  | [], q => ([], q, 0)
  | l :: t, q =>
    match spawnNext now q with
    | some i => let (r, q', n) := spawnPops now t (q.eraseIdx i); ((l, (q.getD i default).1) :: r, q', n + 1)
    | none => let (r, q', n) := spawnPops now t q; ((l, List.replicate 8 0 ++ [0xFFFFFFFF]) :: r, q', n)
/-- RPOP (R375). -/
def execRpop (o : EEng) (s : State) : Host.Outcome State Fault Refusal :=
  issue (.eng 0x54 o) s fun s =>
    let em := s.execMask o.pe o.pi.toNat o.pn
    if em = 0 then (if 63 ≤ (s.spl s.cur).xc then s.hold else s.advance 3)
    else if !s.ownsSpawn then s.trapNow 0x11
    else if 63 ≤ (s.spl s.cur).xc then s.hold
    else
      let k := s.curCluster
      let (rs, q, n) := spawnPops s.dev.cycle (lanesOf em) (s.cl k).spawn
      let s := s.updCl k fun c => { c with spawn := q }
      let vw := rs.flatMap fun x => (List.range 9).map fun j => (eD o + j, x.1, wordAt x.2 j)
      ((s.countOp { s.rayOp .spawn 0x54 o 9 em with vwrites := vw, swrites := [(eSb o, BitVec.ofNat 32 n)] }).spawnDrain k).advance 3
/-- SPAWN_PUSH (R374): waiting records take entries; the operation completes once every lane is decided. -/
def execSpawnPush (group op : Nat) (s : State) : Host.Outcome State Fault Refusal :=
  .next <|
    match s.findOp group op with
    | none => s
    | some p =>
      if p.kind != .spawn then s else
        let s := s.spawnDrain (s.grp group).who.cluster
        match s.findOp group op with
        | some p => if p.laneArgs.isEmpty then s.updG group fun g => g.finish p else s
        | none => s

end Sys2Proof.Machine
end

