-- ==== Sys2Proof/Machine/Fabric.lean ====
section
/-!
DEFINITION. What crosses the fabric: inbound RDMA operations and Jarian atomics (R411, R421 to R425), and the ends of the window
requests of this module (R420, R423).
-/

namespace Sys2Proof.Machine

/-! ## Inbound operations (R411, R423) -/

/-- The eight words of an inbound-error record (R419). -/
def InboundError.words (e : InboundError) : List Word :=
  (List.range 4).map (fun i => e.src.extractLsb' (32 * i) 32) ++
    [BitVec.ofNat 32 e.q, e.addr.extractLsb' 0 32, e.addr.extractLsb' 32 32, BitVec.ofNat 32 e.kind]
/-- A refused inbound operation: the device log of 64 entries, then event kind 3 (R423). -/
def State.refuseInbound (s : State) (q : Nat) (src : BitVec 128) (addr : BitVec 64) (kind : Nat) : State :=
  let e : InboundError := { src := src, q := q, addr := addr, kind := kind }
  let s := s.updDev fun d => { d with inbound := let l := d.inbound ++ [e]; l.drop (l.length - 64) }
  match (s.qp q).ctx with
  | some c => s.ctxEvent c 3 e.words
  | none => s.event s.deviceQueue 0xFFFFFFFF 3 e.words
/-- What a remote key opens. -/
inductive RdmaKey where
  | va (c : Nat)
  | ws (c : Nat)
  | bad
deriving DecidableEq, Repr, Inhabited
/-- The context of a window queue pair whose memory is still mapped. -/
def State.windowCtx (s : State) (q : Nat) : Option Nat :=
  let x := s.qp q
  if s.up && x.used && x.kind == .window then
    x.ctx.bind fun c => match (s.ctx c).st with | .running | .failed _ => some c | _ => none
  else none
def State.rdmaKey (s : State) (q : Nat) (key : Word) : RdmaKey :=
  match s.windowCtx q with
  | none => .bad
  | some c => if key = (s.ctx c).rkva then .va c else if key = (s.ctx c).rkws then .ws c else .bad
/-- Checking a range of a context's addresses, faults served; the kind of a refusal: 0 not mapped, 1 permission. Frames exhausted fail the
context (R388). -/
def State.inboundRange (s : State) (c va n : Nat) (wants : List Want) : State × Option Nat :=
  if 2 ^ 56 < va + n then (s, some 0)
  else (linePieces va n).foldl (fun (a : State × Option Nat) p =>
    wants.foldl (fun (a : State × Option Nat) want =>
      match a with
      | (s, some k) => (s, some k)
      | (s, none) =>
        match s.xlateIn c p.1 want (pageRange va n) with
        | .got _ s => (s, none)
        | .exhausted => (s.exhaust c p.1, some 1)
        | _ =>
          (s, some (if (s.ctx c).maps.any fun m => decide (m.va ≤ p.1) && decide (p.1 < m.va + m.len) then 1 else 0))) a) (s, none)
/-- An 8- or 4-byte atomic at the home slice for a remote initiator: the old value, or the kind of the refusal (R411, R421). -/
def State.inboundAtomic (s : State) (c va w : Nat) (f : Nat → Nat) : State × Except Nat Nat :=
  match s.inboundRange c va w [.r, .w] with
  | (s, some k) => (s, .error k)
  | (s, none) =>
    match s.readHomeVA c va w .r with
    | some (s, b, false) => (((s.writeHomeVA c va (leBytes w (f (leNat b)))).getD s).homeAtomic, .ok (leNat b))
    | some (s, _, true) => (s, .error 3)
    | none => (s, .error 0)
/-- What arrives at a port that is not up changes nothing (R426, R436). -/
def State.arrives (s : State) (f : State → State) : Host.Outcome State Fault Refusal := .next (if s.up then f s else s)
/-- The context for whose reserve an operation that has arrived on a window queue pair waits (R387, R411). -/
def State.inboundWaits (s : State) (q : Nat) : Option Nat := (s.windowCtx q).filter s.mustWait
/-- An event from outside waits for a context's reserve. -/
def State.holdBack (s : State) (q c : Nat) (i : Instr) : State :=
  s.updDev fun d => { d with waits := d.waits ++ [{ q := q, cmd := [], what := .frames c i }] }
/-- An operation on a window queue pair: it waits behind those that wait for its context's reserve, as its own page fault might (R387). -/
def State.inbound (s : State) (q : Nat) (i : Instr) (f : State → State) : Host.Outcome State Fault Refusal :=
  s.arrives fun s => match s.inboundWaits q with | some c => s.holdBack q c i | none => f s
/-- Bytes written into the weight store; a whole sector clears its poison. -/
def State.wsWrite (s : State) (a : Nat) (data : List Byte) : State :=
  let whole (x : Nat) : Bool := decide (a ≤ x * 64) && decide (x * 64 + 64 ≤ a + data.length)
  ({ s with ws := setBs s.ws a data } : State).updDev fun d => { d with wsPoison := d.wsPoison.filter fun x => !whole x }
/-- RDMA_WRITE (R411, R425): nothing is written where any line of the operation is refused (log 21). -/
def execRdmaWrite (q : Nat) (key : Word) (src : BitVec 128) (addr : BitVec 64) (data : List Byte) (s : State) :
    Host.Outcome State Fault Refusal :=
  s.inbound q (.rdmaWrite q key src addr data) fun s =>
    let a := addr.toNat
    let nak (s : State) (k : Nat) : State := (s.refuseInbound q src addr k).send (.rdmaNak q true)
    match s.rdmaKey q key with
    | .bad => nak s 4
    | .va c =>
      (match s.inboundRange c a data.length [.w] with
       | (s, some k) => nak s k
       | (s, none) => ((s.writeHomeVA c a data).getD s).send (.rdmaAck q))
    | .ws c =>
      if ((s.ctx c).grantGap a data.length).isSome then nak s 0
      else if !s.dev.wsLoad then nak s 2
      else
        (s.wsWrite a data).send (.rdmaAck q)
/-- RDMA_READ (R411): the weight store is not read this way in either mode (R425). -/
def execRdmaRead (q : Nat) (key : Word) (src : BitVec 128) (addr : BitVec 64) (len : Nat) (s : State) :
    Host.Outcome State Fault Refusal :=
  s.inbound q (.rdmaRead q key src addr len) fun s =>
    let a := addr.toNat
    let nak (s : State) (k : Nat) : State := (s.refuseInbound q src addr k).send (.rdmaNak q true)
    match s.rdmaKey q key with
    | .bad => nak s 4
    | .ws _ => nak s 2
    | .va c =>
      match s.inboundRange c a len [.r] with
      | (s, some k) => nak s k
      | (s, none) =>
        match s.readHomeVA c a len .r with
        | some (s, b, false) => s.send (.rdmaData q b)
        | some (s, _, true) => nak s 3
        | none => nak s 0
/-- The 8-byte atomics of RoCEv2. -/
def State.rdmaAtomic (s : State) (q : Nat) (key : Word) (src : BitVec 128) (addr : BitVec 64) (f : Nat → Nat) : State :=
  let nak (s : State) (k : Nat) : State := (s.refuseInbound q src addr k).send (.rdmaNak q true)
  if addr.toNat % 8 ≠ 0 then s.send (.rdmaNak q false)
  else match s.rdmaKey q key with
    | .bad => nak s 4
    | .ws _ => nak s 2
    | .va c =>
      match s.inboundAtomic c addr.toNat 8 f with
      | (s, .ok x) => s.send (.rdmaOld q (BitVec.ofNat 64 x))
      | (s, .error k) => nak s k
/-- RDMA_COMPARE_AND_SWAP (R411). -/
def execRdmaCompareAndSwap (q : Nat) (key : Word) (src : BitVec 128) (addr compare swap : BitVec 64) (s : State) :
    Host.Outcome State Fault Refusal :=
  s.inbound q (.rdmaCompareAndSwap q key src addr compare swap) fun s => (s.rdmaAtomic q key src addr fun x => if x = compare.toNat then swap.toNat else x)
/-- RDMA_FETCH_AND_ADD (R411). -/
def execRdmaFetchAndAdd (q : Nat) (key : Word) (src : BitVec 128) (addr operand : BitVec 64) (s : State) :
    Host.Outcome State Fault Refusal :=
  s.inbound q (.rdmaFetchAndAdd q key src addr operand) fun s => (s.rdmaAtomic q key src addr fun x => (x + operand.toNat) % 2 ^ 64)

/-! ## Jarian atomic messages (R421) -/

/-- The little-endian number of n bytes at an offset of a payload. -/
def leAt (b : List Byte) (o n : Nat) : Nat := leNat ((b.drop o).take n)
/-- Whether a request is well formed. -/
def jarianOk (b : List Byte) : Bool :=
  let w := leAt b 8 4
  let sub := field w 7 4
  let width := field w 2 0
  b.length == 40 && leAt b 0 4 == 0x01014A41 && field w 31 8 == 0 && !nbit w 3 && atomOk sub width && leAt b 12 4 == 0 &&
    (sub == 0xA || leAt b 32 8 == 0) && decide (leAt b 16 8 % 2 ^ width = 0)
/-- JARIAN_ATOMIC_REQUEST (R421): checked as an access with RKVA, performed at the home slice, answered with the old value, and with the compare value of a `.cas`. -/
def execJarianAtomicRequest (q : Nat) (src : BitVec 128) (payload : List Byte) (s : State) : Host.Outcome State Fault Refusal :=
  s.inbound q (.jarianAtomicRequest q src payload) fun s =>
    let w := leAt payload 8 4
    let sub := field w 7 4
    let width := field w 2 0
    let addr := leAt payload 16 8
    let answer (s : State) (status old : Nat) : State :=
      s.send (.jarian q (jarianWords true (leAt payload 4 4) sub width status addr old (if sub = 0xA then leAt payload 32 8 else 0)))
    if !jarianOk payload then answer s 1 0
    else match s.windowCtx q with
      | none => answer (s.refuseInbound q src (BitVec.ofNat 64 addr) 4) 2 0
      | some c =>
        let n := 2 ^ width
        let lane : LaneReq := { lane := 0, va := addr, data := leAt payload 24 n, cmp := leAt payload 32 n }
        match s.inboundAtomic c addr n fun x => (atomLanes sub (8 * n) x [lane]).new with
        | (s, .ok x) => answer s 0 x
        | (s, .error k) => answer (s.refuseInbound q src (BitVec.ofNat 64 addr) k) 2 0

/-! ## The ends of window requests (R420, R423) -/

/-- A request in flight by number. -/
def State.winReq? (s : State) (id : Nat) : Option WinReq := s.winReqs.find? fun q => q.id == id && q.failed.isNone
def State.dropReq (s : State) (id : Nat) : State := { s with winReqs := s.winReqs.filter fun q => q.id != id }
/-- What the lanes of a request get: loads their bytes in ascending lane order, atomics the old value as each lane sees it. -/
def WinReq.rets (q : WinReq) (data : List Byte) : List (Nat × Nat) :=
  match q.acc.kind with
  | .load => q.acc.lanes.zipIdx.map fun x => (x.1.lane, leAt data (x.2 * q.acc.width) q.acc.width)
  | .store => []
  | .atom sub => (atomLanes sub (8 * q.acc.width) (leAt data 0 q.acc.width) q.acc.lanes).rets
/-- The flags of a float atomic: folding, the step at the slice, and the reconstruction of the lanes' values (R220). -/
def WinReq.atomFlags (q : WinReq) (data : List Byte) : Fl :=
  match q.acc.kind with
  | .atom sub => if atomIsFloat sub then (atomLanes sub (8 * q.acc.width) (leAt data 0 q.acc.width) q.acc.lanes).fl else 0
  | _ => 0
/-- A counted operation learns that one of its requests is acknowledged; with the last it completes, or goes on as a texture operation where it
has read the weight store too (R227). -/
def Group.ackOp (g : Group) (op : PendOp) (q : WinReq) (data : List Byte) : Group :=
  let left := match op.kind with | .window l => l.filter (· != q.id) | _ => []
  let rets := q.rets data
  let op := { op with kind := .window left, vwrites := op.vwrites ++ q.acc.vwrites rets, swrites := op.swrites ++ q.acc.swrites rets,
                      flags := op.flags ||| q.atomFlags data }
  let op := if left.isEmpty then { op with kind := .texture } else op
  if left.isEmpty && !(op.acc.any fun a => a.rkind == 6) then g.finish op else { g with ops := g.ops.map fun x => if x.id = op.id then op else x }
/-- The acknowledgement of a request. -/
def State.acknowledge (s : State) (q : WinReq) (data : List Byte) : State :=
  match q.use with
  | .lanes id =>
    (match s.findOp q.group id with
     | some op => (s.dropReq q.id).updG q.group fun g => g.ackOp op q data
     | none => s.dropReq q.id)
  | .await i =>
    let who : SplitRef := { group := q.group, split := i }
    let s := s.dropReq q.id
    (match s.resident who, (s.spl who).wait with
     | .wait, .swaitg kind va t _ scope sd cf =>
       let v : Word := BitVec.ofNat 32 (leAt data 0 4)
       if kind = q.acc.rkind ∧ va = (q.acc.lanes.headD default).va ∧ reached v t = true then s.as who fun s => s.waitDone scope sd cf v else s
     | _, _ => s)
  | .copy k order => (s.dropReq q.id).copyAcknowledged k order q data
  | .ray lane => (s.rayArrived q lane data).dropReq q.id
/-- WINDOW_ACKNOWLEDGEMENT (R420): a late one is discarded (R423). -/
def execWindowAcknowledgement (request : Nat) (data : List Byte) (s : State) : Host.Outcome State Fault Refusal :=
  .next <| match s.winReq? request with | some q => s.acknowledge q data | none => s
/-- The split that a failed access of lanes belongs to. -/
def Group.failTarget (g : Group) (op : PendOp) (lane : Nat) : Nat :=
  (g.splits.findIdx? fun sp => sp.st != .free && inMask sp.mask lane).getD (op.holders.headD 0)
/-- Whether a split can take a precise cause of a request now. -/
def State.canFail (s : State) (who : SplitRef) : Bool :=
  (s.grp who.group).live && !(s.grp who.group).trapElsewhere who.split && (s.spl who).st != .parked
/-- A failed access of lanes (R423): lanes acknowledged keep their effects, the rest form the replay mask, and the split traps at
the instruction. Of a group that has ended, nothing is left to trap (R384). -/
def State.failLanes (s : State) (q : WinReq) (op : PendOp) (cause : Nat) : State :=
  let lane := (lowestLane (reqMask q.acc.lanes)).getD 0
  let who : SplitRef := { group := q.group, split := (s.grp q.group).failTarget op lane }
  if !(s.grp q.group).live then (s.dropReq q.id).updG q.group fun g => g.finish op
  else if !s.canFail who then { s with winReqs := s.winReqs.map fun x => if x.id = q.id then { x with failed := some cause } else x }
  else
    let mine (x : WinReq) : Bool := x.group == q.group && x.use == .lanes op.id
    let rest := reqMask ((s.winReqs.filter mine).flatMap fun x => x.acc.lanes)
    let va := ((q.acc.lanes.find? fun r => r.lane == lane).getD default).va
    let s := { s with winReqs := s.winReqs.filter fun x => !mine x }
    let s := s.updG q.group fun g => g.finish op
    s.takeTrap who
      { code := cause, info := 0, mask := if q.acc.scalar then (s.spl who).mask else rest, addr := BitVec.ofNat 56 va, pc := op.pc,
        async := false, replay := if q.acc.scalar then none else some rest, resume := none }
/-- A failed read of SWAITG's word traps at the SWAITG that sent it. -/
def State.failAwait (s : State) (q : WinReq) (i cause : Nat) : State :=
  let who : SplitRef := { group := q.group, split := i }
  let va := (q.acc.lanes.headD default).va
  match s.resident who, (s.spl who).wait with
  | .wait, .swaitg kind at' _ _ _ _ _ =>
    if kind ≠ q.acc.rkind ∨ at' ≠ va then s.dropReq q.id
    else if !s.canFail who then { s with winReqs := s.winReqs.map fun x => if x.id = q.id then { x with failed := some cause } else x }
    else (s.dropReq q.id).as who fun s => s.trapAddr cause va
  | _, _ => s.dropReq q.id
/-- A window request fails with a cause. -/
def State.failReq (s : State) (q : WinReq) (cause : Nat) : State :=
  let va := (q.acc.lanes.headD default).va
  match q.use with
  | .lanes id => (match s.findOp q.group id with | some op => s.failLanes q op cause | none => s.dropReq q.id)
  | .await i => s.failAwait q i cause
  | .copy k order =>
    (match (s.cl k).copyq.find? fun m => m.order == order with
     | some m => (s.dropReq q.id).copyFail k m (cause, va)
     | none => s.dropReq q.id)
  | .ray lane =>
    let g := s.grp q.group
    (match g.ops.find? fun op => op.kind == .ray && op.id == (g.ray lane).op with
     | some op => (s.dropReq q.id).rayFault q.group lane (wordAt op.args 0).toNat (g.ray lane).failedFetch op (cause, va)
     | none => s.dropReq q.id)
/-- Failing a request by number; one whose trap waited fails with the cause it has. -/
def State.failById (s : State) (id cause : Nat) : State :=
  match s.winReqs.find? fun q => q.id == id with
  | some q => s.failReq q (q.failed.getD cause)
  | none => s
/-- REMOTE_TIMEOUT (R423): once the remote timeout has passed since the request was sent. -/
def execRemoteTimeout (request : Nat) (s : State) : Host.Outcome State Fault Refusal :=
  .next <|
    match s.winReqs.find? fun q => q.id == request with
    | some q => if q.failed.isSome || decide (q.sent + 100 * s.dev.remoteTimeout ≤ s.dev.tick) then s.failById request 0x19 else s
    | none => s
/-- REMOTE_FAULT (R423). -/
def execRemoteFault (request : Nat) (s : State) : Host.Outcome State Fault Refusal := .next (s.failById request 0x18)
/-- JARIAN_ATOMIC_RESPONSE (R421): it acknowledges the request whose TAG it carries, or reports its refusal. -/
def execJarianAtomicResponse (q : Nat) (payload : List Byte) (s : State) : Host.Outcome State Fault Refusal :=
  .next <|
    if payload.length ≠ 40 ∨ leAt payload 0 4 ≠ 0x81014A41 then s
    else match s.winReqs.find? fun x => x.q == q && x.id % 2 ^ 32 == leAt payload 4 4 && x.acc.kind.isAtom && x.failed.isNone with
      | some x => if leAt payload 12 4 = 0 then s.acknowledge x ((payload.drop 24).take 8) else s.failReq x 0x18
      | none => s

end Sys2Proof.Machine
end

