-- ==== Sys2Proof/Machine/Launch.lean ====
section
/-!
DEFINITION. Launch records and kernel descriptors (R170 to R176), LAUNCH (R202), bind records (R183, R184), block start (R185,
R186, R25, R26), the distributor (R179, R180), and the completion of a launch (R175).
-/

namespace Sys2Proof.Machine

/-! ## Records (R170 to R176) -/

def LaunchRec.level (r : LaunchRec) (dom : Nat) : Option Level := r.levels.find? fun l => l.dom == dom
/-- The extent of a domain; an absent one has 1 (R173). -/
def LaunchRec.ext (r : LaunchRec) (dom : Nat) : Nat := match r.level dom with | some l => l.extent | none => 1
/-- The number of blocks (R176). -/
def LaunchRec.blocks (r : LaunchRec) : Nat := r.ext 1 * r.ext 2 * r.ext 3
/-- The level table of a record. -/
def levelsOf (w : List Word) (n : Nat) : List Level :=
  (List.range n).map fun k =>
    let e := wordAt w (17 + 2 * k)
    { extent := (wordAt w (16 + 2 * k)).toNat, scope := wfield e 6 4, dom := wfield e 2 0 }
/-- The fields of a record with its descriptor. -/
def recordOf (w d : List Word) (desc fidx : Nat) : LaunchRec :=
  let w2 := wordAt w 2
  { entry := (desc + 64) % 2 ^ 56, regblk := (wordAt d 1).truncate 16, scratch := wfield (wordAt d 2) 21 0,
    segwl := wfield (wordAt d 3) 18 16, prio := wfield w2 31 28, viewset := wfield w2 27 26,
    args := (w.drop 32).take (wfield w2 15 8), seed := wordAt w 3,
    comp := (wordAt w 4).toNat + 2 ^ 32 * wfield (wordAt w 5) 23 0, rbudget := (wordAt w 6).toNat, stripdl := wordAt w 7,
    niter := (wordAt w 8).toNat, itpt := (wordAt w 9).toNat,
    spill := max (wfield (wordAt w 10) 12 0) (wfield (wordAt d 3) 12 0), tmask := (wordAt w 11).truncate 8,
    rqueue := (wordAt w 11).getLsbD 8, levels := levelsOf w (wfield w2 3 0), fidx := fidx }
/-- The descriptor's address in a record. -/
def recordDesc (w : List Word) : Nat := (wordAt w 0).toNat + 2 ^ 32 * wfield (wordAt w 1) 23 0
/-- The descriptor part of check 1. -/
def descOk (desc : Nat) (d : List Word) : Bool :=
  decide (desc % 64 = 0) && d.length == 16 && wordAt d 0 == 1 && wfield (wordAt d 1) 31 16 == 0 && wfield (wordAt d 2) 31 22 == 0 &&
    wfield (wordAt d 3) 31 19 == 0 && wfield (wordAt d 3) 15 13 == 0 && (d.drop 4).all (· == 0) &&
    wfield (wordAt d 2) 21 0 % 4096 == 0 && decide (wfield (wordAt d 2) 21 0 ≤ 3 * 2 ^ 20) && decide (wfield (wordAt d 3) 18 16 ≤ 5) &&
    decide (wfield (wordAt d 3) 12 0 ≤ 4096)
/-- Check 2: reserved fields and ranges. -/
def recordOk (w : List Word) : Bool :=
  let w2 := wordAt w 2
  let nlev := wfield w2 3 0
  let comp := (wordAt w 4).toNat + 2 ^ 32 * wfield (wordAt w 5) 23 0
  wfield (wordAt w 1) 31 24 == 0 && wfield w2 25 16 == 0 && wfield w2 7 4 == 0 && decide (1 ≤ nlev ∧ nlev ≤ 8) &&
    decide (wfield w2 15 8 ≤ 64) && wfield (wordAt w 5) 31 24 == 0 && wfield (wordAt w 10) 31 13 == 0 &&
    decide (wfield (wordAt w 10) 12 0 ≤ 4096) && wfield (wordAt w 11) 31 9 == 0 && ((w.drop 12).take 4).all (· == 0) &&
    decide (comp % 4 = 0) &&
    (List.range nlev).all fun k => wfield (wordAt w (17 + 2 * k)) 31 7 == 0 && !(wordAt w (17 + 2 * k)).getLsbD 3
/-- The lowest scope of each domain (R173). -/
def lowestScope (dom : Nat) : Nat := match dom with | 0 => 5 | 1 | 2 => 4 | 3 | 4 => 3 | 5 => 2 | 6 => 1 | _ => 0
/-- The extents that a domain admits. -/
def extentOk (r : LaunchRec) (views : Nat) (l : Level) : Bool :=
  decide (1 ≤ l.extent) &&
    match l.dom with
    | 0 => decide (l.extent ≤ 8)
    | 2 => decide (l.extent ≤ views)
    | 4 => decide (l.extent ≤ 3)
    | 5 => decide (l.extent ≤ 64)
    | 6 => [1, 2, 4, 8, 16].contains l.extent
    | 7 => decide (l.extent * r.ext 6 ≤ 32)
    | _ => true
/-- Consecutive levels: domains rise, scopes do not widen. -/
def levelsOrdered : List Level → Bool
  | a :: b :: t => decide (a.dom < b.dom) && decide (b.scope ≤ a.scope) && levelsOrdered (b :: t)
  | _ => true
/-- Check 3: the levels against R173, the VIEW level against the named set. -/
def State.levelsOk (s : State) (c : Nat) (r : LaunchRec) : Bool :=
  let set := s.set r.viewset
  levelsOrdered r.levels && (r.level 3).isSome && (r.level 5).isSome && (r.level 7).isSome &&
    ((r.level 2).isNone || set.ctx == some c) &&
    r.levels.all fun l => decide (l.scope ≤ 6) && decide (lowestScope l.dom ≤ l.scope) && extentOk r set.views.length l
/-- The first check of R176 that fails, for a record whose words have been read. `parent` is the generation of the launching
group, none for the host. -/
def State.recordFails (s : State) (c : Nat) (w d : List Word) (desc : Nat) (parent : Option Nat) : Option Nat :=
  let r := recordOf w d desc 0
  if !descOk desc d then some 1
  else if !recordOk w then some 2
  else if !s.levelsOk c r then some 3
  else if 2 ^ 32 ≤ r.blocks then some 4
  else if r.segwl ≠ 0 ∧ (r.level 6).isSome = true ∧ 2 ^ r.segwl ≠ 32 / r.ext 6 then some 5
  else if 32 < ceilDiv (r.ext 5) 8 * popN 16 r.regblk.toNat then some 6
  else match parent with
    | none => none
    | some g => if (r.level 0).isSome = true ∨ 6 < g then some 7 else none
/-- Checking a record of words (R176): the descriptor is read with execute permission. -/
def State.checkRecord (s : State) (c : Nat) (w : List Word) (parent : Option Nat) (fidx : Nat) : Xl (Except Nat LaunchRec) :=
  let desc := recordDesc w
  let judge (s : State) (d : List Word) : Xl (Except Nat LaunchRec) :=
    .got (match s.recordFails c w d desc parent with | some k => .error k | none => .ok (recordOf w d desc fidx)) s
  match s.readXl c desc 64 .x with
  | .got x s => judge s (if x.2 then [] else wordsOf x.1)
  | .refused => judge s []
  | .wait => .wait
  | .exhausted => .exhausted
/-- Bytes of a record, or the failure of check 1 where a line is refused or poisoned. -/
def State.recordBytes (s : State) (c va n : Nat) : Xl (Option (List Byte)) :=
  match s.readXl c va n .r with
  | .got x s => .got (if x.2 then none else some x.1) s
  | .refused => .got none s
  | .wait => .wait
  | .exhausted => .exhausted
/-- Reading a record from memory and checking it. -/
def State.readRecord (s : State) (c va : Nat) (parent : Option Nat) (fidx : Nat) : Xl (Except Nat LaunchRec) :=
  if va % 64 ≠ 0 then .got (.error 1) s
  else (s.recordBytes c va 128).andThen fun x s =>
    match x with
    | none => .got (.error 1) s
    | some b => (s.recordBytes c (va + 128) (4 * wfield (wordAt (wordsOf b) 2) 15 8)).andThen fun y s =>
      match y with
      | none => .got (.error 1) s
      | some b2 => s.checkRecord c (wordsOf (b ++ b2)) parent fidx

/-! ## LAUNCH (R202) -/

/-- A release at `.dev` of all dirty bytes of the issuing core, bound or not (R272), with the lines of the context that could not be
written. -/
def State.releaseAll (s : State) (core c : Nat) : State × List Nat :=
  let (s1, f1) := s.wbL1 core (fun _ => true) true
  let (s2, f2) := s1.wbCC (core / 4) fun _ => true
  (s2, (f1 ++ f2).filter fun k => keyCtx k == c)
/-- LAUNCH (R202). -/
def execLaunch (o : S64) (s : State) : Host.Outcome State Fault Refusal :=
  issue (.s64 0x3E o) s fun s =>
    if !(s.spl s.cur).memIdle then s.hold
    else
      let g := s.grp s.cur.group
      let (s, failed) := s.releaseAll g.coreIx g.who.ctx
      if !failed.isEmpty then s.parkRelease failed
      else
        let va := s.addrAt o.sa.toNat
        s.onGot (s.readRecord g.who.ctx va (some g.who.gen) 0) va fun r s =>
        match r with
        | .error _ => s.trapNow 0x1D
        | .ok r =>
          if 4 ≤ g.queue.length then (if nbit o.aux.toNat 0 then s.result64 o.sd.toNat o.cf 0 else s.hold)
          else
            let (n, s) := s.newId
            (s.updG s.cur.group fun g => { g with queue := g.queue ++ [(r, va, n)] }).result64 o.sd.toNat o.cf 1

/-- A new launch of a context. -/
def State.addLaunch (s : State) (c : Nat) (r : LaunchRec) (addr gen : Nat) (st : LaunchState) (parent : Option Nat) : State :=
  s.updC c fun x =>
    { x with nextLaunch := x.nextLaunch + 1,
             launches := x.launches ++ [{ id := x.nextLaunch, gen := gen, rc := r, recAddr := addr, state := st, started := 0,
                                          completed := 0, compFail := false, parent := parent }] }
/-- The order number of a group's oldest pending launch. -/
def Group.queueHead (g : Group) : Option Nat := g.queue.head?.map fun e => e.2.2
/-- LAUNCH_TAKE (R181): the oldest entry of all queues is taken first. -/
def execLaunchTake (group : Nat) (s : State) : Host.Outcome State Fault Refusal :=
  .next <|
    let g := s.grp group
    match g.queue with
    | [] => s
    | (r, va, n) :: t =>
      if s.groups.any fun h => (match h.queueHead with | some m => decide (m < n) | none => false) then s
      else
        let s := s.updG group fun g => { g with queue := t, taken := g.taken + 1 }
        if (s.ctx g.who.ctx).st == .running then s.addLaunch g.who.ctx r va (g.who.gen + 1) .queued (some group) else s

/-! ## Bind records (R183, R184, R457) -/

def State.launch? (s : State) (c id : Nat) : Option Launch := (s.ctx c).launches.find? fun l => l.id == id
/-- Whether a core's table holds a part of a block. -/
def CoreSt.holdsPart (k : CoreSt) (c launch block : Nat) : Bool :=
  k.slots.any fun e => e.st != .empty && e.bind.launch == launch && e.bind.block == block && k.ctxs.getD e.bind.cslot none == some c
/-- Whether Clove-S may bind a record in a core's table: the context slot is the context's or empty, the part fits the launch, and no other
part of the block lies on the core (R177, R457). -/
def State.bindable (s : State) (core c : Nat) (b : BindRecord) : Bool :=
  let k := s.core core
  !k.holdsPart c b.launch b.block && (s.ctx c).st == .running && decide (b.cslot < 3) && !(s.cl (core / 4)).fenced &&
    (match k.ctxs.getD b.cslot none with
     | some c' => c' == c || k.slots.all fun e => e.st == .empty || e.bind.cslot != b.cslot
     | none => !(k.ctxs.contains (some c))) &&
    match s.launch? c b.launch with
    | none => false
    | some l =>
      decide (b.block < l.rc.blocks) && decide (l.started ≤ b.block) && decide (b.cpos < l.rc.ext 4) && b.ngrp == l.rc.ext 5 &&
        decide (l.rc.scratch ≤ b.scrLen * 4096)
/-- BIND_RECORD (R184): into an EMPTY entry, or a DONE entry cleared. -/
def execBindRecord (core entry ctx : Nat) (record : Option BindRecord) (s : State) : Host.Outcome State Fault Refusal :=
  .next <|
    let e := (s.core core).slots.getD entry default
    match record with
    | none => if e.st == .done then s.updCore core fun k => { k with slots := k.slots.set entry { e with st := .empty } } else s
    | some b =>
      if e.st == .empty && s.bindable core ctx b then
        let (n, s) := s.newId
        s.updCore core fun k =>
          { k with slots := k.slots.set entry { st := .bound, bind := b, order := n },
                   ctxs := k.ctxs.set b.cslot (some ctx),
                   slotSt := k.slotSt.set b.cslot (if k.slotSt.getD b.cslot 0 = 3 then 3 else 1) }
      else s

/-! ## The distributor (R179, R180) -/

def itBeg (n blocks b : Nat) : Nat := b * n / blocks
/-- ITFIX of block b. -/
def itFix (n p blocks b : Nat) : Word :=
  let beg := itBeg n blocks b
  let fin := itBeg n blocks (b + 1)
  if p = 0 ∨ beg = fin then 0 else
    let t := beg / p * p
    let prior := if n < blocks then beg - t else b - (ceilDiv ((t + 1) * blocks) n - 1)
    BitVec.ofNat 32 (min prior 0xFFFF * 256 + (decide (fin % p ≠ 0 ∧ fin < n)).toNat * 2 + (decide (beg % p ≠ 0)).toNat)

/-! ## Block start (R177, R185, R186) -/

/-- A part of a block in a slot table: the core and the table entry. -/
structure Part where
  core : Nat
  entry : Nat
  bind : BindRecord
  order : Nat
deriving DecidableEq, Repr, Inhabited
/-- The BOUND parts of a block. -/
def State.boundParts (s : State) (c launch block : Nat) : List Part :=
  (List.range s.cores.length).flatMap fun core =>
    let k := s.core core
    (List.range k.slots.length).filterMap fun i =>
      let e := k.slots.getD i default
      if e.st == .bound && e.bind.launch == launch && e.bind.block == block && k.ctxs.getD e.bind.cslot none == some c then
        some { core := core, entry := i, bind := e.bind, order := e.order } else none
/-- The group slots in use on a core. -/
def State.slotsUsed (s : State) (core : Nat) : List Nat :=
  s.groups.filterMap fun g => if g.live? && g.coreIx == core then some g.who.gslot else none
/-- The group slot of group g of a part: the (g / 8)-th named slot of its partition. -/
def groupSlot (slots : BitVec 64) (g : Nat) : Option Nat :=
  ((List.range 64).filter fun n => slots.getLsbD n && decide (n % 8 = g % 8))[g / 8]?
/-- Whether a tile is the context's, free, or may be taken back from its owner (R186). -/
def State.tileFree (s : State) (c k t : Nat) : Bool :=
  match ((s.cl k).tiles.getD t default).owner with
  | none => true
  | some o =>
    o == c ||
      !((s.blocks.any fun b => b.live && b.ctx == o && b.cluster == k &&
            (match s.launch? o b.launch with | some l => l.rc.tmask.getLsbD t | none => false)) ||
        (s.cl k).matq.any (fun m => m.tile == t) || ((s.cl k).copyq ++ (s.cl k).ports).any (fun m => m.opcode == 0x31 && m.tile == t) || (s.cl k).offers.any (fun m => m.tile == t) ||
        s.groups.any fun g => g.live && g.who.ctx == o && g.who.cluster == k && g.ops.any fun p => p.kind == .raster)
/-- The same for the spawn queue. -/
def State.spawnFree (s : State) (c k : Nat) : Bool :=
  match (s.cl k).spawnOwner with
  | none => true
  | some o =>
    o == c ||
      !((s.blocks.any fun b => b.live && b.ctx == o && b.cluster == k &&
            (match s.launch? o b.launch with | some l => l.rc.rqueue | none => false)) || !(s.cl k).spawn.isEmpty)
/-- Whether no resident block holds any part of a scratchpad range of a cluster, and the range lies in the carve-out. -/
def State.scratchFree (s : State) (k off len : Nat) : Bool :=
  len == 0 || decide ((off + len) * 4096 ≤ scratchUnits (s.cl k) * 524288) &&
    !(s.blocks.any fun b =>
      b.live && !b.saved && b.cluster == k && b.scrLen != 0 && decide (b.scrOff < off + len) && decide (off < b.scrOff + b.scrLen))
/-- Whether a part's group slots are free and enough registers are (R185). -/
def State.partFree (s : State) (r : LaunchRec) (p : Part) : Bool :=
  let used := s.slotsUsed p.core
  let n := r.ext 5
  (List.range n).all (fun g => match groupSlot p.bind.gslots g with | some x => !used.contains x | none => false) &&
    decide (popN 64 p.bind.gslots.toNat = n) &&
    (List.range 8).all fun q =>
      let need := ((List.range n).filter fun g => g % 8 == q).length * popN 16 r.regblk.toNat
      decide (need + (s.physUsed p.core q).length ≤ 32)
/-- Whether the launches that a context's groups made before a launch, of its priority, have started every block (R182, log 58). -/
def State.turnOf (s : State) (c : Nat) (l : Launch) : Bool :=
  l.parent.isNone || (s.ctx c).launches.all fun x =>
    !(decide (x.id < l.id) && x.parent.isSome && x.rc.prio == l.rc.prio && (x.state == .queued || x.state == .running)) ||
      decide (x.rc.blocks ≤ x.started)
/-- Frames for the spill area of a group (R156); that a block starts only when its groups' frames are free is the model's (log 59). -/
def LaunchRec.spillFrames (r : LaunchRec) : Nat := ceilDiv (r.spill * 192) pageBytes
/-- Whether a block could start but for the slew limiter (R185). -/
def State.readyToStart (s : State) (c launch block : Nat) : Bool :=
  match s.launch? c launch with
  | none => false
  | some l =>
    let r := l.rc
    let parts := s.boundParts c launch block
    match parts with
    | [] => false
    | h :: _ =>
      let k := h.core / 4
      (s.ctx c).st == .running && l.started == block && parts.length == r.ext 4 &&
        (List.range (r.ext 4)).all (fun p => parts.any fun x => x.bind.cpos == p) && parts.all (fun x => x.core / 4 == k) &&
        decide ((parts.map (·.core)).eraseDups.length = parts.length) && s.turnOf c l &&
        parts.all (fun x => x.bind.scrOff == h.bind.scrOff && x.bind.scrLen == h.bind.scrLen) &&
        parts.all (s.partFree r) && s.scratchFree k h.bind.scrOff h.bind.scrLen &&
        (List.range 8).all (fun t => !r.tmask.getLsbD t || s.tileFree c k t) && (!r.rqueue || s.spawnFree c k) &&
        decide (s.framesUsed + s.framesReserved + r.spillFrames * (r.ext 4 * r.ext 5) ≤ totalFrames)
/-- The blocks that are bound somewhere on a cluster. -/
def State.boundBlocks (s : State) (k : Nat) : List (Nat × Nat × Nat) :=
  ((List.range 4).flatMap fun j =>
    let core := s.core (4 * k + j)
    core.slots.filterMap fun e =>
      if e.st == .bound then (core.ctxs.getD e.bind.cslot none).map fun c => (c, e.bind.launch, e.bind.block) else none).eraseDups
/-- When the records of a block were all written: of blocks whose records are written in turns, the one whose last was written first is the
earlier (DEDUCED, log 58). -/
def State.bindOrder (s : State) (c launch block : Nat) : Nat := (s.boundParts c launch block).foldl (fun a p => max a p.order) 0
/-- Whether a block of a cluster is ready and none was written before it. -/
def State.startsNext (s : State) (k c launch block : Nat) : Bool :=
  s.readyToStart c launch block &&
    (s.boundBlocks k).all fun x =>
      !s.readyToStart x.1 x.2.1 x.2.2 || decide (s.bindOrder c launch block ≤ s.bindOrder x.1 x.2.1 x.2.2)

/-- IDX of a level of the record for a group (R174); per-lane levels are 0. -/
def LaunchRec.idx (r : LaunchRec) (block cpos gidx dom : Nat) : Nat :=
  match dom with
  | 0 => r.fidx
  | 1 => block / (r.ext 2 * r.ext 3)
  | 2 => block / r.ext 3 % r.ext 2
  | 3 => block % r.ext 3
  | 4 => cpos
  | 5 => gidx
  | _ => 0
/-- The launched lanes (R174). -/
def LaunchRec.lanes (r : LaunchRec) : Mask := maskOf fun l => decide (l % (32 / r.ext 6) < r.ext 7)
/-- The random state of a lane (R26). -/
def LaunchRec.rng (r : LaunchRec) (block cpos gidx l : Nat) : Word :=
  let w := 32 / r.ext 6
  let t := r.levels.foldl (fun t x =>
    t * x.extent + (if x.dom = 6 then l / w else if x.dom = 7 then l % w else r.idx block cpos gidx x.dom)) 0
  let st := r.seed ^^^ BitVec.ofNat 32 (0x9E3779B9 * (t + 1))
  if st = 0 then 1 else st
/-- SEGW at launch (R25, R174). -/
def LaunchRec.segw (r : LaunchRec) : Nat :=
  if (r.level 6).isSome then 32 / r.ext 6 else if r.segwl = 0 then 32 else 2 ^ r.segwl
/-- The registers of a new group. -/
def LaunchRec.regs (r : LaunchRec) (phys : List (Option Nat)) (block cpos gidx : Nat) : GroupRegs :=
  { phys := phys, v := [], p := List.replicate 8 0,
    s := (List.range r.args.length).foldl (fun m j => sset 0 m (32 + j) (wordAt r.args j)) [],
    segw := r.segw, rmode := 1, flags := 0, viewset := r.viewset, rng := (List.range 32).map (r.rng block cpos gidx),
    vpoison := [], spoison := [] }
/-- The launch values that a group reads. -/
def LaunchRec.lch (r : LaunchRec) (block cpos gidx : Nat) (frames : List (Nat × Nat)) : GroupLaunch :=
  let b := r.blocks
  { idx := r.levels.map fun l => r.idx block cpos gidx l.dom, ext := r.levels.map (·.extent), dom := r.levels.map (·.dom),
    scopes := r.levels.map (·.scope), stripdl := r.stripdl,
    itbeg := if r.niter = 0 then 0 else itBeg r.niter b block, itend := if r.niter = 0 then 0 else itBeg r.niter b (block + 1),
    itfix := if r.niter = 0 then 0 else itFix r.niter r.itpt b block, rbudget := if r.rbudget = 0 then 65536 else r.rbudget,
    spillCap := r.spill, spillFrames := frames }
def emptyTri : TriSlot :=
  { ready := false, xs := [], ys := [], area := 0, swapped := false, view := 0, strip := 0,
    warp := { bx1 := 0, bx2 := 0, by1 := 0, by2 := 0, codes := 0, w := 0, h := 0, sh := 0, stale := false } }
def emptyRay : RayCtx :=
  { st := .none, ray := [], flags := 0, bvh := [], spill := none, budget := 0, hit := none, cand := none, stack := [], spilled := 0,
    next := none, leaf := none, decision := 0, visits := 0, final := none, got := [], op := 0 }

/-- n frames, one at a time. -/
def State.takeSingles (s : State) : Nat → State × List (Nat × Nat)
  | 0 => (s, [])
  | n + 1 =>
    match s.takeFrames 1 false with
    | some (f, s) => let (s, l) := s.takeSingles n; (s, (f, 1) :: l)
    | none => (s, [])
/-- Adding a group of a part to the machine (R25). -/
def State.addGroup (s : State) (c : Nat) (l : Launch) (block : Nat) (p : Part) (gidx : Nat) : State :=
  let r := l.rc
  let (s, frames) := s.takeSingles r.spillFrames
  let used := s.physUsed p.core (gidx % 8)
  let free := (List.range 32).filter fun n => !used.contains n
  let phys := (List.range 16).map fun k => if r.regblk.getLsbD k then free[popN k r.regblk.toNat]? else none
  let cpos := p.bind.cpos
  let g : Group :=
    { live := true, saved := false,
      who := { ctx := c, launch := l.id, block := block, gid := cpos * r.ext 5 + gidx, cpos := cpos, gidx := gidx,
               cluster := p.core / 4, core := p.core % 4, gslot := (groupSlot p.bind.gslots gidx).getD 0,
               cslot := p.bind.cslot, prio := r.prio, gen := l.gen },
      regs := r.regs phys block cpos gidx, lch := r.lch block cpos gidx frames, exited := ~~~r.lanes,
      splits := { Split.empty with st := .ready, pc := BitVec.ofNat 56 r.entry, mask := r.lanes } :: List.replicate 3 Split.empty,
      deferred := [], seq := 0, queue := [], taken := 0, startedN := 0, tris := List.replicate 4 emptyTri,
      rays := List.replicate 32 emptyRay, captures := [], async := [], ops := [], moved := 0, listed := 0, freed := 0 }
  { s with groups := s.groups ++ [g] }
/-- The acquire with which every group of a launch starts (R272). At every scope of level 0 it reaches the cluster cache too, so that
the parent's writes are visible on every cluster (R202). -/
def State.startAcquire (s : State) (core c : Nat) : State :=
  let sel (k : Nat) : Bool := !keyIsWs k && keyCtx k == c
  (s.invL1 core sel).invCC (core / 4) sel
/-- Assigning the named tiles and spawn queue, cleared unless the context owns them (R186). -/
def Cluster.assign (k : Cluster) (c : Nat) (r : LaunchRec) : Cluster :=
  let k := { k with tiles := (List.range 8).map fun t =>
    let x := k.tiles.getD t default
    if r.tmask.getLsbD t && x.owner != some c then { Tile.reset with owner := some c } else x }
  if r.rqueue && k.spawnOwner != some c then { k with spawnOwner := some c, spawn := [] } else k
/-- Starting a block whose conditions hold (R177, R185). -/
def State.startBlock (s : State) (c : Nat) (l : Launch) (block : Nat) : State :=
  let parts := s.boundParts c l.id block
  let h := parts.headD default
  let k := h.core / 4
  let r := l.rc
  let ordered := (List.range (r.ext 4)).filterMap fun p => parts.find? fun x => x.bind.cpos == p
  let first := s.groups.length
  let n := r.ext 4 * r.ext 5
  let s := s.updCl k fun x => x.assign c r
  let s := ordered.foldl (fun s p => (List.range (r.ext 5)).foldl (fun s g => s.addGroup c l block p g) s) s
  let s := parts.foldl (fun s p => (s.updCore p.core fun x =>
    { x with slots := x.slots.modify p.entry fun e => { e with st := .running } }).startAcquire p.core c) s
  let b : Block :=
    { live := true, saved := false, ctx := c, launch := l.id, block := block, cluster := k, cores := ordered.map (·.core),
      scrOff := h.bind.scrOff, scrLen := h.bind.scrLen, scratch := r.scratch, ngroups := n,
      groups := (List.range n).map (first + ·), barriers := List.replicate 16 Barrier.reset, image := [], imagePoison := [], runs := [],
      why := .preempt, lastMove := none }
  let s := { s with blocks := s.blocks ++ [b] }
  let s := s.updLaunch c l.id fun x => { x with state := .running, started := x.started + 1 }
  match (if block = 0 then l.parent else none) with
  | some g => s.updG g fun g => { g with startedN := g.startedN + 1 }
  | none => s
/-- BLOCK_START (R185): nothing happens while a condition fails or the slew limiter has not admitted the cluster. -/
def execBlockStart (ctx launch block : Nat) (s : State) : Host.Outcome State Fault Refusal :=
  .next <|
    match s.launch? ctx launch, s.boundParts ctx launch block with
    | some l, h :: _ =>
      let k := h.core / 4
      if s.startsNext k ctx launch block && !(s.cl k).idle then s.startBlock ctx l block else s
    | _, _ => s

/-! ## Completion (R175) -/

/-- Adding 1 to the completion counter at the home slice; the cause of a failure. A poisoned counter is added to as it stands: R434 names no
read of Clove-M's among those that POISON ends (DEDUCED, log 17). Frames exhausted fail the context (R388). -/
def State.addCounter (s : State) (c va : Nat) : State × Option Nat :=
  if va % 4 ≠ 0 then (s, some 0x13)
  else match (s.readXl c va 4 .r).andThen fun x s => s.writeXl c va (leBytes 4 (leNat x.1 + 1)) with
    | .got _ s => (s.homeAtomic, none)
    | .exhausted => (s.exhaust c va, none)
    | _ => (s, some 0x11)
/-- LAUNCH_COMPLETION (R175): every block has left; the counter is incremented, or its failure is logged (R390). A counter's page fault that
must wait for the reserve delays it (R387). -/
def execLaunchCompletion (ctx launch : Nat) (s : State) : Host.Outcome State Fault Refusal :=
  .next <|
    match s.launch? ctx launch with
    | none => s
    | some l =>
      if l.state == .running && l.completed == l.rc.blocks && (s.ctx ctx).st == .running && !(l.rc.comp != 0 && s.mustWait ctx) then
        let s := s.updLaunch ctx launch fun x => { x with state := .complete }
        if l.rc.comp = 0 then s
        else match s.addCounter ctx l.rc.comp with
          | (s, none) => s
          | (s, some cause) =>
            (s.updLaunch ctx launch fun x => { x with compFail := true }).addLog ctx
              { seq := 0, kind := 6, cause := cause, core := 0, cluster := 0, group := 0, block := 0, mask := 0,
                addr := BitVec.ofNat 56 l.rc.comp, pc := 0 }
      else s

end Sys2Proof.Machine
end

