-- ==== Sys2Proof/Machine/Commands.lean ====
section
/-!
DEFINITION. Command messages of the host (R412 to R419, R425): their order and repeats, contexts, mappings, launches, view sets,
the weight store's mode, configuration, and the summary.
-/

namespace Sys2Proof

/-- Body word i of a command, and the number of body words. -/
def Cmd.w (c : Cmd) (i : Nat) : Word := Machine.wordAt c.body i
def Cmd.len (c : Cmd) : Nat := c.body.length
/-- A pair LO, HI as a 56-bit address. -/
def Cmd.addr (c : Cmd) (i : Nat) : Nat := (c.w i).toNat + 2 ^ 32 * Machine.wfield (c.w (i + 1)) 23 0
/-- A command about the device names no context. -/
def Cmd.device (c : Cmd) : Bool := c.ctx == 0xFFFFFFFF

end Sys2Proof

namespace Sys2Proof.Machine

/-! ## Messages (R412, R415) -/

/-- The words of a command message. -/
def cmdWords (op : Nat) (c : Cmd) : List Word :=
  [BitVec.ofNat 32 (op * 2 ^ 24 + 0x14A43), c.tag, c.ctx, BitVec.ofNat 32 (4 * c.body.length)] ++ c.body
/-- What performing a command answers: a status with the bodies of its messages, or nothing yet. -/
abbrev Answer := Option (Nat × List (List Word))
/-- A status alone. -/
def status (n : Nat) : Answer := some (n, [[]])
/-- Whether an earlier command of a queue pair is not yet answered. -/
def State.queueBusy (s : State) (q : Nat) : Bool :=
  (s.ctxs.any fun c => c.destroyReply.any fun r => r.1 == q) || (s.sets.any fun v => v.unbindReply.any fun r => r.1 == q) ||
    s.dev.waits.any fun w => w.q == q
def State.isCommandQueue (s : State) (q : Nat) : Bool := s.up && (s.qp q).used && (s.qp q).kind == .command
/-- The context of a command that reads or maps its memory, where it waits for the reserve (R387). -/
def State.commandWaits (s : State) (i : Instr) : Option Nat :=
  let of' (c : Cmd) : Option Nat := if !c.device && s.mustWait c.ctx.toNat then some c.ctx.toNat else none
  match i with
  | .submit c => of' c
  | .vset c => of' c
  | .xlate c => of' c
  | _ => none
/-- A command arrives: behind an unanswered one it waits; a repeat is answered from what is kept; else it is performed (R415), once a reserve that
it may need is free. -/
def State.command (s : State) (i : Instr) (op : Nat) (c : Cmd) (perform : State → State × Answer) : State :=
  let w := cmdWords op c
  if !s.isCommandQueue c.q then s
  else if s.queueBusy c.q then s.updQ c.q fun q => { q with waiting := q.waiting ++ [i] }
  else match (s.qp c.q).tags.find? fun t => t.1 == w with
    | some t => t.2.foldl (fun s m => s.send (.message c.q m)) s
    | none =>
      match s.commandWaits i with
      | some k => s.holdBack c.q k i
      | none =>
        match perform s with
        | (s, some (st, bodies)) => s.respond c.q w st bodies
        | (s, none) => s
/-- The context of a command, or the status that answers it: 2 no such context or another queue pair's, 7 failed (R414). -/
def State.ctxFor (s : State) (c : Cmd) (dead : Bool) : Except Nat Nat :=
  let k := c.ctx.toNat
  if s.ctxs.length ≤ k ∨ (s.ctx k).queue ≠ c.q then .error 2
  else match (s.ctx k).st with
    | .running => .ok k
    | .failed _ => if dead then .ok k else .error 7
    | _ => .error 2
/-- A command about a context. -/
def State.onCtx (s : State) (c : Cmd) (f : Nat → State × Answer) : State × Answer :=
  match s.ctxFor c false with
  | .error st => (s, status st)
  | .ok k => f k

/-! ## SUBMIT (R413) -/

/-- A launch of the host; a refused one is recorded with the check that failed. -/
def State.hostLaunch (s : State) (k : Nat) (addr : Nat) (r : Except Nat LaunchRec) : State × Answer :=
  let id := BitVec.ofNat 32 (s.ctx k).nextLaunch
  match r with
  | .ok rc => (s.addLaunch k rc addr 0 .queued none, some (0, [[id]]))
  | .error n => (s.addLaunch k default addr 0 (.refused n) none, some (3, [[id]]))
/-- A launch of the host from what its record has come to; frames exhausted fail the context (R388, R414). -/
def State.launchFrom (s : State) (k addr : Nat) (x : Xl (Except Nat LaunchRec)) : State × Answer :=
  match x with
  | .got r s => s.hostLaunch k addr r
  | .exhausted => (s.exhaust k addr, status 7)
  | _ => s.hostLaunch k addr (.error 1)
/-- SUBMIT's words in order: FLAGS, then the record in memory or in the message. -/
def State.submitTo (s : State) (c : Cmd) (k : Nat) : State × Answer :=
  let fl := c.w 0
  let fidx := wfield fl 10 8
  let rec' := c.body.drop 16
  if c.len = 0 ∨ wfield fl 7 1 ≠ 0 ∨ wfield fl 31 11 ≠ 0 then (s, status 1)
  else if nbit fl.toNat 0 then
    if c.w 1 ≠ 0 ∨ c.w 2 ≠ 0 ∨ rec'.length < 32 ∨ rec'.length < 32 + wfield (wordAt rec' 2) 15 8 then (s, status 1)
    else
      let addr := 64 * s.dev.poolNext
      let s := s.updDev fun d => { d with poolNext := d.poolNext + 8 }
      s.launchFrom k addr (s.checkRecord k rec' none fidx)
  else if c.len ≠ 3 then (s, status 1)
  else
    s.launchFrom k (c.addr 1) (s.readRecord k (c.addr 1) none fidx)
/-- SUBMIT (R413). -/
def execSubmit (c : Cmd) (s : State) : Host.Outcome State Fault Refusal :=
  .next (s.command (.submit c) 0x01 c fun s => s.onCtx c (s.submitTo c))

/-! ## CTX (R413, R415) -/

/-- A new context. -/
def newContext (c : Cmd) (k : Nat) : Context :=
  { st := .running, queue := c.q, heapBase := c.addr 1, heapN := (c.w 3).toNat, trapBase := c.addr 4, saveBase := c.addr 6,
    saveLen := (c.w 8).toNat, weight := wfield (c.w 9) 7 0, windowQ := (c.w 10).toNat, rkva := Config.remoteKey k false,
    rkws := Config.remoteKey k true, maps := [], resident := [], backing := [], backPoison := [], windows := [], grants := [], binds := [], log := [],
    logSeq := 0, logLost := 0, fbuf := [], energy := 0, savesRefused := 0, launches := [], nextLaunch := 1, runs := [],
    reserve := 256, drawer := none, destroyReply := none }
/-- CTX_CREATE (R413): the context takes the next number, its window queue pair and its reserve of frames. -/
def State.createCtx (s : State) (c : Cmd) : State × Answer :=
  let q := (c.w 10).toNat
  if !c.device ∨ c.len ≠ 11 ∨ wfield (c.w 9) 7 0 = 0 then (s, status 1)
  else if c.addr 1 % 256 ≠ 0 ∨ c.addr 4 % 4 ≠ 0 ∨ (c.w 8).toNat % 65536 ≠ 0 then (s, status 5)
  else if !((s.qp q).used && (s.qp q).kind == .window && (s.qp q).ctx.isNone) ∨ totalFrames < s.framesUsed + s.framesReserved + 256 then
    (s, status 4)
  else
    let k := s.ctxs.length
    let x := newContext c k
    let s := { s with ctxs := s.ctxs ++ [x] }
    (s.updQ q fun p => { p with ctx := some k }, some (0, [[BitVec.ofNat 32 k, x.rkva, x.rkws]]))
def execCtxCreate (c : Cmd) (s : State) : Host.Outcome State Fault Refusal :=
  if nbit (c.w 0).toNat 0 then .next s else .next (s.command (.ctxCreate c) 0x02 c fun s => s.createCtx c)
/-- CTX_DESTROY (R415): as a failure, then unmapped and answered, once its view sets are released: strips in flight still go out (R352, R389). -/
def State.destroyCtx (s : State) (c : Cmd) : State × Answer :=
  if c.len = 0 ∨ 11 < c.len then (s, status 1)
  else match s.ctxFor c true with
    | .error st => (s, status st)
    | .ok k =>
      let s := (s.abandonContext k).updC k fun x => { x with st := .destroyed }
      if s.sets.any fun v => v.ctx == some k then
        (s.updC k fun x => { x with destroyReply := some (c.q, cmdWords 0x02 c) }, none)
      else (s.unmapAll k, status 0)
def execCtxDestroy (c : Cmd) (s : State) : Host.Outcome State Fault Refusal :=
  if nbit (c.w 0).toNat 0 then .next (s.command (.ctxDestroy c) 0x02 c fun s => s.destroyCtx c) else .next s

/-! ## MAP, UNMAP, XLATE (R212, R413) -/

/-- Dividing a range into the largest naturally aligned pages: VA and size code. -/
def pagesOf : Nat → Nat → Nat → List (Nat × Nat)
  | 0, _, _ => []
  | n + 1, va, fin =>
    if fin ≤ va then [] else
      let fits (code : Nat) : Bool := decide (va % pageSize code = 0) && decide (va + pageSize code ≤ fin)
      let code := if fits 2 then 2 else if fits 1 then 1 else 0
      (va, code) :: pagesOf n (va + pageSize code) fin
def rangePages (va len : Nat) : List (Nat × Nat) := pagesOf (len / pageBytes) va (va + len)
/-- Taking the frames of pinned pages; none where one cannot be had. -/
def State.pinPages (s : State) : List (Nat × Nat) → Option (State × List (Nat × Nat × Nat))
  | [] => some (s, [])
  | (va, code) :: t =>
    match s.takeFrames (pageSize code / pageBytes) false with
    | none => none
    | some (f, s) =>
      let lo := f * pageBytes
      let s := { s with mem := sdropWhere (fun a => decide (lo ≤ a) && decide (a < lo + pageSize code)) s.mem }
      (s.pinPages t).map fun r => (r.1, (va, code, lo) :: r.2)
/-- Whether two ranges meet. -/
def meets (a n b m : Nat) : Bool := decide (a < b + m) && decide (b < a + n)
def Context.overlaps (c : Context) (va len : Nat) : Bool :=
  (c.maps.any fun m => meets va len m.va m.len) || c.windows.any fun w => meets va len w.va w.len
/-- The size of the weight store (R225). -/
def wsBytes : Nat := 0x600000000
/-- MAP (R413). -/
def State.mapRange (s : State) (c : Cmd) (k : Nat) : State × Answer :=
  let w3 := (c.w 3).toNat
  let ty := w3 % 4
  let va := c.addr 0
  let len := (c.w 2).toNat
  let unit := if ty = 3 then 2097152 else 65536
  let x := s.ctx k
  let q := (c.w 4).toNat
  if ¬(c.len = 7 ∨ (c.len = 4 ∧ (ty = 0 ∨ ty = 3))) then (s, status 1)
  else if va % unit ≠ 0 ∨ len % unit ≠ 0 ∨ (if ty = 3 then wsBytes else 2 ^ 56) < va + len then (s, status 5)
  else if ty = 3 then
    if x.grants.any fun g => meets va len g.1 g.2 then (s, status 5)
    else if 64 ≤ x.grants.length then (s, status 4)
    else (s.updC k fun x => { x with grants := insertRun x.grants (va, len) }, status 0)
  else if x.overlaps va len then (s, status 5)
  else if ty = 0 then
    let m : MapRange := { va := va, len := len, r := nbit w3 2, w := nbit w3 3, x := nbit w3 4, pin := nbit w3 5, pages := [] }
    if !nbit w3 5 then (s.updC k fun x => { x with maps := x.maps ++ [m] }, status 0)
    else match s.pinPages (rangePages va len) with
      | none => (s, status 4)
      | some (s, ps) => (s.updC k fun x => { x with maps := x.maps ++ [{ m with pages := ps }] }, status 0)
  else if !((s.qp q).used && (s.qp q).kind == .window && ((s.qp q).ctx.isNone || (s.qp q).ctx == some k)) ∨ 64 ≤ x.windows.length then
    (s, status 4)
  else
    let w : Window := { va := va, len := len, kind := ty + 2, r := nbit w3 2, w := nbit w3 3, x := nbit w3 4, q := q, remote := wide64 c.body 5 }
    (s.updC k fun x => { x with windows := x.windows ++ [w] }, status 0)
def execMap (c : Cmd) (s : State) : Host.Outcome State Fault Refusal :=
  .next (s.command (.map c) 0x03 c fun s => s.onCtx c (s.mapRange c))

/-- What a cut leaves of a range, as parts with their lengths. -/
def cutRange (va len lo hi : Nat) : List (Nat × Nat) :=
  if !meets va len lo (hi - lo) then [(va, len)]
  else (if va < lo then [(va, lo - va)] else []) ++ (if hi < va + len then [(hi, va + len - hi)] else [])
/-- The pages that remain of a pinned page, in its own frames. -/
def cutPage (p : Nat × Nat × Nat) (lo hi : Nat) : List (Nat × Nat × Nat) :=
  let n := pageSize p.2.1
  if !meets p.1 n lo (hi - lo) then [p]
  else (cutRange p.1 n lo hi).flatMap fun r => (rangePages r.1 r.2).map fun x => (x.1, x.2, p.2.2 + (x.1 - p.1))
/-- A range of TYPE 0 after a cut. -/
def MapRange.cut (m : MapRange) (lo hi : Nat) : List MapRange :=
  (cutRange m.va m.len lo hi).map fun r =>
    { m with va := r.1, len := r.2,
             pages := (m.pages.flatMap fun p => cutPage p lo hi).filter fun p => decide (r.1 ≤ p.1) && decide (p.1 < r.1 + r.2) }
def Window.cut (w : Window) (lo hi : Nat) : List Window :=
  (cutRange w.va w.len lo hi).map fun r => { w with va := r.1, len := r.2, remote := w.remote + (r.1 - w.va) }
/-- Removing a context's device pages in a range: frames are free, and no clean copy of the old bytes stays (R212, log 22). -/
def State.unmapPages (s : State) (k lo hi : Nat) : State :=
  let x := s.ctx k
  let inside (page : Nat) : Bool := decide (lo ≤ page * pageBytes) && decide (page * pageBytes < hi)
  let maps := x.maps.flatMap fun m => m.cut lo hi
  let freed := x.frames
  let x' := { x with maps := maps, resident := sdropWhere inside x.resident,
                     backing := sdropWhere (fun a => decide (lo ≤ a) && decide (a < hi)) x.backing,
                     backPoison := x.backPoison.filter fun q => !(decide (lo ≤ q * 64) && decide (q * 64 < hi)) }
  let s := s.updDev fun d => { d with used := x'.frames.foldl insertRun (d.used.filter fun r => !freed.contains r) }
  let s := (s.updC k fun _ => x').refillAll
  let sel (e : Nat) : Bool := !keyIsWs e && keyCtx e == k && decide (lo ≤ keyVa e) && decide (keyVa e < hi)
  { s with
    cores := s.cores.map fun (c : CoreSt) => { c with l1 := invalSectors c.l1 sel }
    clusters := s.clusters.map fun (c : Cluster) => { c with cache := invalSectors c.cache sel } }
/-- Whether a counted read of the weight store, of a memory or a texture instruction, is in flight at an offset of a range, for one context or for
all; parked lanes have not been read. -/
def State.weightReads (s : State) (c : Option Nat) (lo hi : Nat) : Bool :=
  s.groups.any fun g => (c.isNone || c == some g.who.ctx) && g.ops.any fun op =>
    op.kind != .parked && op.acc.any fun a => a.rkind == 6 && a.lanes.any fun r => decide (lo ≤ r.va) && decide (r.va < hi)
/-- Whether what a command waits for has come: every request that went through the old entry has completed (R212), no read of the weight store
is in flight (R226). -/
def State.waitOver (s : State) : WaitFor → Bool
  | .window c kind lo hi =>
    !(s.winReqs.any fun r => (s.grp r.group).who.ctx == c && r.failed.isNone && r.acc.rkind == kind &&
      r.acc.lanes.any fun l => decide (lo ≤ l.va) && decide (l.va < hi))
  | .grant c lo hi => !s.weightReads (some c) lo hi
  | .mode load => !load || !s.weightReads none 0 wsBytes
  | .frames .. => false
/-- An UNMAP is answered at once, or when what went through the old entry has completed (R212). -/
def State.unmapAnswer (s : State) (c : Cmd) (w : WaitFor) : State × Answer :=
  if s.waitOver w then (s, status 0)
  else (s.updDev fun d => { d with waits := d.waits ++ [{ q := c.q, cmd := cmdWords 0x04 c, what := w }] }, none)
/-- UNMAP (R413). -/
def State.unmapRange (s : State) (c : Cmd) (k : Nat) : State × Answer :=
  let ty := (c.w 3).toNat % 4
  let lo := c.addr 0
  let len := (c.w 2).toNat
  let hi := lo + len
  let unit := if ty = 3 then 2097152 else 65536
  let x := s.ctx k
  if c.len ≠ 4 then (s, status 1)
  else if lo % unit ≠ 0 ∨ len % unit ≠ 0 then (s, status 5)
  else match ty with
    | 0 => (s.unmapPages k lo hi, status 0)
    | 3 =>
      let g := x.grants.flatMap fun g => cutRange g.1 g.2 lo hi
      if 64 < g.length then (s, status 4) else (s.updC k fun x => { x with grants := g }).unmapAnswer c (.grant k lo hi)
    | _ =>
      let w := x.windows.flatMap fun w => if w.kind = ty + 2 then w.cut lo hi else [w]
      if 64 < w.length then (s, status 4)
      else (s.updC k fun x => { x with windows := w }).unmapAnswer c (.window k (ty + 2) lo hi)
def execUnmap (c : Cmd) (s : State) : Host.Outcome State Fault Refusal :=
  .next (s.command (.unmap c) 0x04 c fun s => s.onCtx c (s.unmapRange c))

/-- XLATE's word: R, W, X, resident, page size. -/
def xlateWord (r w x resident : Bool) (size : Nat) : Word :=
  BitVec.ofNat 32 (ofBits [r, w, x, resident] + 16 * size)
/-- XLATE (R413): with FAULTIN an absent page is mapped first. -/
def State.translate (s : State) (c : Cmd) (k : Nat) : State × Answer :=
  let va := c.addr 0
  let inRange (a n : Nat) : Bool := decide (a ≤ va) && decide (va < a + n)
  if c.len ≠ 3 then (s, status 1)
  else match (s.ctx k).maps.find? fun m => inRange m.va m.len with
    | some m =>
      if m.pin then
        let size := ((m.pages.find? fun p => inRange p.1 (pageSize p.2.1)).getD (0, 0, 0)).2.1
        (s, some (0, [[xlateWord m.r m.w m.x true size]]))
      else
        let absent (s : State) : Bool := sget 0 (s.ctx k).resident (va / pageBytes) == 0
        let s := if absent s && nbit (c.w 2).toNat 0 then (s.servePage k (va / pageBytes) [] 1).getD s else s
        (s, some (0, [[xlateWord m.r m.w m.x (!absent s) 0]]))
    | none =>
      match (s.ctx k).windows.find? fun w => inRange w.va w.len with
      | some w =>
        let size := (((rangePages w.va w.len).find? fun p => inRange p.1 (pageSize p.2)).getD (0, 0)).2
        (s, some (0, [[xlateWord w.r w.w w.x true size]]))
      | none => (s, status 5)
def execXlate (c : Cmd) (s : State) : Host.Outcome State Fault Refusal :=
  .next (s.command (.xlate c) 0x06 c fun s => s.onCtx c (s.translate c))

/-! ## SYNCSUM (R417 to R419) -/

def sat32 (n : Nat) : Word := BitVec.ofNat 32 (min n 0xFFFFFFFF)
def pair64 (n : Nat) : List Word := [BitVec.ofNat 32 n, BitVec.ofNat 32 (n / 2 ^ 32)]
/-- A record: TYPE, VERS 1, NW, words. -/
def record (ty : Nat) (w : List Word) : List Word := BitVec.ofNat 32 (ty * 2 ^ 24 + 65536 + w.length) :: w
/-- The MAC address of a subport (R410). -/
def macOf (port sub : Nat) : BitVec 48 := Config.macBase + BitVec.ofNat 48 (4 * port + sub)
def deviceRecord (s : State) : List Word :=
  let d := s.dev
  let port (p : Port) (n : Nat) : List Word :=
    [BitVec.ofNat 32 (ofBits (p.subs.map (·.up)) % 16 + 256 * (Config.breakout n).val), sat32 p.drops, sat32 p.fragments,
     sat32 p.stripDrops]
  record 1 ([d.deviceId, BitVec.ofNat 32 (d.fstep * 65536 + d.thot % 256), BitVec.ofNat 32 (d.wsLoad.toNat * 2 ^ 28 + s.phase),
      BitVec.ofNat 32 (ofBits (s.clusters.map (·.fenced))), BitVec.ofNat 32 d.inbound.length] ++
    (s.ports.zipIdx.flatMap fun p => port p.1 p.2) ++ (s.sets.flatMap fun v => [sat32 v.drops, sat32 v.stripDrops]) ++
    (List.range 48).flatMap fun n => pair64 (macOf (n / 4) (n % 4)).toNat)
def errorRecord (s : State) (kind cluster : Nat) : List Word :=
  let e := s.dev.errors.getD (if kind < 3 then 120 + kind else 5 * cluster + (kind - 3)) default
  record 2 [BitVec.ofNat 32 (if kind < 3 then 0xFF else cluster), BitVec.ofNat 32 kind, sat32 e.corrected, sat32 e.uncorrectable]
def errorRecords (s : State) : List (List Word) :=
  ((List.range 24).flatMap fun c => (List.range 5).map fun j => errorRecord s (3 + j) c) ++
    (List.range 3).map fun j => errorRecord s j 0
/-- The contexts that the summary lists: running, failed, or being destroyed. -/
def Context.listed (c : Context) : Option (Nat × Nat) :=
  match c.st with
  | .running => some (0, 0)
  | .failed cause => some (1, cause)
  | .destroyed => if c.destroyReply.isSome then some (2, 0) else none
  | .absent => none
def contextRecords (s : State) (k : Nat) : List (List Word) :=
  let c := s.ctx k
  match c.listed with
  | none => []
  | some (st, cause) =>
    let slot (core : CoreSt) : Nat := match core.ctxs.findIdx? fun x => x == some k with | some n => n + 1 | none => 0
    let bits := s.cores.foldr (fun core a => slot core + 4 * a) 0
    let num := BitVec.ofNat 32 k
    record 4 ([num, BitVec.ofNat 32 (st + 256 * cause)] ++ pair64 c.energy ++
        [sat32 c.logLost, sat32 c.savesRefused, BitVec.ofNat 32 c.fbuf.length] ++
        (List.range 6).map fun j => BitVec.ofNat 32 (bits / 2 ^ (32 * j))) ::
      c.fbuf.map fun f => record 5 ([num] ++ pair64 f.line ++ ((List.range 8).map fun j => f.bytes.extractLsb' (32 * j) 32) ++
        wordsOf (getBs f.data 0 256))
def Launch.record (l : Launch) (k : Nat) : List Word :=
  let (st, check) := match l.state with | .queued => (0, 0) | .running => (1, 0) | .complete => (2, 0) | .refused n => (3, n)
  Machine.record 6 [BitVec.ofNat 32 k, BitVec.ofNat 32 l.id,
    BitVec.ofNat 32 (l.gen % 8 + 16 * st + 256 * (check % 16) + 65536 * l.compFail.toNat), sat32 l.started, sat32 l.completed]
/-- A launch that is reaped once reported. -/
def Launch.over (l : Launch) : Bool := match l.state with | .complete => true | .refused _ => true | _ => false
def engineRecord (s : State) (k : Nat) : List Word :=
  let c := s.cl k
  let own (o : Option Nat) : Word := match o with | some n => BitVec.ofNat 32 n | none => 0xFFFFFFFF
  record 8 ([BitVec.ofNat 32 k] ++ (c.tiles.flatMap fun t => [own t.owner, BitVec.ofNat 32 (t.ver + 65536 * t.tv)]) ++
    [own c.spawnOwner, BitVec.ofNat 32 c.spawn.length, BitVec.ofNat 32 (c.copyq.length + 256 * c.offers.length)])
/-- Every record of the summary, in order. -/
def summaryRecords (s : State) : List (List Word) :=
  let ks := List.range s.ctxs.length
  let shown (k : Nat) : Bool := (s.ctx k).listed.isSome
  [deviceRecord s] ++ errorRecords s ++ (s.dev.inbound.map fun e => record 3 e.words) ++
    (ks.flatMap fun k => contextRecords s k) ++
    (ks.flatMap fun k => if shown k then (s.ctx k).launches.map fun l => l.record k else []) ++
    (ks.flatMap fun k => if shown k then (s.ctx k).log.map fun e => record 7 (BitVec.ofNat 32 k :: e.words) else []) ++
    (List.range 24).map fun k => engineRecord s k
/-- Records gathered into messages of at most 1,015 words; none spans two. -/
def gather (l : List (List Word)) : List (List Word) :=
  let r := l.foldl (fun (a : List (List Word) × List Word) x =>
    if !a.2.isEmpty && decide (1015 < a.2.length + x.length) then (a.1 ++ [a.2], x) else (a.1, a.2 ++ x)) ([], [])
  r.1 ++ [r.2]
/-- The bodies of the messages: part number and LAST, then the records. -/
def summaryBodies (s : State) : List (List Word) :=
  let parts := gather (summaryRecords s)
  parts.zipIdx.map fun p => BitVec.ofNat 32 (p.2 + if p.2 + 1 = parts.length then 2 ^ 31 else 0) :: p.1
/-- SYNCSUM (R417): launches reported complete or refused are reaped. -/
def State.summary (s : State) (c : Cmd) : State × Answer :=
  if !c.device ∨ c.len ≠ 0 then (s, status 1)
  else
    ({ s with ctxs := s.ctxs.map fun (x : Context) => { x with launches := x.launches.filter fun l => !l.over } },
     some (0, summaryBodies s))
def execSyncsum (c : Cmd) (s : State) : Host.Outcome State Fault Refusal :=
  .next (s.command (.syncsum c) 0x05 c fun s => s.summary c)

/-! ## VSET (R328 to R331, R348, R352, R355) -/

/-- Whether an F32 pattern is finite. -/
def finite32 (w : Word) : Bool := wfield w 30 23 != 255
/-- The subports that a port's breakout has (R409). -/
def subports (port : Nat) : Nat := if port < 12 then (match (Config.breakout port).val with | 0 => 1 | 1 => 2 | _ => 4) else 0
/-- A view of a descriptor, from its 32 words: none where R330, R331 or R348 is broken. -/
def parseView (w : List Word) (route : List Word) : Option View :=
  let fx := wfield (wordAt w 0) 15 0
  let fy := wfield (wordAt w 0) 31 16
  let m := (w.drop 4).take 16
  let lens := (w.drop 20).take 8
  if 4096 < fx ∨ 4096 < fy ∨ wfield (wordAt w 2) 31 14 ≠ 0 ∨ wfield (wordAt w 2) 7 6 ≠ 0 ∨ wordAt w 3 ≠ 0 ∨
      !(m.all finite32) ∨ !(lens.all finite32) ∨ !((w.drop 28).all (· == 0)) then none
  else some { fovx := fx, fovy := fy, dgx := wfield (wordAt w 1) 15 0, dgy := wfield (wordAt w 1) 31 16, codes := wfield (wordAt w 2) 13 0,
              m := m, lens := lens, route := route, gaze := none }
/-- Whether an entry of a display route table is accepted (R355). -/
def displayRouteOk (r : List Word) : Bool :=
  let w1 := wordAt r 1
  wfield w1 20 18 == 0 && decide (routeSub r < subports (routePort r)) && wfield (wordAt r 3) 31 16 == 0 &&
    ((r.drop 8).all (· == 0)) && (w1.getLsbD 24 == false || decide (1 ≤ wfield w1 11 0 ∧ wfield w1 11 0 ≤ 4094)) &&
    (w1.getLsbD 24 || wfield w1 11 0 == 0) && (routeV6 r || ((r.drop 5).take 3).all (· == 0))
/-- A new strip and its views, with the default gaze latched (log 8). -/
def freshView (v : View) (w h sh : Nat) : StripView :=
  { emitted := false, last := none, fseq := 0, due := [], warp := v.latch w h sh (v.dgx, v.dgy) false }
def freshStrip (vs : List View) (w h sh : Nat) : Strip :=
  { st := .idle, latch := 0, dl := 0, stale := false, gzseq := 0, views := vs.map fun v => freshView v w h sh }
/-- A set from a descriptor and route table: none where they are refused with status 1. -/
def parseSet (k : Nat) (d r : List Word) : Option ViewSet :=
  let w0 := wordAt d 0
  let w1 := wordAt d 1
  let n := wfield w0 3 0 + 1
  let sh := 8 * wfield w0 23 16
  let w := wfield w1 11 0 + 1
  let h := wfield w1 27 16 + 1
  let routes := (List.range n).map fun i => (r.drop (16 * i)).take 16
  let views := (List.range n).filterMap fun i => parseView ((d.drop (16 + 32 * i)).take 32) (routes.getD i [])
  if wfield w0 31 24 ≠ 0 ∨ wfield w0 15 4 ≠ 0 ∨ wfield w1 31 28 ≠ 0 ∨ wfield w1 15 12 ≠ 0 ∨ !(((d.drop 3).take 13).all (· == 0)) ∨
      wfield w0 23 16 = 0 ∨ 32 < wfield w0 23 16 ∨ w % 8 ≠ 0 ∨ h % 8 ≠ 0 ∨ h % sh ≠ 0 ∨ views.length ≠ n ∨ !(routes.all displayRouteOk) then none
  else some { ctx := some k, w := w, h := h, sh := sh, gzage := wfield (wordAt d 2) 31 16, gzport := wfield (wordAt d 2) 15 0,
              views := views, strips := List.replicate (h / sh) (freshStrip views w h sh), seq := none, arrival := 0, drops := 0,
              stripDrops := 0, releasing := false, unbindReply := none }
/-- Whether two sets have one geometry. -/
def ViewSet.sameShape (a b : ViewSet) : Bool := a.w == b.w && a.h == b.h && a.sh == b.sh && a.views.length == b.views.length
/-- A reload (R331): the registers are replaced, W, H and SH of the latched grids among them; what the rule names is kept, and the strips'
latched breakpoints and payloads. -/
def ViewSet.reload (old new : ViewSet) : ViewSet :=
  let keepView (i : Nat) (v : View) : View := { v with gaze := (old.views[i]?).bind (·.gaze) }
  let views := new.views.zipIdx.map fun x => keepView x.2 x.1
  let keepStrip (i : Nat) (t : Strip) : Strip :=
    match old.strips[i]? with
    | none => t
    | some o => { o with views := t.views.zipIdx.map fun x =>
        match o.views[x.2]? with | some y => { y with emitted := false, warp := { y.warp with w := new.w, h := new.h, sh := new.sh } } | none => x.1 }
  { new with views := views, strips := new.strips.zipIdx.map fun x => keepStrip x.2 x.1, seq := old.seq, arrival := old.arrival,
             drops := old.drops, stripDrops := old.stripDrops }
/-- VSET without UNBIND (R331). -/
def State.loadSet (s : State) (c : Cmd) (k : Nat) : State × Answer :=
  let n := (c.w 0).toNat % 4
  let old := s.set n
  if c.len ≠ 5 then (s, status 1)
  else if c.addr 1 % 64 ≠ 0 ∨ c.addr 3 % 64 ≠ 0 ∨ (old.ctx.isSome ∧ old.ctx ≠ some k) then (s, status 5)
  else
    let reads (x : Xl (List Byte × Bool)) (a : Nat) (f : List Word → State → State × Answer) : State × Answer :=
      match x with
      | .got y s => if y.2 then (s, status 5) else f (wordsOf y.1) s
      | .exhausted => (s.exhaust k a, status 7)
      | _ => (s, status 5)
    reads (s.readXl k (c.addr 1) 64 .r) (c.addr 1) fun head s =>
      let views := wfield (wordAt head 0) 3 0 + 1
      reads (s.readXl k (c.addr 1) (64 + 128 * views) .r) (c.addr 1) fun d s =>
        reads (s.readXl k (c.addr 3) (64 * views) .r) (c.addr 3) fun r s =>
          match parseSet k d r with
          | none => (s, status 1)
          | some v =>
            if old.ctx.isNone then (s.updSet n fun _ => v, status 0)
            else if !old.sameShape v && !(old.strips.all fun t => t.st == .idle) then (s, status 6)
            else (s.updSet n fun _ => old.reload v, status 0)
def execVset (c : Cmd) (s : State) : Host.Outcome State Fault Refusal :=
  if nbit (c.w 0).toNat 8 then .next s else .next (s.command (.vset c) 0x07 c fun s => s.onCtx c (s.loadSet c))
/-- VSET_UNBIND (R352): answered once every strip is IDLE. -/
def State.unbindSet (s : State) (c : Cmd) (k : Nat) : State × Answer :=
  let n := (c.w 0).toNat % 4
  let v := s.set n
  if c.len = 0 ∨ 5 < c.len then (s, status 1)
  else if v.ctx.isNone then (s, status 0)
  else if v.ctx ≠ some k then (s, status 5)
  else if v.strips.all fun t => t.st == .idle then (s.updSet n fun _ => ViewSet.reset, status 0)
  else (s.updSet n fun v => { v with releasing := true, unbindReply := some (c.q, cmdWords 0x07 c) }, none)
def execVsetUnbind (c : Cmd) (s : State) : Host.Outcome State Fault Refusal :=
  if nbit (c.w 0).toNat 8 then .next (s.command (.vsetUnbind c) 0x07 c fun s => s.onCtx c (s.unbindSet c)) else .next s

/-! ## WSMODE, CONFIG, PORTCFG (R225, R226, R410, R413, R425) -/

/-- Leaving LOAD: no cache keeps a weight-store line, and the sampler caches are empty (R226). -/
def State.leaveLoad (s : State) : State :=
  let keep (e : Nat × Sector) : Bool := !keyIsWs e.1
  { s with
    cores := s.cores.map fun (c : CoreSt) => { c with l1 := c.l1.filter keep, scache := [] }
    clusters := s.clusters.map fun (c : Cluster) => { c with cache := c.cache.filter keep }
    dev := { s.dev with wsLoad := false } }
/-- WSMODE (R425): busy in a transition, nothing to do in the mode asked for, else a transition that ends with its answer (log 43). -/
def State.changeMode (s : State) (c : Cmd) (load : Bool) : State × Answer :=
  if !c.device ∨ c.len ≠ 1 then (s, status 1)
  else if s.dev.waits.any fun w => match w.what with | .mode _ => true | _ => false then (s, status 6)
  else if s.dev.wsLoad = load then (s, status 0)
  else (s.updDev fun d => { d with waits := d.waits ++ [{ q := c.q, cmd := cmdWords 0x08 c, what := .mode load }] }, none)
/-- WSMODE_LOAD (R425). -/
def execWsmodeLoad (c : Cmd) (s : State) : Host.Outcome State Fault Refusal :=
  if !nbit (c.w 0).toNat 0 then .next s else .next (s.command (.wsmodeLoad c) 0x08 c fun s => s.changeMode c true)
/-- WSMODE_READ (R226, R425). -/
def execWsmodeRead (c : Cmd) (s : State) : Host.Outcome State Fault Refusal :=
  if nbit (c.w 0).toNat 0 then .next s else .next (s.command (.wsmodeRead c) 0x08 c fun s => s.changeMode c false)
/-- Commands whose waits are over are answered in their order, and a transition takes effect (R212, R226). -/
def State.answerWaits (s : State) : State :=
  s.dev.waits.foldl (fun s w =>
    if !s.waitOver w.what then s
    else
      let s := s.updDev fun d => { d with waits := d.waits.filter (· != w) }
      let s := match w.what with
        | .mode true => s.updDev fun d => { d with wsLoad := true }
        | .mode false => s.leaveLoad
        | _ => s
      s.respond w.q w.cmd 0 [[]]) s
/-- CONFIG (R413). -/
def execConfig (c : Cmd) (s : State) : Host.Outcome State Fault Refusal :=
  .next (s.command (.config c) 0x09 c fun s =>
    if !c.device ∨ c.len ≠ 5 then (s, status 1)
    else
      (s.updDev fun d => { d with deviceId := c.w 0, thot := wfield (c.w 1) 7 0,
                                  remoteTimeout := if c.w 2 = 0 then 2000 else (c.w 2).toNat, ets := bytesOf [c.w 3, c.w 4] }, status 0))
/-- PORTCFG (R410, R413). -/
def execPortcfg (c : Cmd) (s : State) : Host.Outcome State Fault Refusal :=
  .next (s.command (.portcfg c) 0x0A c fun s =>
    let port := wfield (c.w 0) 3 0
    let sub := wfield (c.w 0) 5 4
    let mtu := wfield (c.w 1) 15 0
    let vid := wfield (c.w 1) 27 16
    let l4 := wfield (c.w 3) 7 0
    let l6 := wfield (c.w 3) 15 8
    if !c.device ∨ c.len ≠ 12 ∨ subports port ≤ sub ∨ mtu < 1280 ∨ 9000 < mtu ∨ vid = 4095 ∨ 32 < l4 ∨ 128 < l6 then (s, status 1)
    else
      (s.updSub port sub fun x => { x with mtu := mtu, vid := vid, pcp := wfield (c.w 1) 30 28, ip4 := c.w 2, ip4len := l4,
                                           ip6 := (c.body.drop 4).take 4, ip6len := l6, gateway := (c.body.drop 8).take 4 }, status 0))

/-- MALFORMED_MESSAGE (R412): answered with status 1 and not performed. -/
def execMalformedMessage (q : Nat) (message : List Word) (s : State) : Host.Outcome State Fault Refusal :=
  .next <|
    let w0 := wordAt message 0
    let op := wfield w0 31 24
    let len := wfield (wordAt message 3) 15 0
    let good := wfield w0 23 0 == 0x14A43 && decide (1 ≤ op ∧ op ≤ 0x0B) && decide (4 ≤ message.length) && decide (len ≤ 4064) &&
      decide (len = 4 * (message.length - 4)) && wfield (wordAt message 3) 31 16 == 0 &&
      !(op == 0x0B && wfield (wordAt message 4) 1 0 == 3)
    if good || !s.isCommandQueue q then s
    else if s.queueBusy q then s.updQ q fun x => { x with waiting := x.waiting ++ [.malformedMessage q message] }
    else match (s.qp q).tags.find? fun t => t.1 == message with
      | some t => t.2.foldl (fun s m => s.send (.message q m)) s
      | none => s.respond q message 1 [[]]

end Sys2Proof.Machine
end

