-- ==== Sys2Proof/Machine/Crypto.lean ====
section
/-!
DEFINITION. The hash and the signatures that R427, R430 and R431 name: SHA-384 of FIPS 180-4 and ECDSA on P-384 of FIPS 186-5 (log 12).
Byte strings and numbers are big-endian, as the standards have them.
-/

namespace Sys2Proof.Machine

/-! ## SHA-384 (FIPS 180-4) -/

/-- The floor of the e-th root of x, by bisection over n bits. -/
def rootFloor (e x : Nat) : Nat → Nat → Nat
  | 0, r => r
  | n + 1, r => rootFloor e x n (if (r + 2 ^ n) ^ e ≤ x then r + 2 ^ n else r)
/-- The first n primes from k on, by trial division. -/
def primesFrom : Nat → Nat → Nat → List Nat
  | 0, _, _ => []
  | _, _, 0 => []
  | n + 1, k, fuel + 1 =>
    if (List.range k).all fun d => d < 2 || k % d != 0 then k :: primesFrom n (k + 1) fuel else primesFrom (n + 1) (k + 1) fuel
/-- The first eighty primes. -/
def primes80 : List Nat := primesFrom 80 2 500
/-- The first 64 bits of the fraction of the e-th root of a prime. -/
def rootFraction (e p : Nat) : BitVec 64 := BitVec.ofNat 64 (rootFloor e (p * 2 ^ (64 * e)) 69 0)
/-- The round constants: cube roots of the first eighty primes. -/
def shaK : List (BitVec 64) := primes80.map (rootFraction 3)
/-- The initial hash value: square roots of the ninth to sixteenth primes. -/
def shaInit : List (BitVec 64) := ((primes80.drop 8).take 8).map (rootFraction 2)
/-- The functions of the standard. -/
def shaCh (x y z : BitVec 64) : BitVec 64 := (x &&& y) ^^^ (~~~x &&& z)
def shaMaj (x y z : BitVec 64) : BitVec 64 := (x &&& y) ^^^ (x &&& z) ^^^ (y &&& z)
def shaRotations (a b c : Nat) (x : BitVec 64) : BitVec 64 := x.rotateRight a ^^^ x.rotateRight b ^^^ x.rotateRight c
def shaShift (a b c : Nat) (x : BitVec 64) : BitVec 64 := x.rotateRight a ^^^ x.rotateRight b ^^^ (x >>> c)
/-- The message padded to whole blocks of 128 bytes. -/
def shaPad (m : List Byte) : List Byte :=
  m ++ [0x80] ++ List.replicate ((239 - m.length % 128) % 128) 0 ++ beBytes 16 (8 * m.length)
/-- The next n words of the schedule; the last sixteen are held, the latest first. -/
def shaWords : Nat → List (BitVec 64) → List (BitVec 64)
  | 0, _ => []
  | n + 1, w =>
    let x := shaShift 19 61 6 (w.getD 1 0) + w.getD 6 0 + shaShift 1 8 7 (w.getD 14 0) + w.getD 15 0
    x :: shaWords n (x :: w.take 15)
/-- One round on the eight working variables. -/
def shaRound (v : List (BitVec 64)) (kw : BitVec 64) : List (BitVec 64) :=
  match v with
  | [a, b, c, d, e, f, g, h] =>
    let t1 := h + shaRotations 14 18 41 e + shaCh e f g + kw
    let t2 := shaRotations 28 34 39 a + shaMaj a b c
    [t1 + t2, a, b, c, d + t1, e, f, g]
  | _ => v
/-- One block of a message, as its sixteen words. -/
def shaBlock (h : List (BitVec 64)) (w : List (BitVec 64)) : List (BitVec 64) :=
  let kw := List.zipWith (· + ·) shaK (w ++ shaWords 64 w.reverse)
  List.zipWith (· + ·) h (kw.foldl shaRound h)
/-- The blocks of a padded message. -/
def shaBlocks : Nat → List Byte → List (BitVec 64) → List (BitVec 64)
  | 0, _, h => h
  | n + 1, m, h => shaBlocks n (m.drop 128) (shaBlock h ((List.range 16).map fun i => BitVec.ofNat 64 (beNat ((m.drop (8 * i)).take 8))))
/-- SHA-384: the first six words of the hash. -/
def sha384 (m : List Byte) : BitVec 384 :=
  let p := shaPad m
  BitVec.ofNat 384 (((shaBlocks (p.length / 128) p shaInit).take 6).foldl (fun a x => a * 2 ^ 64 + x.toNat) 0)

/-! ## P-384 and ECDSA (FIPS 186-5) -/

/-- The field prime, the order of the base point, and the curve's b; a is −3. -/
def p384P : Nat := 2 ^ 384 - 2 ^ 128 - 2 ^ 96 + 2 ^ 32 - 1
def p384N : Nat := 0xFFFFFFFFFFFFFFFFFFFFFFFFFFFFFFFFFFFFFFFFFFFFFFFFC7634D81F4372DDF581A0DB248B0A77AECEC196ACCC52973
def p384B : Nat := 0xB3312FA7E23EE7E4988E056BE3F82D19181D9C6EFE8141120314088F5013875AC656398D8A2ED19D2A85C8EDD3EC2AEF
/-- A point of the curve; none is the point at infinity. -/
abbrev EcPoint := Option (Nat × Nat)
/-- The base point. -/
def p384G : EcPoint :=
  some (0xAA87CA22BE8B05378EB1C71EF320AD746E1D3B628BA79B9859F741E082542A385502F25DBF55296C3A545E3872760AB7,
        0x3617DE4A96262C6F5D9E98BF9292DC29F8F41DBD289A147CE9DA3113B5F0B8C00A60B1CE1D7E819D7A431D7C90EA0E5F)
/-- x to the power e modulo m, from the high bit of e's n bits. -/
def powMod (m x e : Nat) : Nat → Nat → Nat
  | 0, r => r
  | n + 1, r => powMod m x e n (if e.testBit n then r * r % m * x % m else r * r % m)
/-- The inverse modulo a prime. -/
def invMod (m x : Nat) : Nat := powMod m (x % m) (m - 2) 384 1
/-- Subtraction modulo the field prime. -/
def subP (a b : Nat) : Nat := (a + (p384P - b % p384P)) % p384P
/-- The third point on a chord or tangent of a slope, reflected. -/
def ecThird (l x1 y1 x2 : Nat) : Nat × Nat :=
  let x := subP (subP (l * l) x1) x2
  (x, subP (l * subP x1 x) y1)
/-- The sum of two points. -/
def ecAdd : EcPoint → EcPoint → EcPoint
  | none, q => q
  | p, none => p
  | some (x1, y1), some (x2, y2) =>
    if x1 = x2 then
      if (y1 + y2) % p384P = 0 then none
      else some (ecThird (subP (3 * x1 * x1) 3 * invMod p384P (2 * y1) % p384P) x1 y1 x2)
    else some (ecThird (subP y2 y1 * invMod p384P (subP x2 x1) % p384P) x1 y1 x2)
/-- A multiple of a point by the low n bits of a number, from the high bit. -/
def ecMulBits (k : Nat) (p : EcPoint) : Nat → EcPoint → EcPoint
  | 0, r => r
  | n + 1, r => ecMulBits k p n (if k.testBit n then ecAdd (ecAdd r r) p else ecAdd r r)
def ecMul (k : Nat) (p : EcPoint) : EcPoint := ecMulBits k p 384 none
/-- Whether coordinates are a point of the curve. -/
def onCurve (x y : Nat) : Bool :=
  decide (x < p384P) && decide (y < p384P) && y * y % p384P == (subP (x * x * x) (3 * x) + p384B) % p384P
/-- Verification of a signature (r, s) of a digest by a public key. -/
def ecdsaVerify (key : Nat × Nat) (digest : BitVec 384) (sig : Nat × Nat) : Bool :=
  let (r, s) := sig
  onCurve key.1 key.2 && decide (0 < r ∧ r < p384N ∧ 0 < s ∧ s < p384N) &&
    let w := invMod p384N s
    match ecAdd (ecMul (digest.toNat * w % p384N) p384G) (ecMul (r * w % p384N) (some key)) with
    | none => false
    | some (x, _) => x % p384N == r
/-- Signing a digest with a private key; each number drawn is tried until r and s are not 0. -/
def ecdsaSign (key : Nat) (digest : BitVec 384) : List Nat → Nat × Nat
  | [] => (0, 0)
  | x :: t =>
    let k := 1 + x % (p384N - 1)
    match ecMul k p384G with
    | none => ecdsaSign key digest t
    | some (px, _) =>
      let r := px % p384N
      let s := invMod p384N k * (digest.toNat + r * key) % p384N
      if r = 0 ∨ s = 0 then ecdsaSign key digest t else (r, s)

end Sys2Proof.Machine
end

