-- ==== Sys2Proof/Machine/SplitEvents.lean ====
section
/-!
DEFINITION. The events of splits and of the memory unit: ends of waits (R106, R152, R196, R197), merging and deferral (R157, R158),
completions (R236), fault service and replay (R385, R386), asynchronous traps (R382), evictions (R214) and unassigned opcodes (R55).
-/

namespace Sys2Proof.Machine

/-! ## Ends of waits -/

/-- A split whose wait has ended: READY, its PC past n words. -/
def Split.wakeUp (sp : Split) (n : Nat) : Split := { sp.advance n with st := .ready, wake := 0 }
/-- SLEEP_EXPIRY (R106): the PC has passed the SLEEP at issue. -/
def execSleepExpiry (who : SplitRef) (s : State) : Host.Outcome State Fault Refusal :=
  .next <|
    let sp := s.spl who
    if s.resident who == .sleep && decide (sp.wake ≤ s.dev.cycle) then s.updS who fun sp => { sp with st := .ready, wake := 0 } else s
/-- JOIN_LIMIT (R196): n cycles have passed. -/
def execJoinLimit (who : SplitRef) (s : State) : Host.Outcome State Fault Refusal :=
  .next <|
    let sp := s.spl who
    if s.resident who == .join && decide (sp.wake ≤ s.dev.cycle) then s.updS who fun sp => sp.wakeUp 1 else s
/-- Whether a wait's condition holds that needs no word of memory: YIELD from the cycle after its issue, a barrier's completed
phase, JOIN's holding of every unexited lane (R193, R196, R197). -/
def State.waitHolds (s : State) (who : SplitRef) : Bool :=
  let g := s.grp who.group
  let sp := s.spl who
  match s.resident who with
  | .join => g.holdsAll sp
  | .wait =>
    (match sp.wait with
     | .yield => decide (sp.wake ≤ s.dev.cycle)
     | .barrier id ph => decide (ph < ((s.blk (s.blockOf g)).barriers.getD id default).phase)
     | _ => false)
  | _ => false
/-- WAIT_CONDITION_HOLDS (R152): READY past the waiting instruction; a word is tested as its poll does. -/
def execWaitConditionHolds (who : SplitRef) (s : State) : Host.Outcome State Fault Refusal :=
  if s.waitHolds who then .next (s.updS who fun sp => sp.wakeUp 1)
  else match (s.spl who).wait with
    | .waita .. => execWaitaPoll who s
    | .swaitg .. => execSwaitgPoll who s
    | _ => .next s

/-! ## Merging and deferral (R157, R158) -/

/-- Whether two resident splits merge. -/
def mergeable (a b : Split) : Bool :=
  let ok (x : Split) : Bool := (x.st == .ready || x.st == .join) && !x.trap && !x.hasLatch
  ok a && ok b && a.pc == b.pc && decide (a.vmc + b.vmc ≤ 63) && decide (a.vsc + b.vsc ≤ 63) && decide (a.smc + b.smc ≤ 63) &&
    decide (a.xc + b.xc ≤ 63)
/-- The lanes in which a split issues its next instruction: all of its own, or those of a replay mask (R381). -/
def Split.nextLanes (sp : Split) : Mask := if sp.replayNow then sp.replay.getD sp.mask else sp.mask
/-- The merged split; one that leaves JOIN is READY at the JOIN. Lanes that a replay mask leaves out stay left out. -/
def Split.absorb (a b : Split) : Split :=
  { a with mask := a.mask ||| b.mask, vmc := a.vmc + b.vmc, vsc := a.vsc + b.vsc, smc := a.smc + b.smc, xc := a.xc + b.xc,
           st := if a.st == .join && b.st == .join then .join else .ready,
           replay := if a.replayNow || b.replayNow then some (a.nextLanes ||| b.nextLanes) else a.replay,
           replayNow := a.replayNow || b.replayNow }
/-- Merging entry j into entry i where the rule allows it; operations counted in j count in i. -/
def Group.mergePair (g : Group) (i j : Nat) : Group :=
  let a := g.splits.getD i default
  let b := g.splits.getD j default
  if i < j && mergeable a b then
    { g with splits := (g.splits.set i (a.absorb b)).set j Split.empty, freed := g.freed + 1,
             ops := g.ops.map fun op => { op with holders := op.holders.map fun h => if h = j then i else h } }
  else g
/-- The pairs of entries, in the order in which they merge. -/
def mergePairs : List (Nat × Nat) := [(0, 1), (0, 2), (0, 3), (1, 2), (1, 3), (2, 3)]
/-- Every merge of one cycle. -/
def Group.mergeAll (g : Group) : Group := mergePairs.foldl (fun g p => g.mergePair p.1 p.2) g
/-- A place among the blocking VACQs of a partition as a merge leaves it: the merged split waits in the earlier place (R158, R201). -/
def requeue (l : List (SplitRef × Nat)) (gone stays : SplitRef) : List (SplitRef × Nat) :=
  (l.map fun v => if v.1 = gone then (stays, v.2) else v).eraseDups
/-- The places of the splits that a group's merges absorb. -/
def Group.requeued (g : Group) (gi : Nat) (l : List (SplitRef × Nat)) : List (SplitRef × Nat) :=
  (mergePairs.foldl (fun (a : Group × List (SplitRef × Nat)) p =>
    let h := a.1.mergePair p.1 p.2
    (h, if h = a.1 then a.2 else requeue a.2 { group := gi, split := p.2 } { group := gi, split := p.1 })) (g, l)).2
/-- SPLIT_MERGE (R158). -/
def execSplitMerge (group : Nat) (s : State) : Host.Outcome State Fault Refusal :=
  let g := s.grp group
  .next <| if g.live? then
      (s.updG group Group.mergeAll).updCore g.coreIx fun c => { c with vacqs := g.requeued group c.vacqs }
    else s
/-- Whether a waiting split may move onto the deferred list (R157). -/
def Group.movable (g : Group) (now i : Nat) : Bool :=
  let sp := g.splits.getD i default
  sp.st == .wait && decide (sp.wake ≤ now) && sp.idleCtrs && !sp.hasLatch && !sp.trap &&
    !(g.async.any fun a => g.asyncTarget a == some i)
/-- A waiting split moves onto the deferred list. -/
def Group.putOff (g : Group) (i : Nat) : Group :=
  let g := g.push (g.splits.getD i default)
  { g with splits := g.splits.set i Split.empty }
/-- The splits that move in this cycle: lower entries first, at most as many as the list had entries at its start less those that
merges and exits have freed (R157). -/
def Group.movers (g : Group) (now : Nat) : List Nat :=
  if g.moved = now + 1 then [] else ((List.range g.splits.length).filter fun i => g.movable now i).take (g.listed - g.freed)
/-- SPLIT_DEFERRAL (R157): the moves of the cycle, made once, then the revivals into the FREE entries. -/
def execSplitDeferral (group : Nat) (s : State) : Host.Outcome State Fault Refusal :=
  .next <|
    let g := s.grp group
    let now := s.dev.cycle
    if !g.live? || g.deferred.isEmpty then s
    else
      let s := (g.movers now).foldl (fun s i => s.dropAwait { group := group, split := i }) s
      s.updG group fun g => { ((g.movers now).foldl (fun g i => g.putOff i) g).revive with moved := now + 1 }

/-! ## The memory unit -/

/-- MEMORY_COMPLETION (R236): destinations and flags are written and the counter falls. -/
def execMemoryCompletion (group op : Nat) (s : State) : Host.Outcome State Fault Refusal :=
  .next <|
    match s.findOp group op with
    | some p => if p.kind == .memory && s.outsideWindows p then s.updG group fun g => g.finish p else s
    | none => s
/-- A sector without the bytes that an eviction drops; none is held where no byte is left. -/
def Sector.without (x : Sector) (bytes : BitVec 64) : Sector := ({ x with valid := x.valid &&& ~~~bytes } : Sector).norm
/-- CACHE_EVICTION (R213, R214): some bytes of a sector leave a cache. The sector's dirty bytes go to the next level first if one of them
leaves; a line that `.keep` protects in L1 is not replaced (R215). -/
def execCacheEviction (level : CacheLevel) (index sector : Nat) (s : State) : Host.Outcome State Fault Refusal :=
  .next <|
    match level with
    | .l1 bytes =>
      if (s.core index).protects sector then s
      else
        let (s', ok) := if (s.l1At index sector).dirty &&& bytes = 0 then (s, true) else s.flushL1 index sector false
        if ok then s'.setL1 index sector ((s'.l1At index sector).without bytes) else s
    | .cluster bytes =>
      let (s', ok) := if (s.ccAt index sector).dirty &&& bytes = 0 then (s, true) else s.flushCC index sector
      if ok then s'.setCC index sector ((s'.ccAt index sector).without bytes) else s
    | .sampler => s.updCore index fun c => { c with scache := sset noSector c.scache sector noSector }
/-- PAGE_FAULT_SERVICE (R385): a record of a parked split, in its turn. -/
def execPageFaultService (group split : Nat) (s : State) : Host.Outcome State Fault Refusal :=
  .next <|
    let who : SplitRef := { group := group, split := split }
    match s.openRecord who with
    | some (p, f) =>
      if s.servedNext who then (s.updDev fun d => { d with servedCtx := (s.grp group).who.ctx }).serveRecord who p f else s
    | none => s
/-- A parked instruction that had asked for nothing is answered: a refused line traps PROTECTION; a wait tests its word again (R203); any other
goes on, with the registers as it read them, in the next cycle (R255, R386; `State.rerun`). -/
def State.replayEarly (s : State) (who : SplitRef) (p : Parked) : State :=
  match p.faults.find? (·.refused) with
  | some f =>
    if (s.grp who.group).trapElsewhere who.split then s
    else ((s.endEarly who p).as who fun s => s.trapAt 0x11 p.mask f.line).undraw (s.grp who.group).who.ctx (· == who)
  | none =>
    if p.src.isSome then s
    else (s.updS who fun sp => { sp with st := .wait, parked := none, pollBy := s.dev.cycle }).undraw (s.grp who.group).who.ctx (· == who)
/-- REPLAY (R386): once every record has been answered. -/
def execReplay (who : SplitRef) (s : State) : Host.Outcome State Fault Refusal :=
  .next <|
    match (s.spl who).parked with
    | some p =>
      if (s.spl who).st == .parked && p.faults.all fun f => f.resolved || f.refused then
        (if p.acc.lanes.isEmpty then s.replayEarly who p
         else s.as who fun s => if p.acc.rkind = texKind then s.replayTexture who p else s.replayParked who p)
      else s
    | none => s
/-- Whether a pending cause of a group can be taken now: its context is active on the core (R393), and its split can take it. -/
def State.asyncDue (s : State) (g : Group) (a : AsyncCause) : Bool :=
  g.live? && (s.core g.coreIx).active == g.who.cslot && match g.asyncTarget a with | some i => g.asyncReady i | none => false
/-- ASYNC_TRAP_DELIVERY (R382): the oldest pending cause whose split can take it. -/
def execAsyncTrapDelivery (group : Nat) (s : State) : Host.Outcome State Fault Refusal :=
  .next <|
    let g := s.grp group
    match g.async.find? (s.asyncDue g) with
    | none => s
    | some a =>
      match g.asyncTarget a with
      | none => s
      | some i =>
        let who : SplitRef := { group := group, split := i }
        let sp := s.spl who
        let s := s.updG group fun g => { g with async := g.async.erase a }
        s.takeTrap who
          { code := a.cause, info := 0, mask := sp.mask, addr := a.addr, pc := sp.pc, async := true, replay := none,
            resume := if sp.st == .wait || sp.st == .join then some sp.st else none }
/-- ILLEGAL_OPCODE (R55): step 2 of R56. -/
def execIllegalOpcode (_w : Word) (s : State) : Host.Outcome State Fault Refusal :=
  if s.curOk then .next (s.trapNow 0x01) else .fault .noIssuingSplit

end Sys2Proof.Machine
end

