-- ==== Sys2Proof/Machine/Saves.lean ====
section
/-!
DEFINITION. Saving, restoring and migrating blocks (R394 to R397, R203, R405): the save area's runs and image, and what a block
takes with it. A saved block stays in the state, marked; its image in memory is written, and a restore gives back what was saved
(log 18).
-/

namespace Sys2Proof.Machine

/-! ## The save area (R395, R396) -/

/-- The groups of a block's part, and the number of register blocks that a group has mapped. -/
def State.partGroups (s : State) (bi cpos : Nat) : List Nat := (s.blk bi).groups.filter fun gi => (s.grp gi).who.cpos == cpos
def Group.mapped (g : Group) : List Nat := (List.range 16).filter fun k => (g.regs.phys.getD k none).isSome
/-- The tiles of a context on a cluster, and whether it owns the spawn queue there. -/
def State.ownTiles (s : State) (c k : Nat) : List Nat :=
  (List.range 8).filter fun t => ((s.cl k).tiles.getD t default).owner == some c
def State.ownsQueue (s : State) (c k : Nat) : Bool := (s.cl k).spawnOwner == some c
/-- Whether no other block of the context is resident on the block's cluster. -/
def State.onlyBlock (s : State) (bi : Nat) : Bool :=
  let b := s.blk bi
  (List.range s.blocks.length).all fun j =>
    let x := s.blk j
    j == bi || !(x.live && !x.saved && x.ctx == b.ctx && x.cluster == b.cluster)
/-- The tiles and the queue that go with a block: with its first part, where no other block of the context needs them there. -/
def State.takenTiles (s : State) (bi cpos : Nat) : List Nat :=
  if cpos = 0 ∧ s.onlyBlock bi = true then s.ownTiles (s.blk bi).ctx (s.blk bi).cluster else []
def State.takesQueue (s : State) (bi cpos : Nat) : Bool :=
  cpos == 0 && s.onlyBlock bi && s.ownsQueue (s.blk bi).ctx (s.blk bi).cluster
/-- The bytes of a part's save area (R395). -/
def State.partSize (s : State) (bi cpos : Nat) : Nat :=
  0x440 + (if cpos = 0 then (s.blk bi).scratch else 0) +
    ((s.partGroups bi cpos).map fun gi => 32768 + 2048 * (s.grp gi).mapped.length).sum +
    98368 * (s.takenTiles bi cpos).length + (if s.takesQueue bi cpos then 9280 else 0)
/-- The units of 64 KiB of a part. -/
def State.partUnits (s : State) (bi cpos : Nat) : Nat := ceilDiv (s.partSize bi cpos) 65536
/-- The first fit of n units from the lowest address. -/
def firstFit : List (Nat × Nat) → Nat → Nat → Nat
  | [], _, at' => at'
  | (b, k) :: t, n, at' => if at' + n ≤ b then at' else firstFit t n (max at' (b + k))
/-- Runs for parts of the given sizes: the runs in use after, and the new ones; none where one finds no room. -/
def takeRuns (total : Nat) : List Nat → List (Nat × Nat) → Option (List (Nat × Nat) × List (Nat × Nat))
  | [], used => some (used, [])
  | n :: t, used =>
    let p := firstFit used n 0
    if p + n ≤ total then (takeRuns total t (insertRun used (p, n))).map fun r => (r.1, (p, n) :: r.2) else none

/-! ## The image (R395) -/

/-- n bytes that the manual leaves to the device: free values (log 18). -/
def State.freeBytes (s : State) (n : Nat) : List Byte × State := let (x, s) := s.free; (leBytes n x, s)
/-- A 192-byte deferred entry (R157). -/
def Deferred.bytes (d : Deferred) : List Byte :=
  let kind : Nat := match d.wait with | .yield => 0 | .waita .. => 1 | .swaitg .. => 2 | .barrier .. => 3
  let w : List Word :=
    [d.pc.truncate 32, BitVec.ofNat 32 (d.pc.toNat / 2 ^ 32), d.mask,
     BitVec.ofNat 32 (d.c.toNat + 16 * d.st.code + if d.st == .wait then 256 * kind else 0), BitVec.ofNat 32 d.seq]
  bytesOf (w ++ List.replicate 11 0 ++ (List.range 32).map fun k => sget 0 d.s k)
/-- n words of a list, zeros where it is shorter. -/
def wordsTo (n : Nat) (w : List Word) : List Word := (List.range n).map (wordAt w)
/-- A number as two words. -/
def natWords (n : Nat) : List Word := [BitVec.ofNat 32 n, BitVec.ofNat 32 (n / 2 ^ 32)]
/-- A bit as a word. -/
def boolWord (b : Bool) : Word := BitVec.ofNat 32 b.toNat
/-- The first 64 bytes of a group record. R395 names their contents; their order here is the model's (log 18). -/
def Group.headWords (g : Group) : List Word :=
  let a (k : Nat) : AsyncCause := g.async.getD k default
  let lanes := ((List.range 4).map fun k => (a k).lane * 2 ^ (5 * k)).sum
  wordsTo 16 ([BitVec.ofNat 32 g.who.gid, BitVec.ofNat 32 ((g.mapped.map fun k => 2 ^ k).sum), BitVec.ofNat 32 g.regs.segw,
      g.regs.rmode.zeroExtend 32, g.regs.flags.zeroExtend 32, BitVec.ofNat 32 g.regs.viewset,
      BitVec.ofNat 32 (g.async.length + 256 * lanes)] ++
    (List.range 4).flatMap fun k =>
      [(a k).addr.truncate 32, BitVec.ofNat 32 ((a k).addr.toNat / 2 ^ 32 + 2 ^ 24 * (a k).cause)])
/-- What R395 names of a split entry, 37 of its 64 words; the order is the model's (log 18). -/
def Split.entryWords (sp : Split) : List Word :=
  natWords sp.pc.toNat ++ [sp.mask, BitVec.ofNat 32 (sp.st.code + 16 * sp.trap.toNat + 256 * sp.c.toNat + 4096 * sp.replay.isSome.toNat),
    sp.replay.getD 0] ++ (List.range 32).map fun k => sget 0 sp.s k
/-- A triangle slot in 64 bytes; the order is the model's (log 18). -/
def TriSlot.words (t : TriSlot) : List Word :=
  wordsTo 16 (BitVec.ofNat 32 (t.ready.toNat + 2 * t.swapped.toNat + 4 * t.warp.stale.toNat + 256 * t.view + 65536 * t.strip) ::
    ((List.range 3).map (fun k => BitVec.ofInt 32 (t.xs.getD k 0)) ++ (List.range 3).map (fun k => BitVec.ofInt 32 (t.ys.getD k 0)) ++
      natWords (wrapN 64 t.area) ++
      [BitVec.ofNat 32 (t.warp.bx1 + 65536 * t.warp.bx2), BitVec.ofNat 32 (t.warp.by1 + 65536 * t.warp.by2), BitVec.ofNat 32 t.warp.codes,
       BitVec.ofNat 32 (t.warp.w + 65536 * t.warp.h), BitVec.ofNat 32 t.warp.sh]))
/-- A hit of a ray context, eight words. -/
def hitWords : Option RayHit → List Word
  | none => List.replicate 8 0
  | some h => [1, h.t, h.w1, h.w2, h.prim, h.inst, h.geom, boolWord h.front]
def RayState.code : RayState → Nat | .none => 0 | .running => 1 | .event => 2 | .done => 3
/-- The registers of a ray context, 40 of its 64 words; the traversal's own record is the device's (log 18). -/
def RayCtx.words (c : RayCtx) : List Word :=
  [BitVec.ofNat 32 (c.st.code + 16 * c.decision), BitVec.ofNat 32 c.visits, BitVec.ofNat 32 c.spilled, BitVec.ofNat 32 c.budget, c.flags] ++
    wordsTo 9 c.ray ++ wordsTo 4 c.bvh ++ [boolWord c.spill.isSome] ++ wordsTo 4 (c.spill.getD []) ++ hitWords c.hit ++ hitWords c.cand ++ [0]
/-- A group record without its v-register blocks (R395); what the table does not name inside a section is free (log 18). -/
def State.groupRecord (s : State) (gi : Nat) : List Byte × State :=
  let g := s.grp gi
  let (x, s) := s.freeBytes (4 * 108 + 32 * 96)
  let own (k n : Nat) : List Byte := (x.drop k).take n
  let entries := (List.range 4).flatMap fun i => bytesOf (g.splits.getD i default).entryWords ++ own (108 * i) 108
  let rays := (List.range 32).flatMap fun l => bytesOf (g.rays.getD l default).words ++ own (432 + 96 * l) 96
  let on := (g.deferred.take 16).flatMap (·.bytes)
  (bytesOf g.headWords ++ entries ++ bytesOf g.regs.p ++ bytesOf g.regs.rng ++
    bytesOf ((List.range 352).map fun k => sget 0 g.regs.s (32 + k)) ++ on ++ List.replicate (3072 - on.length) 0 ++
    bytesOf ((List.range 4).flatMap fun i => (g.tris.getD i default).words) ++
    bytesOf (wordsTo 32 (g.captures.flatMap fun c => natWords c.obj ++ natWords c.map)) ++ rays ++ List.replicate 18464 0, s)
/-- A mapped v-register block: register by register, lane by lane. -/
def Group.blockBytes (g : Group) (k : Nat) : List Byte :=
  bytesOf ((List.range 512).map fun i => sget 0 g.regs.v (k * 512 + i))
/-- A tile: its raw image and trailer. -/
def Tile.bytes (t : Tile) : List Byte :=
  (List.range 4096).flatMap (fun e => leBytes 24 (wrapN 192 (sget 0 t.x e))) ++
    bytesOf ([BitVec.ofNat 32 (wrapN 11 t.anchor), BitVec.ofNat 32 (t.ver + 65536 * t.tv),
              BitVec.ofNat 32 (ofBits [t.fault, t.ovf, t.loss, t.nv])] ++ List.replicate 13 0)
/-- The header of a part. -/
def State.saveHeader (s : State) (bi cpos : Nat) : List Byte :=
  let b := s.blk bi
  bytesOf ([0x14358, BitVec.ofNat 32 b.launch, BitVec.ofNat 32 b.block,
            BitVec.ofNat 32 ((s.partGroups bi cpos).length + 256 * cpos), BitVec.ofNat 32 b.scratch,
            BitVec.ofNat 32 (((s.takenTiles bi cpos).map fun t => 2 ^ t).sum + 256 * (s.takesQueue bi cpos).toNat)] ++
    List.replicate 10 0)
/-- Writing bytes of a save area; a line that the context no longer lets it write is passed over. -/
def State.putSave (s : State) (c va : Nat) (b : List Byte) : State := (s.writeHomeVA c va b).getD s
/-- Writing the image of a part. -/
def State.saveImage (s : State) (bi cpos va : Nat) : State :=
  let b := s.blk bi
  let k := s.cl b.cluster
  let tiles := (s.takenTiles bi cpos).map fun t => (k.tiles.getD t default).bytes
  let queue := if s.takesQueue bi cpos then bytesOf (k.spawn.flatMap (·.1)) else []
  let takes := s.takesQueue bi cpos
  let s := s.putSave b.ctx va (s.saveHeader bi cpos)
  let (o, s) := s.freeBytes 1024
  let s := s.putSave b.ctx (va + 0x40) o
  let n := if cpos = 0 then b.scratch else 0
  let s := if n = 0 then s else s.putSave b.ctx (va + 0x440) (getBs k.sram (b.scrOff * 4096) n)
  let (s, at') := (s.partGroups bi cpos).foldl (fun (a : State × Nat) gi =>
    let g := a.1.grp gi
    let (r, s) := a.1.groupRecord gi
    let d := r ++ g.mapped.flatMap g.blockBytes
    (s.putSave b.ctx a.2 d, a.2 + d.length)) (s, va + 0x440 + n)
  let (s, at') := tiles.foldl (fun (a : State × Nat) d => (a.1.putSave b.ctx a.2 d, a.2 + d.length)) (s, at')
  if takes then
    let (t, s) := s.freeBytes 64
    s.putSave b.ctx at' (queue ++ List.replicate (9216 - queue.length) 0 ++ t)
  else s

/-! ## Saving -/

/-- Whether a block's parts may be saved (R394). A running ray is suspended where it stands, between two visits (R362). -/
def State.savable (s : State) (bi : Nat) : Bool :=
  let b := s.blk bi
  let k := s.cl b.cluster
  b.live && !b.saved && (s.ctx b.ctx).st == .running &&
    (b.groups.all fun gi =>
      let g := s.grp gi
      (g.ops.all fun op => op.kind == .ray) && g.queue.isEmpty && g.splits.all fun sp => sp.st != .parked && !sp.hasLatch) &&
    !(k.matq.any fun m => m.block == bi) && !(k.copyq.any fun m => m.block == bi) && !(k.ports.any fun m => m.block == bi)
/-- Whether every unexited split of a block waits in SWAITG `.yield` (R203) on a word that Clove-S can read for itself: a block that waits on a
word behind a window is not saved for it (log 18). -/
def State.allYield (s : State) (bi : Nat) : Bool :=
  let yields (st : SState) (w : WaitKind) : Bool :=
    match st, w with | .wait, .swaitg kind _ _ y .. => y && kind != 3 && kind != 4 | _, _ => false
  (s.blk bi).groups.all fun gi =>
    let g := s.grp gi
    !g.live || ((g.splits.all fun sp => sp.st == .free || yields sp.st sp.wait) && g.deferred.all fun d => yields d.st d.wait)
/-- Whether a block may be saved for a reason: a slot streams out while another is active. -/
def State.mayStream (s : State) (bi : Nat) (why : SaveWhy) : Bool :=
  match why with
  | .preempt => true
  | .waitYield => s.allYield bi
  | .streamOut =>
    let b := s.blk bi
    b.cores.all fun core => (s.core core).ctxs.getD (s.core core).active none != some b.ctx
/-- What leaves the caches of a core with a context: dirty bytes are written back to the home slices, the rest is invalid (R394,
log 18). -/
def State.streamCaches (s : State) (core c : Nat) : State :=
  let sel (k : Nat) : Bool := !keyIsWs k && keyCtx k == c
  let s := (s.wbL1 core sel true).1
  let s := (s.wbCC (core / 4) sel).1
  let s := s.invL1 core sel
  if (s.core core).ctxs.getD (s.core core).active none = some c then s.emptySampler core else s
/-- A saved part leaves its slot-table entry; a context slot that streams out is EMPTY with its last entry (R184, R392). -/
def CoreSt.vacate (k : CoreSt) (c launch block : Nat) (out : Bool) : CoreSt :=
  let mine (n : Nat) : Bool := k.ctxs.getD n none == some c
  let slots := k.slots.map fun (e : SlotEntry) =>
    if e.st != .empty && mine e.bind.cslot && e.bind.launch == launch && e.bind.block == block then { e with st := SlotState.empty } else e
  let left (n : Nat) : Bool := slots.any fun e => e.st != .empty && e.bind.cslot == n
  let k := { k with slots := slots }
  if !out then k
  else { k with
    slotSt := (List.range k.slotSt.length).map fun n => if mine n then (if left n then 2 else 0) else k.slotSt.getD n 0
    ctxs := k.ctxs.zipIdx.map fun x => if mine x.2 && !left x.2 then none else x.1 }
/-- A save ends every SLEEP: the split continues at the following instruction after the restore (R106, R152). -/
def Split.endSleep (sp : Split) : Split := if sp.st = .sleep then { sp with st := .ready, wake := 0 } else sp
def Group.suspend (g : Group) : Group := { g with saved := true, splits := g.splits.map Split.endSleep }
/-- The save itself, into the runs given. -/
def State.saveInto (s : State) (bi : Nat) (why : SaveWhy) (used runs : List (Nat × Nat)) : State :=
  let b := s.blk bi
  let s := b.groups.foldl (fun s gi => s.updG gi Group.suspend) s
  let s := s.updC b.ctx fun c => { c with runs := used }
  let s := b.cores.foldl (fun s core => s.streamCaches core b.ctx) s
  let base := (s.ctx b.ctx).saveBase
  let s := (List.range runs.length).foldl (fun s p => s.saveImage bi p (base + 65536 * (runs.getD p (0, 0)).1)) s
  let lo := b.scrOff * 4096
  let k := s.cl b.cluster
  let image := (k.sram.filter fun e => decide (lo ≤ e.1) && decide (e.1 < lo + b.scratch)).map fun e => (e.1 - lo, e.2)
  let marks := (k.spoison.filter fun q => decide (lo ≤ q * 64) && decide (q * 64 < lo + b.scratch)).map fun q => q - lo / 64
  let s := (s.loseScratch b).updCl b.cluster fun k => k.depart b.ctx s.dev.cycle
  let s := b.cores.foldl (fun s core => s.updCore core fun k =>
    { k.vacate b.ctx b.launch b.block (why == .streamOut) with
        vacqs := k.vacqs.filter fun v => !b.groups.contains v.1.group }) s
  let s := { s with winReqs := s.winReqs.filter fun q => !b.groups.contains q.group }
  s.updB bi fun b => { b with saved := true, image := image, imagePoison := marks, runs := runs, why := why }
/-- Saving a block, or counting the save that finds no room (R396). -/
def State.saveBlock (s : State) (bi : Nat) (why : SaveWhy) : Option State :=
  let b := s.blk bi
  let sizes := (List.range b.cores.length).map fun p => s.partUnits bi p
  (takeRuns ((s.ctx b.ctx).saveLen / 65536) sizes (s.ctx b.ctx).runs).map fun r => s.saveInto bi why r.1 r.2
def State.refuseSave (s : State) (bi : Nat) : State :=
  s.updC (s.blk bi).ctx fun c => { c with savesRefused := c.savesRefused + 1 }
/-- BLOCK_SAVE (R394). -/
def execBlockSave (block : Nat) (why : SaveWhy) (s : State) : Host.Outcome State Fault Refusal :=
  .next <|
    if s.savable block && s.mayStream block why then (s.saveBlock block why).getD (s.refuseSave block) else s

/-! ## Restoring (R397) -/

/-- Whether a context slot of a core may take a context. -/
def CoreSt.slotFor (k : CoreSt) (c cslot : Nat) : Bool :=
  decide (cslot < 3) &&
    match k.ctxs.getD cslot none with
    | some c' => c' == c || k.slots.all fun e => e.st == .empty || e.bind.cslot != cslot
    | none => !(k.ctxs.contains (some c))
/-- Whether a part of a saved block finds room on a core: entry, context slot, group slots, register blocks. -/
def State.partFits (s : State) (bi cpos core entry cslot : Nat) (gslots : BitVec 64) : Bool :=
  let b := s.blk bi
  let k := s.core core
  let gs := s.partGroups bi cpos
  let used := s.slotsUsed core
  ((k.slots[entry]?).any fun e => e.st == .empty) && k.slotFor b.ctx cslot && decide (popN 64 gslots.toNat = gs.length) &&
    (gs.all fun gi => match groupSlot gslots (s.grp gi).who.gidx with | some x => !used.contains x | none => false) &&
    (List.range 8).all fun q =>
      decide (((gs.filter fun gi => (s.grp gi).part == q && (s.grp gi).live).map fun gi => (s.grp gi).mapped.length).sum +
        (s.physUsed core q).length ≤ 32)
/-- Whether the tiles and the queue of the block's context may move to another cluster, which must have them free (R397). -/
def State.tilesMove (s : State) (bi k : Nat) : Bool :=
  let b := s.blk bi
  let ts := s.ownTiles b.ctx b.cluster
  let q := s.ownsQueue b.ctx b.cluster
  k == b.cluster || (ts.isEmpty && !q) ||
    (s.onlyBlock bi && (ts.all fun t => ((s.cl k).tiles.getD t default).owner != some b.ctx && s.tileFree b.ctx k t) &&
      (!q || ((s.cl k).spawnOwner != some b.ctx && s.spawnFree b.ctx k)))
/-- Whether no queued matrix command names a tile that moves with the block: a move waits for them (R394, R407). -/
def State.tilesIdle (s : State) (bi k : Nat) : Bool :=
  let b := s.blk bi
  k == b.cluster || (s.ownTiles b.ctx b.cluster).all fun t => !((s.cl b.cluster).matq.any fun m => m.tile == t)
def placeCluster (p : Place) : Nat := (p.parts.headD (0, 0, 0, 0)).1 / 4
/-- Whether a saved block may be restored at a place. -/
def State.restorable (s : State) (bi : Nat) (p : Place) : Bool :=
  let b := s.blk bi
  let k := placeCluster p
  b.live && b.saved && (s.ctx b.ctx).st == .running && decide (k < 24) && !(s.cl k).fenced && p.parts.length == b.cores.length &&
    decide ((p.parts.map (·.1)).eraseDups.length = p.parts.length) && p.parts.all (fun x => x.1 / 4 == k) &&
    ((List.range p.parts.length).all fun i =>
      let x := p.parts.getD i (0, 0, 0, 0)
      s.partFits bi i x.1 x.2.1 x.2.2.1 x.2.2.2) &&
    s.scratchFree k p.scrOff b.scrLen && s.tilesMove bi k && s.tilesIdle bi k &&
    decide ((s.activeOffers k).length + ((s.cl b.cluster).offers.filter fun m => m.block == bi).length ≤ 16)
/-- Whether a saved split's SWAITG would end now, or trap (R203). -/
def State.awaitHolds (s : State) (c : Nat) : WaitKind → Bool
  | .swaitg kind va t _ _ _ _ =>
    if kind = 6 then s.wsReadable va 4 && reached (BitVec.ofNat 32 (leNat (getBs s.ws va 4))) t
    else match s.readXl c va 4 .r with
      | .got (b, p) _ => p || reached (BitVec.ofNat 32 (leNat b)) t
      | .wait => false
      | _ => true
  | _ => true
def State.yieldOver (s : State) (bi : Nat) : Bool :=
  let b := s.blk bi
  b.why != .waitYield || b.groups.any fun gi =>
    let g := s.grp gi
    g.live && ((g.splits.any fun sp => sp.st == .wait && s.awaitHolds b.ctx sp.wait) || g.deferred.any fun d => s.awaitHolds b.ctx d.wait)
/-- Placing a group: its core and slots change, its registers are mapped again, nothing else (R397). -/
def State.placeGroup (s : State) (gi core cslot : Nat) (gslots : BitVec 64) : State :=
  let g := s.grp gi
  let used := s.physUsed core g.part
  let free := (List.range 32).filter fun n => !used.contains n
  let mapped := g.mapped
  let phys := (List.range 16).map fun k => if mapped.contains k then free[(mapped.filter (· < k)).length]? else none
  s.updG gi fun g =>
    { g with saved := false, regs := { g.regs with phys := phys },
             who := { g.who with cluster := core / 4, core := core % 4, cslot := cslot,
                                 gslot := (groupSlot gslots g.who.gidx).getD 0 } }
/-- Moving a context's tiles, queue, and the block's waiting offers from one cluster to another. -/
def State.moveTiles (s : State) (bi k : Nat) : State :=
  let b := s.blk bi
  if k = b.cluster then s else
    let old := s.cl b.cluster
    let ts := s.ownTiles b.ctx b.cluster
    let q := s.ownsQueue b.ctx b.cluster
    let put (x : Cluster) : Cluster :=
      { x with tiles := (List.range 8).map fun t => if ts.contains t then old.tiles.getD t default else x.tiles.getD t default,
               spawnOwner := if q then some b.ctx else x.spawnOwner, spawn := if q then old.spawn else x.spawn,
               offers := x.offers ++ old.offers.filter fun m => m.block == bi }
    let drop (x : Cluster) : Cluster :=
      { x with tiles := (List.range 8).map fun t => if ts.contains t then Tile.reset else x.tiles.getD t default,
               spawnOwner := if q then none else x.spawnOwner, spawn := if q then [] else x.spawn,
               offers := x.offers.filter fun m => m.block != bi }
    (s.updCl k put).updCl b.cluster drop
/-- The scratchpad image in the new allocation. -/
def Cluster.putImage (k : Cluster) (b : Block) (off : Nat) : Cluster :=
  let lo := off * 4096
  let inside (a : Nat) : Bool := decide (lo ≤ a) && decide (a < lo + b.scratch)
  { k with sram := b.image.foldl (fun m e => setB m (lo + e.1) e.2) (sdropWhere inside k.sram),
           spoison := (k.spoison.filter fun q => !inside (q * 64)) ++ b.imagePoison.map fun q => q + lo / 64 }
/-- The bind record of a restored part. -/
def State.bindOf (s : State) (bi cpos cslot off : Nat) (gslots : BitVec 64) : BindRecord :=
  let b := s.blk bi
  let l := (s.launch? b.ctx b.launch).getD default
  { launch := b.launch, block := b.block, prio := l.rc.prio, ngrp := (s.partGroups bi cpos).length, cslot := cslot, cpos := cpos,
    scrLen := b.scrLen, scrOff := off, gslots := gslots, recAddr := l.recAddr, gen := l.gen }
/-- A slot that streams in is RESIDENT once no block that streamed out of the core is still saved (R392). -/
def State.streamedIn (s : State) (core c : Nat) : State :=
  if s.blocks.any fun b => b.live && b.saved && b.ctx == c && b.why == .streamOut && b.cores.contains core then s
  else s.updCore core fun k =>
    { k with slotSt := (List.range k.slotSt.length).map fun n =>
        if k.ctxs.getD n none = some c ∧ k.slotSt.getD n 0 = 3 then 1 else k.slotSt.getD n 0 }
/-- The restore itself. The caches of the new cores hold no bytes of the context older than the block's own (log 18). A part is RUNNING at once,
or DONE where its groups had all exited before the save: R184's table has no row for a restore (DEDUCED, log 18). -/
def State.restoreBlock (s : State) (bi : Nat) (p : Place) : State :=
  let b := s.blk bi
  let k := placeCluster p
  let sel (x : Nat) : Bool := !keyIsWs x && keyCtx x == b.ctx
  let s := s.moveTiles bi k
  let s := s.updCl k fun c => c.putImage b p.scrOff
  let s := b.groups.foldl (fun s gi => s.updG gi fun g => { g with saved := false }) s
  let s := (List.range p.parts.length).foldl (fun s i =>
    let x := p.parts.getD i (0, 0, 0, 0)
    let r := s.bindOf bi i x.2.2.1 p.scrOff x.2.2.2
    let (n, s) := s.newId
    let st : SlotState := if (s.partGroups bi i).any fun gi => (s.grp gi).live then .running else .done
    let s := s.updCore x.1 fun c =>
      { c with slots := c.slots.set x.2.1 { st := st, bind := r, order := n }, ctxs := c.ctxs.set x.2.2.1 (some b.ctx),
               slotSt := c.slotSt.set x.2.2.1 (if x.2.2.1 = c.active then 1 else 3) }
    let s := (s.partGroups bi i).foldl (fun s gi => if (s.grp gi).live then s.placeGroup gi x.1 x.2.2.1 x.2.2.2 else s) s
    s.invL1 x.1 sel) s
  let s := s.invCC k sel
  let s := s.updC b.ctx fun c => { c with runs := c.runs.filter fun r => !b.runs.contains r }
  let s := s.updB bi fun b =>
    { b with saved := false, cluster := k, cores := p.parts.map (·.1), scrOff := p.scrOff, image := [], imagePoison := [], runs := [] }
  (List.range s.cores.length).foldl (fun s core => s.streamedIn core b.ctx) s
/-- BLOCK_RESTORE (R397, R203): a saved block returns where there is room for it. -/
def execBlockRestore (block : Nat) (place : Place) (s : State) : Host.Outcome State Fault Refusal :=
  .next <| if s.restorable block place && s.yieldOver block then s.restoreBlock block place else s

/-! ## Migration (R405) -/

/-- Whether a cluster holds work. -/
def State.holdsWork (s : State) (k : Nat) : Bool := s.blocks.any fun b => b.live && !b.saved && b.cluster == k
/-- Whether every cluster that holds work is above THOT, and some cluster does (R406). -/
def State.allHot (s : State) : Bool :=
  let ks := (List.range 24).filter s.holdsWork
  !ks.isEmpty && ks.all fun k => decide (s.dev.thot < (s.cl k).therm.hot.toNat)
/-- Whether a range of a length is free somewhere in a cluster's scratchpad. -/
def State.scratchRoom (s : State) (k len : Nat) : Bool := (List.range 769).any fun off => s.scratchFree k off len
/-- The conditions of R405 on a block and a destination. -/
def State.mayMigrate (s : State) (bi k : Nat) : Bool :=
  let b := s.blk bi
  let hot := (s.cl b.cluster).therm.hot.toNat
  let cool := (s.cl k).therm.hot.toNat
  b.live && !b.saved && (s.ctx b.ctx).st == .running && k != b.cluster && !(s.cl k).fenced && decide (s.dev.thot < hot) && decide (cool < s.dev.thot) && decide (cool + 5 ≤ hot) &&
    (match b.lastMove with | none => true | some t => decide (t + 2 ^ 21 ≤ s.dev.cycle)) && s.tilesMove bi k && s.scratchRoom k b.scrLen
/-- The key by which a block is chosen: the bytes of its save area, LAUNCHID, BLOCK. -/
def State.moveKey (s : State) (bi : Nat) : Nat × Nat × Nat :=
  (((List.range (s.blk bi).cores.length).map fun p => s.partSize bi p).sum, (s.blk bi).launch, (s.blk bi).block)
def keyLe (a b : Nat × Nat × Nat) : Bool :=
  decide (a.1 < b.1) || (a.1 == b.1 && (decide (a.2.1 < b.2.1) || (a.2.1 == b.2.1 && decide (a.2.2 ≤ b.2.2))))
/-- Whether Clove-S would move this block to this cluster: the first candidate, the coolest destination. -/
def State.chosenMove (s : State) (bi k : Nat) : Bool :=
  let src := (s.blk bi).cluster
  let temp (j : Nat) : Nat := (s.cl j).therm.hot.toNat
  s.mayMigrate bi k && !s.allHot &&
    ((List.range s.blocks.length).all fun j =>
      (s.blk j).cluster != src || keyLe (s.moveKey bi) (s.moveKey j) || !((List.range 24).any fun d => s.mayMigrate j d)) &&
    (List.range 24).all fun d => !s.mayMigrate bi d || decide (temp k < temp d) || (temp k == temp d && decide (k ≤ d))
/-- MIGRATION (R397, R405): a save of every part, then a restore on the destination; a save without room is counted. It waits for the
conditions of R394 (R407). -/
def execMigration (block : Nat) (place : Place) (s : State) : Host.Outcome State Fault Refusal :=
  .next <|
    if !s.chosenMove block (placeCluster place) || !s.savable block || !s.tilesIdle block (placeCluster place) then s
    else match s.saveBlock block .preempt with
      | none => s.refuseSave block
      | some t =>
        if t.restorable block place then
          (t.restoreBlock block place).updB block fun b => { b with lastMove := some s.dev.cycle }
        else s

end Sys2Proof.Machine
end

