-- ==== Sys2Proof/Machine/SysRegs.lean ====
section
/-!
DEFINITION. System registers (R20 to R24, R103, R104) and the writes of CARVE, CLKRATIO and CTXCTL with what follows them
(R222, R223, R392, R393, R399).
-/

namespace Sys2Proof.Machine

/-- The numbers of R20: none is not in the table; the value says whether an SWR is allowed. -/
def sysAccess (n : Nat) : Option Bool :=
  if n ≤ 0x02 ∨ n = 0x28 ∨ n = 0x81 ∨ n = 0x82 ∨ (0x88 ≤ n ∧ n ≤ 0x8A) then some true
  else if (0x04 ≤ n ∧ n ≤ 0x0B) ∨ (0x10 ≤ n ∧ n ≤ 0x24) ∨ n = 0x29 ∨ n = 0x30 ∨ (0x32 ≤ n ∧ n ≤ 0x34) ∨ n = 0x80 ∨
      (0x83 ≤ n ∧ n ≤ 0x86) then some false
  else none

/-- The cycle counter of the issuing core (R24). -/
def State.cycleCount (s : State) : Nat := s.dev.cycle - (s.core (s.grp s.cur.group).coreIx).cycleBase
/-- IDX of the SEGMENT and LANE levels for a lane (R174). -/
def Group.laneIdx (g : Group) (dom lane : Nat) : Nat :=
  match (g.lch.dom.zip g.lch.ext).lookup 6 with
  | some n => let w := 32 / max n 1; if dom = 6 then lane / w else lane % w
  | none => if dom = 6 then 0 else lane
/-- IDXk (R20, R174): per-lane levels give the split's lowest active lane. -/
def State.idxReg (s : State) (k : Nat) : Nat :=
  let g := s.grp s.cur.group
  match g.lch.dom[k]? with
  | none => 0
  | some dom =>
    if 6 ≤ dom then g.laneIdx dom ((lowestLane (s.spl s.cur).mask).getD 0) else g.lch.idx.getD k 0
def State.wsref (s : State) : Word := BitVec.ofNat 32 (s.dev.wsLoad.toNat * 2 ^ 28 + s.dev.tick % 390)
def Cluster.carve (c : Cluster) : Word := BitVec.ofNat 32 (c.busy.toNat * 512 + c.pend.toNat * 256 + c.sps)
def Cluster.thermhr (c : Cluster) : Word :=
  BitVec.ofNat 32 (c.therm.hot.toNat * 2 ^ 24 + wrapN 8 c.therm.thr * 65536 + c.therm.ihr * 256 + c.therm.gen)
def CoreSt.ctxctl (c : CoreSt) : Word :=
  BitVec.ofNat 32 (c.busy.toNat * 65536 + c.target * 4096 + c.slotSt.getD 2 0 * 256 + c.slotSt.getD 1 0 * 64 +
    c.slotSt.getD 0 0 * 16 + c.active)
/-- The value of a readable number other than CYCLO. -/
def State.sysRead (s : State) (n : Nat) : Word :=
  let g := s.grp s.cur.group
  let sp := s.spl s.cur
  let c := s.cl g.who.cluster
  match n with
  | 0x00 => BitVec.ofNat 32 g.regs.segw
  | 0x01 => g.regs.rmode.zeroExtend 32
  | 0x02 => g.regs.flags.zeroExtend 32
  | 0x04 => BitVec.ofNat 32 s.cur.split
  | 0x05 => sp.mask
  | 0x06 => BitVec.ofNat 32 g.who.gid
  | 0x07 => BitVec.ofNat 32 g.part
  | 0x08 => BitVec.ofNat 32 g.who.core
  | 0x09 => BitVec.ofNat 32 g.who.cluster
  | 0x0A => s.dev.deviceId
  | 0x0B => BitVec.ofNat 32 g.who.ctx
  | 0x21 => sp.cychi
  | 0x22 => BitVec.ofNat 32 (c.lane16 / 16)
  | 0x23 => s.wsref
  | 0x24 => c.thermhr
  | 0x28 => BitVec.ofNat 32 g.regs.viewset
  | 0x29 => g.lch.stripdl &&& 0xFFFFF
  | 0x30 => BitVec.ofNat 32 (g.startedN % 256 * 65536 + g.taken % 256 * 256 + g.queue.length)
  | 0x32 => BitVec.ofNat 32 g.lch.itbeg
  | 0x33 => BitVec.ofNat 32 g.lch.itend
  | 0x34 => g.lch.itfix
  | 0x80 => sp.tcause
  | 0x81 => sp.tpc.truncate 32
  | 0x82 => BitVec.ofNat 32 (sp.tpc.toNat / 2 ^ 32)
  | 0x83 => sp.tmask
  | 0x84 => sp.taddr.truncate 32
  | 0x85 => BitVec.ofNat 32 (sp.taddr.toNat / 2 ^ 32)
  | 0x86 => sp.tsplit
  | 0x88 => c.carve
  | 0x89 => BitVec.ofNat 32 (s.dev.fstep * 65536 + c.ratio)
  | 0x8A => (s.core g.coreIx).ctxctl
  | _ =>
    if n < 0x18 then BitVec.ofNat 32 (s.idxReg (n - 0x10))
    else BitVec.ofNat 32 ((g.lch.ext[n - 0x18]?).getD 1)

/-- A read of CYCLO: the low half, with the high half captured in the split's CYCHI (R24). -/
def State.readCyclo (s : State) : Word × State :=
  let n := s.cycleCount
  (BitVec.ofNat 32 n, s.updS s.cur fun sp => { sp with cychi := BitVec.ofNat 32 (n / 2 ^ 32) })
/-- The access checks of R20: the trap code. -/
def State.sysCheck (s : State) (n : Nat) (write : Bool) : Option Nat :=
  match sysAccess n with
  | none => some 0x02
  | some w =>
    if 128 ≤ n && !(s.spl s.cur).trap then some 0x06
    else if write && !w then some 0x02
    else none
def srdBody (o : S64) (s : State) : State :=
  let n := o.aux.toNat % 256
  match s.sysCheck n false with
  | some code => s.trapNow code
  | none =>
    let (v, s) := if n = 0x20 then s.readCyclo else (s.sysRead n, s)
    ((s.writeSel o.sd.toNat v).writeCf o.cf v.toNat).advance 2
/-- SRD (R103). -/
def execSrd (o : S64) (s : State) : Host.Outcome State Fault Refusal := issue (.s64 0x38 o) s (srdBody o)
/-- SRD of CYCLO (R24). -/
def execCycloRead (o : S64) (s : State) : Host.Outcome State Fault Refusal :=
  issue (.s64 0x38 o) s fun s =>
    let (v, s) := s.readCyclo
    ((s.writeSel o.sd.toNat v).writeCf o.cf v.toNat).advance 2

/-! ## CARVE, CLKRATIO, CTXCTL -/

/-- A write of CARVE's SPS (R222, R223); none where it is refused. -/
def Cluster.writeCarve (c : Cluster) (v : Word) : Option Cluster :=
  let n := v.toNat % 8
  if n < 2 ∨ 6 < n ∨ c.busy ∨ c.pend then none
  else if n = c.sps then some c
  else if c.sps < n then some { c with busy := true, oldSps := c.sps, sps := n }
  else some { c with pend := true, oldSps := c.sps, sps := n }
/-- CARVE_WRITE (R222, R223): a write by management; a refused value has no effect. -/
def execCarveWrite (cluster : Nat) (value : Word) (s : State) : Host.Outcome State Fault Refusal :=
  .next (s.updCl cluster fun c => (c.writeCarve value).getD c)
/-- CARVE_GROWTH_DONE (R223): converting lines are written back and invalid, the units join the scratchpad, BUSY clears. The
model empties the whole cluster cache, as evictions may (log 15). -/
def execCarveGrowthDone (cluster : Nat) (s : State) : Host.Outcome State Fault Refusal :=
  let c := s.cl cluster
  if !c.busy then .next s else
    let (s, failed) := s.wbCC cluster fun _ => true
    if !failed.isEmpty then .next s else
      let n := (c.sps - c.oldSps) * unitBytes
      let s := s.updCl cluster fun c =>
        { c with cache := [], busy := false, sram := freeRange c.sram (c.oldSps * unitBytes) n s.fresh }
      .next { s with fresh := s.fresh + n }
/-- Whether a resident block of a cluster holds a byte at or above a scratchpad address. -/
def State.scratchAbove (s : State) (cluster lo : Nat) : Bool :=
  s.blocks.any fun b => b.live && !b.saved && b.cluster == cluster && decide (lo < (b.scrOff + b.scrLen) * 4096) && b.scrLen != 0
/-- CARVE_SHRINK_DONE (R223). -/
def execCarveShrinkDone (cluster : Nat) (s : State) : Host.Outcome State Fault Refusal :=
  let c := s.cl cluster
  if c.pend && !s.scratchAbove cluster (c.sps * unitBytes) then
    .next (s.updCl cluster fun c =>
      { c with pend := false, sram := c.sram.filter fun e => decide (e.1 < c.sps * unitBytes),
               spoison := c.spoison.filter fun k => decide (k * 64 < c.sps * unitBytes) })
  else .next s
/-- A new RATIO: the register at once, the lane clock 64 cycles later. -/
def Cluster.setRatio (c : Cluster) (n now : Nat) : Cluster := { c with ratio := n, ratioNext := c.ratioNext ++ [(n, now + 64)] }
/-- The thermal event (R416): FSTEP and the RATIO concerned. -/
def State.thermalEvent (s : State) (ratio : Nat) : State :=
  s.event s.deviceQueue 0xFFFFFFFF 4 [BitVec.ofNat 32 s.dev.fstep, BitVec.ofNat 32 ratio]
/-- CLKRATIO_WRITE (R399, R436): Clove-S writes RATIO; the lane clock changes 64 cycles later; a lowering is reported; other values are
refused. -/
def execClkratioWrite (cluster : Nat) (value : Word) (s : State) : Host.Outcome State Fault Refusal :=
  let n := value.toNat % 32
  .next <|
    if 4 ≤ n ∧ n ≤ 16 then
      let t := s.updCl cluster fun c => c.setRatio n s.dev.cycle
      if n < (s.cl cluster).ratio then t.thermalEvent n else t
    else s
/-- Switching the active context slot (R393): the sampler and record caches are invalidated. -/
def CoreSt.switch (c : CoreSt) : CoreSt :=
  if c.busy || c.slotSt.getD c.target 0 != 1 then c else { c with active := c.target, scache := [] }
/-- CTXCTL_GO (R392, R393): Clove-S writes TARGET, and with GO switches to it; the context switched out departs (R404). A write by
Clove-S issues from no split, so that its TARGET of 3 is only refused; an SWR traps PRIVILEGE first (log 18). -/
def execCtxctlGo (core : Nat) (value : Word) (s : State) : Host.Outcome State Fault Refusal :=
  let t := wfield value 13 12
  .next <|
    if t = 3 then s else
      let old := s.core core
      let s := s.updCore core fun c =>
        let c := { c with target := t }
        if nbit value.toNat 15 then c.switch else c
      match old.ctxs.getD old.active none with
      | some x => if (s.core core).active = old.active then s else s.updCl (core / 4) fun k => k.depart x s.dev.cycle
      | none => s

/-- SWR's effect after the access checks (R104). -/
def State.sysWrite (s : State) (n : Nat) (v : Word) : State :=
  let regs (f : GroupRegs → GroupRegs) : State := (s.updG s.cur.group fun g => { g with regs := f g.regs }).advance 2
  match n with
  | 0x00 => if v ∈ [32, 16, 8, 4, 2] then regs fun r => { r with segw := v.toNat } else s.trapNow 0x02
  | 0x01 => if v.toNat % 8 = 0 ∨ v.toNat % 8 = 7 then s.trapNow 0x02 else regs fun r => { r with rmode := v.truncate 5 }
  | 0x02 => regs fun r => { r with flags := v.truncate 9 }
  | 0x28 => if v.toNat ≤ 3 then regs fun r => { r with viewset := v.toNat } else s.trapNow 0x02
  | 0x81 => (s.updS s.cur fun sp => { sp with tpc := BitVec.ofNat 56 (sp.tpc.toNat / 2 ^ 32 * 2 ^ 32 + v.toNat) }).advance 2
  | 0x82 => (s.updS s.cur fun sp => { sp with tpc := BitVec.ofNat 56 (v.toNat % 2 ^ 24 * 2 ^ 32 + sp.tpc.toNat % 2 ^ 32) }).advance 2
  | 0x88 =>
    let k := (s.grp s.cur.group).who.cluster
    (match (s.cl k).writeCarve v with
     | some c => (s.updCl k fun _ => c).advance 2
     | none => s.trapNow 0x02)
  | _ => s.trapNow 0x06
/-- SWR (R104); CLKRATIO and CTXCTL are written by Clove-S only (R392, R399). -/
def execSwr (o : S64) (s : State) : Host.Outcome State Fault Refusal :=
  issue (.s64 0x39 o) s fun s =>
    let n := o.aux.toNat % 256
    match s.sysCheck n true with
    | some code => s.trapNow code
    | none => s.sysWrite n (s.srcA o)

end Sys2Proof.Machine
end

