-- ==== Sys2Proof/Machine/Power.lean ====
section
/-!
DEFINITION. Power, current and heat (R399 to R407), refresh windows (R227), and storage errors (R433 to R435).
-/

namespace Sys2Proof.Machine

/-! ## Samples, energy, steps (R400, R404, R406) -/

/-- THR: THOT − HOT as a signed 8-bit value saturating at ±127. -/
def headroom (thot hot : Nat) : Int := clampI (-127) 127 ((thot : Int) - hot)
/-- Charging a cluster's energy, a free value, to the contexts whose blocks ran there, by issued operations (R404, log 19). -/
def State.chargeCluster (s : State) (k : Nat) : State :=
  let by' := (s.cl k).issuedBy
  let total := (by'.map (·.2)).sum
  if total = 0 then s else
    let (e, s) := s.free
    (by'.foldl (fun s x => s.updC x.1 fun c => { c with energy := c.energy + e * x.2 / total }) s).updCl k fun c => { c with issuedBy := [] }
/-- Whether every cluster's HOT is at least 5 °C below THOT. -/
def State.allCool (s : State) : Bool := s.clusters.all fun k => decide (k.therm.hot.toNat + 5 ≤ s.dev.thot)
/-- Whether a cluster's HOT is above THOT + 10 °C. -/
def State.veryHot (s : State) (k : Nat) : Bool := decide (s.dev.thot + 10 < (s.cl k).therm.hot.toNat)
/-- The sensors as they read from now on. -/
def State.sense (s : State) (readings : List (BitVec 8 × BitVec 8)) : State :=
  { s with clusters := (List.range s.clusters.length).map fun k =>
      match readings[k]? with
      | none => s.cl k
      | some r => { s.cl k with sensor := r } }
/-- Taking the sensors of every cluster into THERMHR: HOT, headroom, and the limiter's GEN (R400). -/
def State.sampled (s : State) : State :=
  { s with clusters := s.clusters.map fun c => { c with therm :=
      { hot := c.sensor.1, thr := headroom s.dev.thot c.sensor.1.toNat, ihr := min 100 c.sensor.2.toNat, gen := s.dev.limiter.gen } } }
/-- The ticks of 10 µs. -/
def samplePeriod : Nat := 1000
/-- Clove-S's sample of every cluster: energy is charged, and the spans of R406 that a reading breaks begin again. -/
def State.takeSample (s : State) : State :=
  let t := (List.range 24).foldl (fun s k => s.chargeCluster k) s
  let t := t.sampled.updDev fun d => { d with sampledAt := d.tick }
  let t := if s.allCool && t.allCool then t else t.updDev fun d => { d with coolSince := d.tick }
  (List.range 24).foldl (fun t k =>
    if s.veryHot k && t.veryHot k then t else t.updCl k fun c => { c with hotFor := t.dev.tick }) t
/-- The state after power-on up to a stage, with what does not depend on power: flash, fuses, and the model's own fields. -/
def State.cold (s : State) (stage : Nat) (trip : Bool) : State :=
  { State.reset with
      boot := { s.boot with stage := stage, tripped := trip, seqOpen := none }
      schedule := s.schedule, fresh := s.fresh, nextId := s.nextId, outbox := s.outbox }
/-- The hardware trip (R436): all cores, engines and ports stop, every context is lost; only a power cycle goes on. -/
def State.trip (s : State) : State := s.cold 0 true
/-- THERMHR_SAMPLE (R400): the sensors read as given; the sample is taken when 10 µs have passed since the last. A sensor at 120 °C or more
trips the hardware at once (R436). -/
def execThermhrSample (readings : List (BitVec 8 × BitVec 8)) (s : State) : Host.Outcome State Fault Refusal :=
  .next <|
    let s := s.sense readings
    if s.clusters.any fun c => decide (120 ≤ c.sensor.1.toNat) then s.trip
    else if s.dev.sampledAt + samplePeriod ≤ s.dev.tick then s.takeSample else s
/-- FSTEP_RAISE (R406): while every cluster that holds work is above THOT, every 100 µs, up to 6. The event's RATIO concerns no
cluster: a free value (log 19). -/
def execFstepRaise (s : State) : Host.Outcome State Fault Refusal :=
  .next <|
    if s.allHot && decide (s.dev.fstep < 6) && decide (s.dev.fstepAt + 10000 ≤ s.dev.tick) then
      let (x, s) := s.free
      (s.updDev fun d => { d with fstep := d.fstep + 1, fstepAt := d.tick }).thermalEvent x
    else s
/-- FSTEP_LOWER (R406): after each 1 ms in which every cluster stayed 5 °C below THOT. -/
def execFstepLower (s : State) : Host.Outcome State Fault Refusal :=
  .next <|
    if s.allCool && decide (0 < s.dev.fstep) && decide (s.dev.coolSince + 100000 ≤ s.dev.tick) then
      s.updDev fun d => { d with fstep := d.fstep - 1, coolSince := d.tick }
    else s
/-- RATIO_LOWER (R406): at FSTEP 6, a cluster above THOT + 10 °C for 1 ms; one step of RATIO toward 4 (log 19). -/
def execRatioLower (cluster : Nat) (s : State) : Host.Outcome State Fault Refusal :=
  .next <|
    let c := s.cl cluster
    if s.dev.fstep == 6 && s.veryHot cluster && decide (c.hotFor + 100000 ≤ s.dev.tick) && decide (4 < c.ratio) then
      let s := s.updCl cluster fun c => { c.setRatio (c.ratio - 1) s.dev.cycle with hotFor := s.dev.tick }
      s.thermalEvent (c.ratio - 1)
    else s

/-! ## The slew limiter (R401, R402) -/

/-- Whether an engine of a cluster holds a command: a queue entry, a command in the port, a texture, raster, lens or ray operation of a group that
is resident. -/
def State.engineBusy (s : State) (k : Nat) : Bool :=
  let c := s.cl k
  !c.matq.isEmpty || !c.copyq.isEmpty || !c.ports.isEmpty || !c.offers.isEmpty ||
    s.groups.any fun g => !g.saved && g.who.cluster == k && g.ops.any fun op => op.ctr == .xc
/-- CLUSTER_IDLE (R401): 1,024 whole cycles have passed without an issue or an engine command. -/
def execClusterIdle (cluster : Nat) (s : State) : Host.Outcome State Fault Refusal :=
  .next <|
    let c := s.cl cluster
    if !c.idle && !s.engineBusy cluster && decide (c.last + 1025 ≤ s.dev.cycle) then
      s.updCl cluster fun c => { c with idle := true }
    else s
/-- Whether a group is parked as a whole, at a line that a release cannot write (R255). -/
def Group.parkedWhole (g : Group) : Bool := g.splits.any fun sp => sp.st == .parked && sp.parked.any (·.whole)
/-- Whether a split could issue but for the limiter and its instruction (R187): READY, of the core's active context, held by no interlock, no
window access of its own outstanding (log 20). -/
def State.eligible (s : State) (who : SplitRef) : Bool :=
  let g := s.grp who.group
  let sp := s.spl who
  g.live? && sp.st == .ready && decide (sp.stall ≤ s.dev.cycle) && (s.core g.coreIx).active == g.who.cslot &&
    (s.ctx g.who.ctx).st == .running && !g.windowPending who.split && !g.parkedWhole
/-- The clusters that request admission, in ascending order. -/
def State.requests (s : State) : List Nat :=
  (List.range 24).filter fun k => (s.cl k).wants && (s.cl k).idle && !(s.cl k).waiting && !(s.cl k).fenced
/-- The order in which the requests of one cycle are queued: a wave of two or more starts at GEN. -/
def waveOrder (gen : Nat) (l : List Nat) : List Nat :=
  if 2 ≤ l.length then (l.filter fun k => decide (gen ≤ k)) ++ l.filter fun k => decide (k < gen) else l
/-- Queueing the requests of a cycle; a wave advances GEN. -/
def State.queueRequests (s : State) : State :=
  let l := s.requests
  if l.isEmpty then s else
    let s := l.foldl (fun s k => s.updCl k fun c => { c with waiting := true, wants := false }) s
    s.updDev fun d => { d with limiter := { d.limiter with
      queue := d.limiter.queue ++ waveOrder d.limiter.gen l,
      gen := if 2 ≤ l.length then (d.limiter.gen + 1) % 24 else d.limiter.gen } }
/-- Whether the limiter is free: no admission in the last 128 cycles. -/
def State.limiterFree (s : State) : Bool := match s.dev.limiter.last with | none => true | some t => decide (t + 128 ≤ s.dev.cycle)
/-- CLUSTER_ADMISSION (R402). -/
def execClusterAdmission (s : State) : Host.Outcome State Fault Refusal :=
  .next <|
    let s := s.queueRequests
    match s.dev.limiter.queue with
    | [] => s
    | k :: t =>
      if !s.limiterFree then s
      else
        let s := s.updDev fun d => { d with limiter := { d.limiter with queue := t, last := some d.cycle } }
        s.updCl k fun c => { c with idle := false, waiting := false, last := s.dev.cycle }
/-- FILLER_OPERATION (R403, R404): nothing but the energy accounts of the contexts that departed last changes: the estimated energy, which the
event carries, goes to the one, or is divided by their operations over the 1,024 lane cycles before they departed (evenly where they have none,
log 19). -/
def execFillerOperation (cluster energy : Nat) (s : State) : Host.Outcome State Fault Refusal :=
  .next <|
    let k := s.cl cluster
    let total := (k.departed.map (·.2)).sum
    k.departed.foldl (fun s d => s.updC d.1 fun x =>
      { x with energy := x.energy + (if total = 0 then energy / k.departed.length else energy * d.2 / total) }) s
/-- REFRESH_WINDOW (R227): a region's window begins or ends with the reference clock; delayed reads are tested again. -/
def execRefreshWindow (region : Nat) (s : State) : Host.Outcome State Fault Refusal :=
  .next (if s.inWindow region then s else s.unhold)

/-! ## Storage errors (R433 to R435) -/

/-- The index of a count: kinds 3 to 7 cluster by cluster, then kinds 0 to 2 of the device. -/
def countIx (kind cluster : Nat) : Nat := if kind < 3 then 120 + kind else 5 * cluster + (kind - 3)
/-- Counting an error. -/
def State.countError (s : State) (kind cluster : Nat) (corrected : Bool) : State :=
  s.updDev fun d => { d with errors := upd d.errors (countIx kind cluster) fun e =>
    if corrected then { e with corrected := min (2 ^ 32 - 1) (e.corrected + 1) }
    else { e with uncorrectable := min (2 ^ 32 - 1) (e.uncorrectable + 1) } }
/-- An uncorrectable error: counted, and logged as KIND 5 with POISON in the context that owns the data (R435). -/
def State.logError (s : State) (kind cluster : Nat) (owner : Option (Nat × Nat)) : State :=
  let s := s.countError kind cluster false
  match owner with
  | none => s
  | some (c, va) =>
    s.addLog c { seq := 0, kind := 5, cause := 0x14, core := 0, cluster := if kind < 3 then 0 else cluster, group := 0, block := 0,
                 mask := 0, addr := BitVec.ofNat 56 va, pc := 0 }
/-- The device VA at which a context maps a physical address. -/
def Context.vaOf (c : Context) (p : Nat) : Option Nat :=
  match c.resident.find? fun e => e.2 == p / pageBytes + 1 with
  | some e => some (e.1 * pageBytes + p % pageBytes)
  | none =>
    (c.maps.flatMap (·.pages)).findSome? fun x => if x.2.2 ≤ p ∧ p < x.2.2 + pageSize x.2.1 then some (x.1 + (p - x.2.2)) else none
/-- The context that owns a physical address, with its VA. -/
def State.ownerOf (s : State) (p : Nat) : Option (Nat × Nat) :=
  (List.range s.ctxs.length).findSome? fun c => ((s.ctx c).vaOf p).map fun va => (c, va)
/-- The context granted a byte of the weight store. -/
def State.wsOwner (s : State) (a : Nat) : Option (Nat × Nat) :=
  ((List.range s.ctxs.length).find? fun c => (s.ctx c).granted a 1).map fun c => (c, a)
/-- The owner of a cached sector. -/
def State.keyOwner (s : State) (k : Nat) : Option (Nat × Nat) := if keyIsWs k then s.wsOwner (keyVa k) else some (keyCtx k, keyVa k)
/-- Adding a mark once. -/
def mark (l : List Nat) (x : Nat) : List Nat := if l.contains x then l else x :: l
/-- An uncorrectable error of a unit: clean cached data is fetched again and counts as corrected; the rest is poisoned. -/
def State.strike (s : State) : StorageUnit → State
  | .gddr q => (s.updDev fun d => { d with poison := mark d.poison q }).logError 0 0 (s.ownerOf (q * 64))
  | .weightStore q => (s.updDev fun d => { d with wsPoison := mark d.wsPoison q }).logError 1 0 (s.wsOwner (q * 64))
  | .link _ => s.updDev fun d => { d with linkErrors := d.linkErrors + 1 }
  | .l2 q clean =>
    if clean then s.countError 2 0 true else (s.updDev fun d => { d with poison := mark d.poison q }).logError 2 0 (s.ownerOf (q * 64))
  | .sram k q =>
    let c := s.cl k
    let units := scratchUnits c * 8192
    if q < units then
      let owner := (s.blocks.find? fun b => b.live && !b.saved && b.cluster == k && decide (b.scrOff * 64 ≤ q) &&
        decide (q < (b.scrOff + b.scrLen) * 64)).map fun b => (b.ctx, 0)
      (s.updCl k fun c => { c with spoison := mark c.spoison q }).logError 3 k owner
    else match c.cache[q - units]? with
      | none => s.countError 3 k true
      | some (key, x) =>
        if x.dirty = 0 then (s.setCC k key noSector).countError 3 k true
        else (s.setCC k key { x with poison := true }).logError 3 k (s.keyOwner key)
  | .l1 core key =>
    let x := s.l1At core key
    if x.dirty = 0 then (s.setL1 core key noSector).countError 4 (core / 4) true
    else (s.setL1 core key { x with poison := true }).logError 4 (core / 4) (s.keyOwner key)
  | .sampler core key =>
    (s.updCore core fun c => { c with scache := sset noSector c.scache key noSector }).countError 5 (core / 4) true
  | .vreg gi reg lane =>
    let w := (s.grp gi).who
    (s.updG gi fun g => { g with regs := { g.regs with vpoison := mark g.regs.vpoison (reg * 32 + lane) } }).logError 6 w.cluster
      (some (w.ctx, 0))
  | .sreg who n =>
    let w := (s.grp who.group).who
    let s := if n < 32 then s.updS who fun sp => { sp with spoison := mark sp.spoison n }
      else s.updG who.group fun g => { g with regs := { g.regs with spoison := mark g.regs.spoison n } }
    s.logError 6 w.cluster (some (w.ctx, 0))
  | .latch who n lane =>
    let w := (s.grp who.group).who
    (s.updS who fun sp => { sp with latches := upd sp.latches n fun l => { l with poison := l.poison ||| maskOf (· == lane) } }).logError
      6 w.cluster (some (w.ctx, 0))
  | .tile k t e =>
    let owner := ((s.cl k).tiles.getD t default).owner
    (s.updCl k fun c => { c with tiles := upd c.tiles t fun x => { x with poison := mark x.poison e } }).logError 7 k
      (owner.map fun c => (c, 0))
/-- The storage kind and cluster of a unit (R419). -/
def State.unitKind (s : State) : StorageUnit → Nat × Nat
  | .gddr _ | .link _ => (0, 0)
  | .weightStore _ => (1, 0)
  | .l2 _ _ => (2, 0)
  | .sram k _ => (3, k)
  | .l1 core _ => (4, core / 4)
  | .sampler core _ => (5, core / 4)
  | .vreg gi _ _ => (6, (s.grp gi).who.cluster)
  | .sreg who _ => (6, (s.grp who.group).who.cluster)
  | .latch who _ _ => (6, (s.grp who.group).who.cluster)
  | .tile k _ _ => (7, k)
/-- A link failure is retried and only counted, apart from the counts of R435 (R433). -/
def isLinkUnit : StorageUnit → Bool | .link _ => true | _ => false
/-- STORAGE_ERROR (R433, R435). -/
def execStorageError (what : StorageUnit) (corrected : Bool) (s : State) : Host.Outcome State Fault Refusal :=
  .next (if corrected && !isLinkUnit what then s.countError (s.unitKind what).1 (s.unitKind what).2 true else s.strike what)

end Sys2Proof.Machine
end

