-- ==== Sys2Proof/Machine/Boot.lean ====
section
/-!
DEFINITION. Boot, firmware and attestation (R426 to R432), the hardware trip (R436), and the ports' own traffic (R409, R410).
-/

namespace Sys2Proof.Machine

/-! ## Firmware images (R427 to R429) -/

/-- The bytes of a slot, and the slot record that ends its image area. -/
def slotBytes : Nat := 16777216
def FlashSlot.bytes (f : FlashSlot) (a n : Nat) : List Byte := getBs f.data a n
def FlashSlot.word (f : FlashSlot) (a : Nat) : Nat := leNat (f.bytes a 4)
/-- The sizes of Clove-S and Clove-M code in a header. -/
def FlashSlot.ls (f : FlashSlot) : Nat := f.word 8
def FlashSlot.lm (f : FlashSlot) : Nat := f.word 12
/-- The length of the image (R428). -/
def FlashSlot.size (f : FlashSlot) : Nat := 256 + f.ls + f.lm
def FlashSlot.svn (f : FlashSlot) : Nat := field (f.word 4) 5 0
def FlashSlot.rollup (f : FlashSlot) : Bool := nbit (f.word 4) 8
/-- The header's fields (R428). -/
def FlashSlot.headerOk (f : FlashSlot) : Bool :=
  f.word 0 == 0x14657 && field (f.word 4) 31 9 == 0 && field (f.word 4) 7 6 == 0 && decide (f.ls % 64 = 0 ∧ f.lm % 64 = 0) &&
    decide (f.word 16 < f.ls ∧ f.word 20 < f.lm) && (f.bytes 24 40).all (· == 0) && decide (f.size + 64 ≤ slotBytes)
/-- The digest of the header and code. -/
def FlashSlot.digest (f : FlashSlot) : BitVec 384 := sha384 (f.bytes 0 (64 + f.ls + f.lm))
/-- The checks of R427 against a minimum security version. -/
def FlashSlot.accepted (f : FlashSlot) (least : Nat) : Bool :=
  let at' := 64 + f.ls + f.lm
  let key := f.bytes at' 96
  let sig := f.bytes (at' + 96) 96
  f.headerOk && sha384 key == Config.rootKeyDigest &&
    ecdsaVerify (beNat (key.take 48), beNat (key.drop 48)) f.digest (beNat (sig.take 48), beNat (sig.drop 48)) && decide (least ≤ f.svn)

/-! ## FLASH (R429) -/

/-- Which slot and queue pair a step concerns, or the status that refuses it before its own checks. -/
def State.flashCmd (s : State) (c : Cmd) (step : Nat) (perform : Nat → State × Answer) : State × Answer :=
  if !c.device ∨ c.len = 0 ∨ (step ≠ 1 ∧ c.len ≠ 1) ∨ (step = 1 ∧ c.len < 3) then (s, status 1)
  else if s.boot.seqOpen.any fun o => o.q != c.q then (s, status 6)
  else perform ((c.w 0).toNat / 256 % 2)
def State.updSlot (s : State) (n : Nat) (f : FlashSlot → FlashSlot) : State :=
  { s with boot := { s.boot with slots := upd s.boot.slots n f } }
/-- Whether a message is this step of FLASH. -/
def Cmd.flashStep (c : Cmd) (n : Nat) : Bool := (c.w 0).toNat % 4 == n
/-- FLASH_BEGIN (R429): the slot of the running image is not permitted; another is erased. -/
def execFlashBegin (c : Cmd) (s : State) : Host.Outcome State Fault Refusal :=
  if !Cmd.flashStep c 0 then .next s
  else .next (s.command (.flashBegin c) 0x0B c fun s => s.flashCmd c 0 fun n =>
    if n = s.boot.running then (s, status 5)
    else
      let s := s.updSlot n fun _ => { data := [], record := none }
      ({ s with boot := { s.boot with seqOpen := some { q := c.q, slot := n, next := 0 } } }, status 0))
/-- FLASH_WRITE (R429). -/
def execFlashWrite (c : Cmd) (s : State) : Host.Outcome State Fault Refusal :=
  if !Cmd.flashStep c 1 then .next s
  else .next (s.command (.flashWrite c) 0x0B c fun s => s.flashCmd c 1 fun n =>
    let off := (c.w 1).toNat
    let len := (c.w 2).toNat
    if off % 64 ≠ 0 ∨ len % 64 ≠ 0 ∨ 4032 < len ∨ 4 * c.len ≠ 12 + len then (s, status 1)
    else match s.boot.seqOpen with
      | none => (s, status 8)
      | some o =>
        if o.slot ≠ n ∨ o.next ≠ off ∨ slotBytes < off + len + 64 then (s, status 8)
        else
          let s := s.updSlot n fun f => { f with data := setBs f.data off (bytesOf (c.body.drop 3)) }
          ({ s with boot := { s.boot with seqOpen := some { o with next := off + len } } }, status 0))
/-- The generation that a committed slot receives, a 32-bit number. -/
def State.nextGen (s : State) (n : Nat) : Nat :=
  match (s.boot.slots.getD (1 - n) default).record with
  | some r => (r.1 + 1) % 2 ^ 32
  | none => 1
/-- FLASH_COMMIT (R429): the sequence ends with it, whatever its answer. -/
def execFlashCommit (c : Cmd) (s : State) : Host.Outcome State Fault Refusal :=
  if !Cmd.flashStep c 2 then .next s
  else .next (s.command (.flashCommit c) 0x0B c fun s => s.flashCmd c 2 fun n =>
    match s.boot.seqOpen with
    | none => (s, status 8)
    | some o =>
      if o.slot ≠ n then (s, status 8)
      else
        let f := s.boot.slots.getD n default
        let gen := s.nextGen n
        let s := { s with boot := { s.boot with seqOpen := none } }
        if f.accepted s.boot.svnMin && decide (f.size ≤ o.next) then
          (s.updSlot n fun f => { f with record := some (gen, f.size) }, some (0, [[BitVec.ofNat 32 gen]]))
        else (s, status 8))

/-! ## Boot and trip (R426, R432, R436) -/

/-- The slots in the order in which the boot ROM tries them: the higher generation first, A if equal. -/
def Boot.order (b : Boot) : List Nat :=
  let gen (n : Nat) : Option Nat := ((b.slots.getD n default).record).map (·.1)
  match gen 0, gen 1 with
  | some a, some c => if a < c then [1, 0] else [0, 1]
  | none, some _ => [1]
  | some _, none => [0]
  | none, none => []
/-- POWER_ON (R426): the first slot whose image is accepted boots; self-test fences clusters or stops the boot (R432); ROLLUP raises
the fused minimum. -/
def execPowerOn (test : SelfTest) (s : State) : Host.Outcome State Fault Refusal :=
  .next <|
    match s.boot.order.find? fun n => (s.boot.slots.getD n default).accepted s.boot.svnMin with
    | none => s.cold 1 false
    | some n =>
      let f := s.boot.slots.getD n default
      let b := { s.boot with running := n, svn := f.svn, fwDigest := f.digest }
      let s := { s with boot := b }
      if 2 < popN 24 test.failing.toNat ∨ test.memoryOk = false then s.cold 3 false
      else
        let t := s.cold 4 false
        { t with
            clusters := t.clusters.zipIdx.map fun x => { x.1 with fenced := test.failing.getLsbD x.2 }
            boot := { t.boot with svnMin := if f.rollup then max b.svnMin f.svn else b.svnMin } }
/-- HARDWARE_TRIP (R436): a sensor outside the clusters, or the supply. -/
def execHardwareTrip (s : State) : Host.Outcome State Fault Refusal := .next s.trip

/-! ## Connections and attestation (R411, R431) -/

/-- Words 0x04 and 0x08 of the report. -/
def State.fenceWord (s : State) : Nat := ofBits (s.clusters.map (·.fenced))
/-- The report of R431 before its signature. -/
def State.reportBody (s : State) (nonce : List Byte) : List Byte :=
  bytesOf [0x14152, BitVec.ofNat 32 s.fenceWord, BitVec.ofNat 32 (s.boot.svn % 64 + s.boot.svnMin % 64 * 256)] ++
    beBytes 48 s.boot.fwDigest.toNat ++ nonce
/-- The private key of the module's identity, a free value, and its public key (R430). -/
def identityKey : Nat := 1 + Config.identitySeed % (p384N - 1)
def identityPoint : EcPoint := ecMul identityKey p384G
/-- The report with its signature; the number that the signature draws is free (log 12). -/
def State.report (s : State) (nonce : List Byte) : List Byte × State :=
  let b := s.reportBody nonce
  let (x, s) := s.free
  let (y, s) := s.free
  let (r, t) := ecdsaSign identityKey (sha384 b) [x, y]
  (b ++ beBytes 48 r ++ beBytes 48 t, s)
/-- An unused queue pair. -/
def QueuePair.unused : QueuePair := { used := false, kind := .command, ctx := none, tags := [], waiting := [] }
/-- CM_REQ (R411, R431): one of 4,096 queue pairs is set up; the REP's 196 bytes of private data are zeros, or begin with the report
(log 23). -/
def execCmReq (q : Nat) (kind : QKind) (priv : List Byte) (s : State) : Host.Outcome State Fault Refusal :=
  .next <|
    if s.boot.stage ≠ 4 ∨ 4096 ≤ q ∨ (s.qp q).used = true then s
    else
      let qps := s.qps ++ List.replicate (q + 1 - s.qps.length) QueuePair.unused
      let s := { s with qps := qps.set q { QueuePair.unused with used := true, kind := kind } }
      let (data, s) := if kind = .command ∧ priv.take 2 = [0x41, 0x54] ∧ 34 ≤ priv.length then s.report ((priv.drop 2).take 32) else ([], s)
      s.send (.cmRep q (data ++ List.replicate (196 - data.length) 0))

/-! ## Ports (R356, R409, R410) -/

/-- The IPv6 link-local address of a subport: modified EUI-64 of its MAC (R410). -/
def linkLocalOf (port sub : Nat) : BitVec 128 :=
  let m := (macOf port sub).toNat
  BitVec.ofNat 128 (0xFE80 * 2 ^ 112 + (m / 2 ^ 24 ^^^ 0x020000) * 2 ^ 40 + 0xFFFE * 2 ^ 24 + m % 2 ^ 24)
/-- Whether the module's breakout has a subport, on a module that has booted. -/
def State.hasSub (s : State) (port sub : Nat) : Bool := s.up && decide (sub < subports port)
/-- LINK_UP (R410): the link-local address is asked for by a solicitation, and taken unless another node answers that it has it. -/
def execLinkUp (port sub : Nat) (duplicate : Bool) (s : State) : Host.Outcome State Fault Refusal :=
  .next (if s.hasSub port sub then
    (s.updSub port sub fun x => { x with up := true, linkLocal := !duplicate }).send (.solicitation port sub (linkLocalOf port sub).toNat)
  else s)
/-- LINK_DOWN (R356). -/
def execLinkDown (port sub : Nat) (s : State) : Host.Outcome State Fault Refusal :=
  .next (if s.hasSub port sub then s.updSub port sub fun x => { x with up := false, linkLocal := false, known := [] } else s)
/-- An address kept in network byte order, as a number. -/
def netNumber (w : List Word) : Nat := beNat (bytesOf w)
/-- ARP_REQUEST (R410): answered for the subport's IPv4 address on its VLAN. -/
def execArpRequest (port sub : Nat) (vlan : BitVec 12) (target : BitVec 32) (s : State) : Host.Outcome State Fault Refusal :=
  .next <|
    let x := s.subport port sub
    if s.hasSub port sub && x.up && vlan.toNat == x.vid && x.ip4len != 0 && netNumber [x.ip4] == target.toNat then
      s.send (.arpReply port sub)
    else s
/-- NEIGHBOUR_SOLICITATION (R410): answered for the link-local and the global address. -/
def execNeighbourSolicitation (port sub : Nat) (vlan : BitVec 12) (target : BitVec 128) (s : State) :
    Host.Outcome State Fault Refusal :=
  .next <|
    let x := s.subport port sub
    let own := (x.linkLocal && target == linkLocalOf port sub) || (x.ip6len != 0 && netNumber x.ip6 == target.toNat)
    if s.hasSub port sub && x.up && vlan.toNat == x.vid && own then s.send (.neighbourReply port sub) else s
/-- Whether two addresses of n bits share a prefix. -/
def samePrefix (n len a b : Nat) : Bool := a / 2 ^ (n - len) == b / 2 ^ (n - len)
/-- The next hop of RoCEv2 traffic: a destination on the subport's prefix directly, any other through the gateway (R410). -/
def Subport.hop (x : Subport) (v6 : Bool) (dest : Nat) : Nat :=
  if v6 then
    (if samePrefix 128 64 dest (0xFE80 * 2 ^ 112) || (x.ip6len != 0 && samePrefix 128 x.ip6len dest (netNumber x.ip6)) then dest
     else netNumber x.gateway)
  else if x.ip4len != 0 && samePrefix 32 x.ip4len dest (netNumber [x.ip4]) then dest else netNumber (x.gateway.take 1)
/-- What happens without a row of the opcode table. Clove-M copies into the weight store in LOAD mode, within some grant (R226, R425); an
unsupported RDMA operation gets an invalid-request NAK (R411); a next hop that is not known is asked for by ARP or a neighbour solicitation, and
an answer is kept (R410). -/
def State.outside (s : State) : Outside → State
  | .weightCopy off data => if s.dev.wsLoad && s.ctxs.any fun c => (c.grantGap off data.length).isNone then s.wsWrite off data else s
  | .rdmaOther q => if (s.qp q).used then s.send (.rdmaNak q false) else s
  | .nextHop port sub v6 dest =>
    let x := s.subport port sub
    let hop := x.hop v6 dest
    if !(s.hasSub port sub && x.up) || x.known.any (·.1 == hop) then s
    else s.send (if v6 then .solicitation port sub hop else .arpRequest port sub hop)
  | .neighbour port sub address link =>
    if s.hasSub port sub then s.updSub port sub fun x => { x with known := x.known.filter (·.1 != address) ++ [(address, link)] } else s
/-- PFC_PAUSE (R409): the priorities that are paused. -/
def execPfcPause (port sub : Nat) (paused : BitVec 8) (s : State) : Host.Outcome State Fault Refusal :=
  .next (if s.hasSub port sub then s.updSub port sub fun x => { x with paused := paused } else s)
/-- UNACCEPTED_FRAME (R409): dropped, and counted with the frames or with the fragments. -/
def execUnacceptedFrame (port : Nat) (fragment : Bool) (s : State) : Host.Outcome State Fault Refusal :=
  .next (s.updPort port fun p =>
    if fragment then { p with fragments := p.fragments + 1 } else { p with drops := p.drops + 1 })

end Sys2Proof.Machine
end

