-- ==== Sys2Proof/Machine/Scalar.lean ====
section
/-!
DEFINITION. The S64 integer and float instructions (R83 to R97): one definition per instruction over shared result writers.
-/

namespace Sys2Proof.Machine

/-- A 32-bit result: sd, the enabled condition flag, the next PC (R83, R84). -/
def sResult (o : S64) (f : State → Word) (s : State) : State :=
  let r := f s
  ((s.writeSel o.sd.toNat r).writeCf o.cf r.toNat).advance 2
/-- A pair result (R90). -/
def sPairResult (o : S64) (f : State → Nat) (s : State) : State :=
  let r := f s % 2 ^ 64
  ((s.writePair o.sd.toNat r).writeCf o.cf r).advance 2
/-- A compare (R92, R96): the flag only. -/
def sCompare (o : S64) (f : State → Bool × Fl) (s : State) : State :=
  let r := f s
  ((s.writeCmp o.cf r.1).raise r.2).advance 2
/-- A float result: sd, FLAGS and the condition flag. -/
def sFloat (o : S64) (f : State → FRes) (s : State) : State :=
  let r := f s
  (((s.writeSel o.sd.toNat (BitVec.ofNat 32 r.bits)).raise r.flags).writeCf o.cf r.bits).advance 2

/-- A shift amount is unsigned (R86). -/
def shl32 (a : Word) (n : Nat) : Word := if 32 ≤ n then 0 else a <<< n
def shr32 (a : Word) (n : Nat) : Word := if 32 ≤ n then 0 else a >>> n
def sra32 (a : Word) (n : Nat) : Word := a.sshiftRight (min n 32)
/-- The field of R87: offset, effective width. -/
def bfOff (ctl : Word) : Nat := wfield ctl 4 0
def bfLen (ctl : Word) : Nat := min (wfield ctl 13 8) (32 - bfOff ctl)
/-- SBFE of R87, also VBFE. -/
def bfe (signed : Bool) (a ctl : Word) : Word :=
  let k := bfLen ctl
  if k = 0 then 0 else
    let x := (a >>> bfOff ctl).toNat % 2 ^ k
    if signed then w32 (sextN k x) else BitVec.ofNat 32 x
/-- SBFI of R87, also VBFI. -/
def bfi (a ctl base : Word) : Word :=
  let m : Word := BitVec.ofNat 32 ((2 ^ bfLen ctl - 1) * 2 ^ bfOff ctl)
  (base &&& ~~~m) ||| ((a <<< bfOff ctl) &&& m)
def minI (signed : Bool) (a b : Word) : Word := if readInt signed 32 a.toNat ≤ readInt signed 32 b.toNat then a else b
def maxI (signed : Bool) (a b : Word) : Word := if readInt signed 32 a.toNat ≤ readInt signed 32 b.toNat then b else a
/-- Bits [63:32] of a product. -/
def mulHi (signed : Bool) (a b : Word) : Word := w32 ((readInt signed 32 a.toNat * readInt signed 32 b.toNat) / (2 ^ 32 : Int))
/-- F32 value of a word under FZ32 (R37, R93). -/
def State.f32 (s : State) (x : Word) : FVal := fF32.decodeFz s.fz32 x.toNat
/-- A float source: an inline integer is the F32 value of that integer (R94). -/
def State.fsel (s : State) (n : Nat) : FVal :=
  if sInline n then
    let v : Int := (n : Int) - 464
    .fin (decide (v < 0)) ((v.natAbs : Nat) : Rat)
  else s.f32 (s.sel n)
def State.srcBf (s : State) (o : S64) : FVal := if o.imm then s.f32 (simm32 o) else s.fsel o.sb.toNat
def State.senv (s : State) (o : S64) : REnv := { mode := s.smode o, fz := s.fz32 }

/-- SMOV: sb (R85). -/
def execSmov (o : S64) (s : State) : Host.Outcome State Fault Refusal :=
  issue (.s64 0x00 o) s (sResult o fun s => s.srcB o)

/-- SADD: sa + sb (R85). -/
def execSadd (o : S64) (s : State) : Host.Outcome State Fault Refusal :=
  issue (.s64 0x01 o) s (sResult o fun s => s.srcA o + s.srcB o)

/-- SSUB: sa − sb (R85). -/
def execSsub (o : S64) (s : State) : Host.Outcome State Fault Refusal :=
  issue (.s64 0x02 o) s (sResult o fun s => s.srcA o - s.srcB o)

/-- SMUL: the low 32 bits of the product (R85). -/
def execSmul (o : S64) (s : State) : Host.Outcome State Fault Refusal :=
  issue (.s64 0x03 o) s (sResult o fun s => s.srcA o * s.srcB o)

/-- SMULHI.N: bits [63:32] of the unsigned product (R85). -/
def execSmulhiN (o : S64) (s : State) : Host.Outcome State Fault Refusal :=
  issue (.s64 0x04 o) s (sResult o fun s => mulHi false (s.srcA o) (s.srcB o))

/-- SMULHI.I: bits [63:32] of the signed product (R85). -/
def execSmulhiI (o : S64) (s : State) : Host.Outcome State Fault Refusal :=
  issue (.s64 0x05 o) s (sResult o fun s => mulHi true (s.srcA o) (s.srcB o))

/-- SAND (R85). -/
def execSand (o : S64) (s : State) : Host.Outcome State Fault Refusal :=
  issue (.s64 0x06 o) s (sResult o fun s => s.srcA o &&& s.srcB o)

/-- SOR (R85). -/
def execSor (o : S64) (s : State) : Host.Outcome State Fault Refusal :=
  issue (.s64 0x07 o) s (sResult o fun s => s.srcA o ||| s.srcB o)

/-- SXOR (R85). -/
def execSxor (o : S64) (s : State) : Host.Outcome State Fault Refusal :=
  issue (.s64 0x08 o) s (sResult o fun s => s.srcA o ^^^ s.srcB o)

/-- SANDN: sa & ~sb (R85). -/
def execSandn (o : S64) (s : State) : Host.Outcome State Fault Refusal :=
  issue (.s64 0x09 o) s (sResult o fun s => s.srcA o &&& ~~~(s.srcB o))

/-- SSHL (R86). -/
def execSshl (o : S64) (s : State) : Host.Outcome State Fault Refusal :=
  issue (.s64 0x0A o) s (sResult o fun s => shl32 (s.srcA o) (s.srcB o).toNat)

/-- SSHR (R86). -/
def execSshr (o : S64) (s : State) : Host.Outcome State Fault Refusal :=
  issue (.s64 0x0B o) s (sResult o fun s => shr32 (s.srcA o) (s.srcB o).toNat)

/-- SSRA (R86). -/
def execSsra (o : S64) (s : State) : Host.Outcome State Fault Refusal :=
  issue (.s64 0x0C o) s (sResult o fun s => sra32 (s.srcA o) (s.srcB o).toNat)

/-- SMIN.I (R85). -/
def execSminI (o : S64) (s : State) : Host.Outcome State Fault Refusal :=
  issue (.s64 0x0D o) s (sResult o fun s => minI true (s.srcA o) (s.srcB o))

/-- SMAX.I (R85). -/
def execSmaxI (o : S64) (s : State) : Host.Outcome State Fault Refusal :=
  issue (.s64 0x0E o) s (sResult o fun s => maxI true (s.srcA o) (s.srcB o))

/-- SMIN.N (R85). -/
def execSminN (o : S64) (s : State) : Host.Outcome State Fault Refusal :=
  issue (.s64 0x0F o) s (sResult o fun s => minI false (s.srcA o) (s.srcB o))

/-- SMAX.N (R85). -/
def execSmaxN (o : S64) (s : State) : Host.Outcome State Fault Refusal :=
  issue (.s64 0x10 o) s (sResult o fun s => maxI false (s.srcA o) (s.srcB o))

/-- SBFE.N (R87). -/
def execSbfeN (o : S64) (s : State) : Host.Outcome State Fault Refusal :=
  issue (.s64 0x11 o) s (sResult o fun s => bfe false (s.srcA o) (s.srcB o))

/-- SBFE.I (R87). -/
def execSbfeI (o : S64) (s : State) : Host.Outcome State Fault Refusal :=
  issue (.s64 0x12 o) s (sResult o fun s => bfe true (s.srcA o) (s.srcB o))

/-- SBFI: the base is sc, or the old sd with an immediate (R87). -/
def execSbfi (o : S64) (s : State) : Host.Outcome State Fault Refusal :=
  issue (.s64 0x13 o) s (sResult o fun s => bfi (s.srcA o) (s.srcB o) (if o.imm then s.sel o.sd.toNat else s.srcC o))

/-- SPOPC (R88). -/
def execSpopc (o : S64) (s : State) : Host.Outcome State Fault Refusal :=
  issue (.s64 0x14 o) s (sResult o fun s => BitVec.ofNat 32 (popN 32 (s.srcA o).toNat))

/-- SCLZ (R88). -/
def execSclz (o : S64) (s : State) : Host.Outcome State Fault Refusal :=
  issue (.s64 0x15 o) s (sResult o fun s => BitVec.ofNat 32 (clzN 32 (s.srcA o).toNat))

/-- SCTZ (R88). -/
def execSctz (o : S64) (s : State) : Host.Outcome State Fault Refusal :=
  issue (.s64 0x16 o) s (sResult o fun s => BitVec.ofNat 32 (ctzN 32 (s.srcA o).toNat))

/-- SBREV (R88). -/
def execSbrev (o : S64) (s : State) : Host.Outcome State Fault Refusal :=
  issue (.s64 0x17 o) s (sResult o fun s => BitVec.ofNat 32 (revN 32 (s.srcA o).toNat))

/-- SSEL: sa if the flag of aux14[1:0] is 1, otherwise sb (R89). -/
def execSsel (o : S64) (s : State) : Host.Outcome State Fault Refusal :=
  issue (.s64 0x18 o) s (sResult o fun s => if s.cflag (o.aux.toNat % 4) then s.srcA o else s.srcB o)

/-- SCMP.I (R92). -/
def execScmpI (o : S64) (s : State) : Host.Outcome State Fault Refusal :=
  issue (.s64 0x19 o) s (sCompare o fun s => (icond o.sd.toNat (s.srcA o).toInt (s.srcB o).toInt, 0))

/-- SCMP.N (R92). -/
def execScmpN (o : S64) (s : State) : Host.Outcome State Fault Refusal :=
  issue (.s64 0x1A o) s (sCompare o fun s => (icond o.sd.toNat ((s.srcA o).toNat : Int) ((s.srcB o).toNat : Int), 0))

/-- SADD.B64 (R90). -/
def execSaddB64 (o : S64) (s : State) : Host.Outcome State Fault Refusal :=
  issue (.s64 0x1B o) s (sPairResult o fun s => s.pairA o + s.pairB o)

/-- SSUB.B64 (R90). -/
def execSsubB64 (o : S64) (s : State) : Host.Outcome State Fault Refusal :=
  issue (.s64 0x1C o) s (sPairResult o fun s => s.pairA o + (2 ^ 64 - s.pairB o))

/-- SMUL.B64 (R90). -/
def execSmulB64 (o : S64) (s : State) : Host.Outcome State Fault Refusal :=
  issue (.s64 0x1D o) s (sPairResult o fun s => s.pairA o * s.pairB o)

/-- SSHL.B64 (R90). -/
def execSshlB64 (o : S64) (s : State) : Host.Outcome State Fault Refusal :=
  issue (.s64 0x1E o) s (sPairResult o fun s => if 64 ≤ (s.srcB o).toNat then 0 else s.pairA o <<< (s.srcB o).toNat)

/-- SSHR.B64 (R90). -/
def execSshrB64 (o : S64) (s : State) : Host.Outcome State Fault Refusal :=
  issue (.s64 0x1F o) s (sPairResult o fun s => if 64 ≤ (s.srcB o).toNat then 0 else s.pairA o >>> (s.srcB o).toNat)

/-- SCMP.I64 (R92). -/
def execScmpI64 (o : S64) (s : State) : Host.Outcome State Fault Refusal :=
  issue (.s64 0x20 o) s (sCompare o fun s => (icond o.sd.toNat (sextN 64 (s.pairA o)) (sextN 64 (s.pairB o)), 0))

/-- SCMP.N64 (R92). -/
def execScmpN64 (o : S64) (s : State) : Host.Outcome State Fault Refusal :=
  issue (.s64 0x21 o) s (sCompare o fun s => (icond o.sd.toNat (s.pairA o : Int) (s.pairB o : Int), 0))

/-- SFADD (R94). -/
def execSfadd (o : S64) (s : State) : Host.Outcome State Fault Refusal :=
  issue (.s64 0x28 o) s (sFloat o fun s => fF32.add (s.senv o) (s.fsel o.sa.toNat) (s.srcBf o) 1)

/-- SFMUL (R94). -/
def execSfmul (o : S64) (s : State) : Host.Outcome State Fault Refusal :=
  issue (.s64 0x29 o) s (sFloat o fun s => fF32.mul (s.senv o) (s.fsel o.sa.toNat) (s.srcBf o) 1)

/-- SFFMA: with I = 1 the addend is the old sd (R94). -/
def execSffma (o : S64) (s : State) : Host.Outcome State Fault Refusal :=
  issue (.s64 0x2A o) s (sFloat o fun s => fF32.fma (s.senv o) (s.fsel o.sa.toNat) (s.srcBf o) (if o.imm then s.f32 (s.sel o.sd.toNat) else s.fsel o.sc.toNat) 1)

/-- SFMIN (R95). -/
def execSfmin (o : S64) (s : State) : Host.Outcome State Fault Refusal :=
  issue (.s64 0x2B o) s (sFloat o fun s => fF32.minmax false false (s.fsel o.sa.toNat) (s.srcBf o) 1)

/-- SFMAX (R95). -/
def execSfmax (o : S64) (s : State) : Host.Outcome State Fault Refusal :=
  issue (.s64 0x2C o) s (sFloat o fun s => fF32.minmax true false (s.fsel o.sa.toNat) (s.srcBf o) 1)

/-- SFCMP (R96). -/
def execSfcmp (o : S64) (s : State) : Host.Outcome State Fault Refusal :=
  issue (.s64 0x2D o) s (sCompare o fun s => (fcond o.sd.toNat (s.fsel o.sa.toNat) (s.srcBf o), fcondFlags o.sd.toNat (s.fsel o.sa.toNat) (s.srcBf o)))

/-- SCVT.F32.I32 (R97). -/
def execScvtF32I32 (o : S64) (s : State) : Host.Outcome State Fault Refusal :=
  issue (.s64 0x2E o) s (sFloat o fun s => fF32.ofInt (s.senv o) (s.srcA o).toInt 1)

/-- SCVT.I32.F32 (R97). -/
def execScvtI32F32 (o : S64) (s : State) : Host.Outcome State Fault Refusal :=
  issue (.s64 0x2F o) s (sFloat o fun s => toIntRes true 32 (s.smode o) (s.fsel o.sa.toNat) 1)

/-- SRCP: 1 / sa, rounded once (R97). -/
def execSrcp (o : S64) (s : State) : Host.Outcome State Fault Refusal :=
  issue (.s64 0x30 o) s (sFloat o fun s => fF32.div (s.senv o) (.fin false 1) (s.fsel o.sa.toNat) 1)

end Sys2Proof.Machine
end

