-- ==== Sys2Proof/Machine/Vector.lean ====
section
/-!
DEFINITION. What every V96 instruction shares (R114 to R121, R129, R167, R169): lanes are computed from the state at issue, then
the destination, the latch, FLAGS, the random states and the latches' lives change together.
-/

namespace Sys2Proof.Machine

/-- The result of one lane: 32 or 64 bits, flags, and the lane's random state after it. -/
structure LaneRes where
  val : Nat
  fl : Fl
  rng : Word
deriving DecidableEq, Repr, Inhabited

/-- What an instruction computes in lane l from its sources and the lane's random state. -/
abbrev LaneFn := Nat → LaneSrc → Word → LaneRes

def Group.rngOf (g : Group) (l : Nat) : Word := g.regs.rng.getD l 1
def Group.setRng (g : Group) (l : Nat) (w : Word) : Group := { g with regs := { g.regs with rng := g.regs.rng.set l w } }
/-- The results of the lanes of a mask. -/
def State.lanes (s : State) (g : VSig) (o : V96) (em : Mask) (f : LaneFn) : List (Nat × LaneRes) :=
  (lanesOf em).map fun l =>
    let x := s.laneSrc g o l
    let r := f l x ((s.grp s.cur.group).rngOf l)
    (l, { r with fl := r.fl ||| x.fl })
/-- Kills of R64, ageing of R167, and a new latch of R120. -/
def Split.latchStep (sp : Split) (kills : List (Nat × Bool)) (new : Option (Nat × Latch)) : Split :=
  let ls := sp.latches.map Latch.aged
  let ls := kills.foldl (fun ls k => if k.2 then ls.set k.1 Latch.dead else ls) ls
  { sp with latches := match new with | some (n, b) => ls.set n b | none => ls }
/-- Ending a V96 instruction: its latches, then the next PC. An empty execution mask leaves the latches it names (R169). -/
def State.vEnd (s : State) (op : Nat) (o : V96) (em : Mask) (new : Option Latch) : State :=
  let kills := if em = 0 then [] else v96Latches op o
  let n := if o.lat.toNat < 4 ∨ em = 0 then none else new.map fun b => (o.lat.toNat - 4, b)
  s.updS s.cur fun sp => (sp.latchStep kills n).advance 3
/-- Writing lane results to vd (R119). -/
def Group.writeLanes (g : Group) (wide : Bool) (vd : Nat) (rs : List (Nat × LaneRes)) : Group :=
  rs.foldl (fun g r =>
    let g := g.writeV vd r.1 (BitVec.ofNat 32 r.2.val)
    if wide then g.writeV (vd + 1) r.1 (BitVec.ofNat 32 (r.2.val / 2 ^ 32)) else g) g
/-- The flags and random states of lane results. -/
def Group.effects (g : Group) (rs : List (Nat × LaneRes)) : Group :=
  let g := g.orFlags (rs.foldl (fun f r => f ||| r.2.fl) 0)
  rs.foldl (fun g r => if r.2.rng = g.rngOf r.1 then g else g.setRng r.1 r.2.rng) g
/-- The latch that lane results write (R120). -/
def latchOf (em : Mask) (rs : List (Nat × LaneRes)) : Latch :=
  { vals := rs.foldl (fun m r => sset 0 m r.1 (BitVec.ofNat 32 r.2.val)) [], lanes := em, live := true, age := 0, poison := 0 }
/-- A result in vd, a latch or both. -/
def State.vWrite (s : State) (op : Nat) (o : V96) (em : Mask) (wide : Bool) (rs : List (Nat × LaneRes)) : State :=
  let s := s.updG s.cur.group fun g => (if o.nw then g else g.writeLanes wide o.vd.toNat rs).effects rs
  s.vEnd op o em (some (latchOf em rs))
/-- An instruction of R115 with a vector result. -/
def vLane (op : Nat) (o : V96) (f : State → LaneFn) (s : State) : State :=
  match vsig op with
  | some g => let em := s.vmask o; s.vWrite op o em (g.dst == VDst.v64) (s.lanes g o em (f s))
  | none => s.advance 3
/-- Writing result bits to the predicate or scalar of C (R67, R129); an empty mask writes nothing (R169). -/
def State.writeBits (s : State) (o : V96) (em bits : Mask) : State :=
  if em = 0 then s
  else if o.cSel.toNat < 512 then
    s.updG s.cur.group fun g =>
      let n := o.cSel.toNat - 264
      g.writeP n ((g.readP n &&& ~~~em) ||| bits)
  else s.writeS s.cur (o.cSel.toNat - 512) bits
/-- An instruction whose lanes give one bit each. -/
def vBits (op : Nat) (o : V96) (f : State → Nat → LaneSrc → Bool × Fl) (s : State) : State :=
  match vsig op with
  | some g =>
    let em := s.vmask o
    let rs := (lanesOf em).map fun l => (l, f s l (s.laneSrc g o l), (s.laneSrc g o l).fl)
    let bits := maskOf fun l => rs.any fun r => r.1 == l && r.2.1.1
    ((s.writeBits o em bits).raise (rs.foldl (fun a r => a ||| r.2.1.2 ||| r.2.2) 0)).vEnd op o em none
  | none => s.advance 3

/-! ## Helpers for lane functions -/

/-- The rounding environment of F32 results (R117, R118). -/
def State.env32 (s : State) (o : V96) : REnv := { mode := s.modeOf o.rnd.toNat, fz := s.fz32 }
def State.env16 (s : State) (o : V96) : REnv := { mode := s.modeOf o.rnd.toNat, fz := s.fz16 }
/-- A lane result without flags. -/
def plain (r : Word) (v : Nat) : LaneRes := { val := v, fl := 0, rng := r }
def ofFRes (r : FRes) : LaneRes := { val := r.bits, fl := r.flags, rng := r.rng }
/-- Element width (R116). -/
def vn (o : V96) : Nat := 32 / 2 ^ o.ew.toNat
/-- Elements of two sources combined (R116). -/
def elems2 (n : Nat) (f : Nat → Nat → Nat) (a b : Nat) : Nat :=
  (List.range (32 / n)).foldl (fun acc k =>
    acc + (f (field a (n * k + n - 1) (n * k)) (field b (n * k + n - 1) (n * k)) % 2 ^ n) * 2 ^ (n * k)) 0
/-- The two F32 parts of a pair (R137). -/
def State.f32Lo (s : State) (x : Nat) : FVal := fF32.decodeFz s.fz32 (x % 2 ^ 32)
def State.f32Hi (s : State) (x : Nat) : FVal := fF32.decodeFz s.fz32 (x / 2 ^ 32)
/-- Two results in one pair, the second computed with the random state the first left (R117). -/
def twoParts (width : Nat) (f g : Word → FRes) (r : Word) : LaneRes :=
  let a := f r
  let b := g a.rng
  { val := a.bits + b.bits * 2 ^ width, fl := a.flags ||| b.flags, rng := b.rng }
/-- A 16-bit element of a source. -/
def half (x k : Nat) : Nat := field x (16 * k + 15) (16 * k)

end Sys2Proof.Machine
end

