-- ==== Sys2Proof/Machine/Lanes.lean ====
section
/-!
DEFINITION. Lane data and identity, VBRX and the segment collectives (R195, R204 to R207).
-/

namespace Sys2Proof.Machine

/-- VRDLANE (R204): the value by R164 into the scalar of C. -/
def vRdlane (op : Nat) (o : V96) (s : State) : State :=
  let em := s.vmask o
  match lowestLane em with
  | none => s.vEnd op o em none
  | some f =>
    let (x, fl) := s.readAB { ty := .b, special := .vreg } 0 o.a (s.namedLane o f)
    ((s.writeS s.cur (o.cSel.toNat - 512) (BitVec.ofNat 32 x)).raise fl).vEnd op o em none
/-- VWRLANE (R204). A latch that it writes counts every active lane as written, with 0 in a lane that B does not name (DESIGN CHOICE,
log 24). -/
def vWrlane (op : Nat) (o : V96) (s : State) : State :=
  match vsig op with
  | none => s.advance 3
  | some g =>
    let em := s.vmask o
    let rs := (s.lanes g o em fun _ x r => plain r x.a).filter fun r => r.1 == s.namedLane o r.1
    s.vWrite op o em false rs
/-- The flat index T of a lane's thread (R174). -/
def Group.flatT (g : Group) (l : Nat) : Nat :=
  ((List.range g.lch.dom.length).foldl (fun (a : Nat) k =>
    let i := if 6 ≤ g.lch.dom.getD k 0 then g.laneIdx (g.lch.dom.getD k 0) l else g.lch.idx.getD k 0
    a * g.lch.ext.getD k 1 + i) 0)
/-- The value of VLANEID (R204). -/
def State.laneId (s : State) (k l : Nat) : Nat :=
  let g := s.grp s.cur.group
  match k with
  | 0 => l
  | 1 => l - s.segBase l
  | 2 => l / s.segw
  | 3 => g.laneIdx 7 l
  | 4 => g.laneIdx 6 l
  | _ => g.flatT l % 2 ^ 32
/-- VRNGWR (R204): the lane's random state; 0 is taken as 1. -/
def vRngwr (op : Nat) (o : V96) (s : State) : State :=
  match vsig op with
  | none => s.advance 3
  | some g =>
    let em := s.vmask o
    let rs := s.lanes g o em fun _ x _ => { val := 0, fl := 0, rng := if x.a % 2 ^ 32 = 0 then 1 else BitVec.ofNat 32 x.a }
    (s.updG s.cur.group fun g => g.effects rs).vEnd op o em none

/-- The distinct targets of VBRX with their lanes, by ascending lowest lane (R154, R195). -/
def groupTargets : List (Nat × Nat) → List (Nat × Mask)
  | [] => []
  | (l, t) :: rest =>
    let others := groupTargets rest
    let bit : Mask := maskOf (· == l)
    match others.find? fun e => e.1 == t with
    | some e => (t, e.2 ||| bit) :: others.filter fun e => e.1 != t
    | none => (t, bit) :: others
/-- Checking targets in order (R195): the first failing one with its code. -/
def State.padAll (s : State) (tag : Nat) : List (Nat × Mask) → Xl (Option (Nat × Nat × Mask))
  | [] => .got none s
  | (t, m) :: rest =>
    match s.padCheck t tag with
    | .got (some code) s => .got (some (code, t, m)) s
    | .got none s => s.padAll tag rest
    | .wait => .wait
    | .refused => .refused
    | .exhausted => .exhausted
/-- VBRX (R195); in trap mode the lowest active lane's target is taken by all (R159). -/
def vBrx (o : V96) (s : State) : State :=
  let em := s.vmask o
  let sig : VSrcSig := { ty := .b, pair := true, zeroOnly := true, special := .target }
  let sp := s.spl s.cur
  if em = 0 then s.vEnd 0x98 o em none else
    let all := groupTargets ((lanesOf em).map fun l => (l, (s.readAB sig 0 o.a l).1 % 2 ^ 56))
    let ts := if sp.trap then all.take 1 else all
    s.onGot (s.padAll (s.laneSel o % 65536) ts) 0 fun bad s => match bad with
    | some (code, t, m) => s.trapAt code m t
    | none =>
      let dead (s : State) : State := s.updS s.cur fun sp => { sp with latches := deadLatches }
      match ts with
      | [] => s
      | [(t, _)] => dead (s.setPc (BitVec.ofNat 56 t))
      | (t, _) :: rest =>
        let moved := rest.foldl (fun a e => a ||| e.2) 0
        s.divide (sp.mask &&& ~~~moved) (BitVec.ofNat 56 t) (rest.map fun e => (e.2, BitVec.ofNat 56 e.1))

/-! ## Collectives -/

/-- The participants of lane l's segment with their values (R205). -/
def State.participants (s : State) (xs : List (Nat × LaneSrc)) (l : Nat) : List (Nat × Nat) :=
  (xs.filter fun x => s.segBase x.1 == s.segBase l).map fun x => (x.1, x.2.a)
/-- An instruction whose lanes combine the values of their segments; f takes the state, the own value, the lane, the
participants. -/
def vCollect (op : Nat) (o : V96) (f : State → Nat → Nat → List (Nat × Nat) → Nat × Fl) (s : State) : State :=
  match vsig op with
  | none => s.advance 3
  | some g =>
    let em := s.vmask o
    let xs := (lanesOf em).map fun l => (l, s.laneSrc g o l)
    let rs := xs.map fun x =>
      let y := f s x.2.a x.1 (s.participants xs x.1)
      (x.1, { val := y.1, fl := y.2 ||| x.2.fl, rng := (s.grp s.cur.group).rngOf x.1 : LaneRes })
    s.vWrite op o em false rs
/-- The votes (R207): one bit per active lane to the destination of C. -/
def vVote (op : Nat) (o : V96) (f : List (Nat × Nat) → Bool) (s : State) : State :=
  match vsig op with
  | none => s.advance 3
  | some g =>
    let em := s.vmask o
    let xs := (lanesOf em).map fun l => (l, s.laneSrc g o l)
    (s.writeBits o em (maskOf fun l => inMask em l && f (s.participants xs l))).vEnd op o em none
/-- A fold from the first participant's own value (R206). -/
def foldVals (f : Nat → Nat → Nat) : List Nat → Nat
  | [] => 0
  | x :: t => t.foldl f x
/-- A flushed F32 pattern (R37). -/
def flushBits (fz : Bool) (x : Nat) : Nat :=
  match fF32.decode x with
  | .fin n m => if fz && decide (m < fF32.grid.value fF32.minNormal) then (if n then fF32.signBit else 0) else x
  | _ => x
/-- An F32 fold with the flags of every step; FZ32 applies to each value and each result (R206). -/
def foldF32 (fz : Bool) (f : FVal → FVal → FRes) : List Nat → Nat × Fl
  | [] => (0, 0)
  | x :: t => t.foldl (fun a y =>
      let r := f (fF32.decodeFz fz a.1) (fF32.decodeFz fz y)
      (r.bits, a.2 ||| r.flags)) (flushBits fz x, 0)
/-- The rounding of float folds: mode 6 from RMODE rounds as RNE (R206). -/
def State.foldEnv (s : State) (o : V96) : REnv :=
  let m := s.modeOf o.rnd.toNat
  { mode := if m = 6 then 1 else m, fz := s.fz32 }
/-- A mask of lanes as a word. -/
def laneBits (ps : List (Nat × Nat)) : Nat := (maskOf fun l => ps.any fun p => p.1 == l).toNat

/-- VMOV: with a route it is the shuffle (R204). -/
def execVmov (o : V96) (s : State) : Host.Outcome State Fault Refusal :=
  issue (.v96 0x90 o) s (vLane 0x90 o fun _ _ x r => plain r (x.a))

/-- VRDLANE: one lane of the segment of the lowest active lane (R204). -/
def execVrdlane (o : V96) (s : State) : Host.Outcome State Fault Refusal :=
  issue (.v96 0x91 o) s (vRdlane 0x91 o)

/-- VWRLANE: one lane of each segment (R204). -/
def execVwrlane (o : V96) (s : State) : Host.Outcome State Fault Refusal :=
  issue (.v96 0x92 o) s (vWrlane 0x92 o)

/-- VLANEID (R204). -/
def execVlaneid (o : V96) (s : State) : Host.Outcome State Fault Refusal :=
  issue (.v96 0x93 o) s (vLane 0x93 o fun s l _ r => plain r (s.laneId (o.a.sel.toNat - 928) l))

/-- VRNGRD (R204). -/
def execVrngrd (o : V96) (s : State) : Host.Outcome State Fault Refusal :=
  issue (.v96 0x96 o) s (vLane 0x96 o fun _ _ _ r => let y := if o.a.sel.toNat = 929 then rngStep r else r; { val := y.toNat, fl := 0, rng := y })

/-- VRNGWR (R204). -/
def execVrngwr (o : V96) (s : State) : Host.Outcome State Fault Refusal :=
  issue (.v96 0x97 o) s (vRngwr 0x97 o)

/-- VBRX (R195). -/
def execVbrx (o : V96) (s : State) : Host.Outcome State Fault Refusal :=
  issue (.v96 0x98 o) s (vBrx o)

/-- VRED_ADD_I32 (R206). -/
def execVredAddI32 (o : V96) (s : State) : Host.Outcome State Fault Refusal :=
  issue (.v96 0xA0 o) s (vCollect 0xa0 o fun _ _ l ps => let ps := ps; (foldVals (fun a b => (a + b) % 2 ^ 32) (ps.map (·.2)), 0))

/-- VRED_MIN_I32 (R206). -/
def execVredMinI32 (o : V96) (s : State) : Host.Outcome State Fault Refusal :=
  issue (.v96 0xA2 o) s (vCollect 0xa2 o fun _ _ l ps => let ps := ps; (foldVals (fun a b => if sextN 32 a ≤ sextN 32 b then a else b) (ps.map (·.2)), 0))

/-- VRED_MAX_I32 (R206). -/
def execVredMaxI32 (o : V96) (s : State) : Host.Outcome State Fault Refusal :=
  issue (.v96 0xA3 o) s (vCollect 0xa3 o fun _ _ l ps => let ps := ps; (foldVals (fun a b => if sextN 32 a ≤ sextN 32 b then b else a) (ps.map (·.2)), 0))

/-- VRED_AND (R206). -/
def execVredAnd (o : V96) (s : State) : Host.Outcome State Fault Refusal :=
  issue (.v96 0xA6 o) s (vCollect 0xa6 o fun _ _ l ps => let ps := ps; (foldVals (fun a b => a &&& b) (ps.map (·.2)), 0))

/-- VRED_OR (R206). -/
def execVredOr (o : V96) (s : State) : Host.Outcome State Fault Refusal :=
  issue (.v96 0xA7 o) s (vCollect 0xa7 o fun _ _ l ps => let ps := ps; (foldVals (fun a b => a ||| b) (ps.map (·.2)), 0))

/-- VSCAN_ADD_I32 (R206). -/
def execVscanAddI32 (o : V96) (s : State) : Host.Outcome State Fault Refusal :=
  issue (.v96 0xA8 o) s (vCollect 0xa8 o fun _ _ l ps => let ps := ps.filter fun p => decide (p.1 ≤ l); (foldVals (fun a b => (a + b) % 2 ^ 32) (ps.map (·.2)), 0))

/-- VRED_ADD_F32 (R206). -/
def execVredAddF32 (o : V96) (s : State) : Host.Outcome State Fault Refusal :=
  issue (.v96 0xA1 o) s (vCollect 0xa1 o fun s _ l ps => let ps := ps; foldF32 s.fz32 (fun a b => fF32.add (s.foldEnv o) a b 1) (ps.map (·.2)))

/-- VSCAN_ADD_F32 (R206). -/
def execVscanAddF32 (o : V96) (s : State) : Host.Outcome State Fault Refusal :=
  issue (.v96 0xA9 o) s (vCollect 0xa9 o fun s _ l ps => let ps := ps.filter fun p => decide (p.1 ≤ l); foldF32 s.fz32 (fun a b => fF32.add (s.foldEnv o) a b 1) (ps.map (·.2)))

/-- VRED_MIN_F32 (R206). -/
def execVredMinF32 (o : V96) (s : State) : Host.Outcome State Fault Refusal :=
  issue (.v96 0xA4 o) s (vCollect 0xa4 o fun s _ l ps => let ps := ps; foldF32 s.fz32 (fun a b => fF32.minmax false false a b 1) (ps.map (·.2)))

/-- VRED_MAX_F32 (R206). -/
def execVredMaxF32 (o : V96) (s : State) : Host.Outcome State Fault Refusal :=
  issue (.v96 0xA5 o) s (vCollect 0xa5 o fun s _ l ps => let ps := ps; foldF32 s.fz32 (fun a b => fF32.minmax true false a b 1) (ps.map (·.2)))

/-- VVOTE.ANY (R207). -/
def execVvoteAny (o : V96) (s : State) : Host.Outcome State Fault Refusal :=
  issue (.v96 0xAA o) s (vVote 0xaa o fun ps => ps.any fun p => p.2 != 0)

/-- VVOTE.ALL (R207). -/
def execVvoteAll (o : V96) (s : State) : Host.Outcome State Fault Refusal :=
  issue (.v96 0xAB o) s (vVote 0xab o fun ps => ps.all fun p => p.2 != 0)

/-- VBALLOT (R207). -/
def execVballot (o : V96) (s : State) : Host.Outcome State Fault Refusal :=
  issue (.v96 0xAC o) s (vCollect 0xac o fun _ _ _ ps => (laneBits (ps.filter fun p => p.2 != 0), 0))

/-- VMATCH (R207). -/
def execVmatch (o : V96) (s : State) : Host.Outcome State Fault Refusal :=
  issue (.v96 0xAD o) s (vCollect 0xad o fun _ x l ps => (laneBits (ps.filter fun p => p.2 == x), 0))

/-- VBRANK (R207). -/
def execVbrank (o : V96) (s : State) : Host.Outcome State Fault Refusal :=
  issue (.v96 0xAE o) s (vCollect 0xae o fun _ x l ps => ((ps.filter fun p => decide (p.1 < l) && p.2 != 0).length, 0))

/-- VFIRST (R207). -/
def execVfirst (o : V96) (s : State) : Host.Outcome State Fault Refusal :=
  issue (.v96 0xAF o) s (vCollect 0xaf o fun _ x l ps => (match ps.find? (fun p => p.2 != 0) with | some p => p.1 | none => 0xFFFFFFFF, 0))

end Sys2Proof.Machine
end

