-- ==== Sys2Proof/Machine/Memory.lean ====
section
/-!
DEFINITION. The vector and scalar memory instructions (R231 to R248): one definition per instruction over shared forms.
-/

namespace Sys2Proof.Machine

/-! ## Vector forms -/

/-- Bytes of a width code. -/
def widthBytes (code : Nat) : Nat := 2 ^ code
/-- The index of a lane by mode (R233). -/
def Group.laneIndex (g : Group) (o : EMem) (r : BufRec) (w l : Nat) : Nat :=
  match o.mode.toNat with
  | 0 => (g.readV o.va.toNat l).toNat
  | 1 => if r.linear then (l * w) % 2 ^ 32 else l
  | _ => 0
/-- w bytes of a lane's consecutive registers. -/
def Group.laneData (g : Group) (reg w l : Nat) : Nat :=
  ((List.range (regCount w)).foldl (fun a k => a + (g.readV (reg + k) l).toNat * 2 ^ (32 * k)) 0) % 2 ^ (8 * w)
/-- The lanes of a vector memory instruction before their checks. -/
def Group.cands (g : Group) (o : EMem) (kind : AccKind) (r : BufRec) (w : Nat) (m : Mask) : List Cand :=
  (lanesOf m).map fun l =>
    { lane := l, i := g.laneIndex o r w l, data := if kind.isLoad then 0 else g.laneData o.vdat.toNat w l,
      cmp := match kind with | .atom 0xA => g.laneData o.vb.toNat w l | _ => 0 }
/-- The execution mask of a memory instruction. -/
def State.mmask (s : State) (o : EMem) : Mask := s.execMask o.pe o.pi.toNat o.pn
/-- The record of an instruction, from scalars or the heap (R231): state, record, cause and address. -/
def State.memRec (s : State) (o : EMem) : State × BufRec × Option (Nat × Nat) :=
  if o.heap then s.heapRec (s.readS s.cur o.sa.toNat).toNat
  else let (r, t) := s.recAt o.sa.toNat; (s, r, t.map fun c => (c, 0))
/-- The v-registers that a vector instruction reads. -/
def memNamed (o : EMem) (kind : AccKind) (w : Nat) : List Nat :=
  let run (n : Nat) : List Nat := (List.range (regCount w)).map (n + ·)
  (if o.mode == 0 then [o.va.toNat] else []) ++ if kind.isLoad then [] else run o.vdat.toNat ++ if kind == .atom 0xA then run o.vb.toNat else []
/-- The access that a vector instruction makes, less its lanes. -/
def memAccess (o : EMem) (kind : AccKind) (rkind w : Nat) : Access :=
  { kind := kind, rkind := rkind, width := w, d := o.d.toNat, scalar := false, scope := o.scope.toNat,
    policy := if kind.isAtom then 0 else o.policy.toNat, lanes := [], reads := memNamed o kind w }
/-- A counted vector memory instruction: R108 and R169, the record, then the access; `wide` is VLDW's rule on kinds (R239). -/
def vecMem (o : EMem) (kind : AccKind) (scr wide : Bool) (s : State) : State :=
  let w := if wide then 64 else widthBytes o.width.toNat
  let m := s.mmask o
  let acc := memAccess o kind (if scr then scrKind else 0) w
  if m = 0 then (if 63 ≤ (s.spl s.cur).ctr acc.ctr then s.hold else s.advance 3)
  else match s.memRec o with
    | (s, _, some (code, va)) => s.stopAt code (if o.heap then m else (s.spl s.cur).mask) va (some acc.ctr) (acc.dests ++ acc.reads)
    | (s, r, none) =>
      if wide && !(r.linear && r.kind != 15) then s.trapNow 0x02
      else s.access r acc (sextN 24 o.off.toNat) m ((s.grp s.cur.group).cands o kind r w m)
/-- One lane of a prefetch: its sector is loaded, and its line marked, under the policy (R215, R240). -/
def State.prefetch (s : State) (r : BufRec) (policy : Nat) (va : Nat) : State :=
  let g := s.grp s.cur.group
  let c := g.who.ctx
  let fill (s : State) (k : Nat) : State :=
    if policy = 2 then (s.readCC g.who.cluster k allBytes).1
    else ((s.loadSector g.coreIx k allBytes 0 (if policy = 3 then 0 else policy) (keyIsWs k)).1).markLine g.coreIx k policy false
  if r.kind = 6 then
    (if (s.ctx c).granted va 1 && !s.dev.wsLoad then fill s (wkey va) else s)
  else
    let (s, va) := if r.kind = 5 then (match s.map5 s.cur.group va with | (s, .ok v) => (s, some v) | (s, _) => (s, none)) else (s, some va)
    match va with
    | none => s
    | some va => match s.xlate c va .r with | .ok _ => fill s (vkey c va) | _ => s

/-- VLD (R238). -/
def execVld (o : EMem) (s : State) : Host.Outcome State Fault Refusal := issue (.mem 0x00 o) s (vecMem o .load false false)
/-- VST (R238). -/
def execVst (o : EMem) (s : State) : Host.Outcome State Fault Refusal := issue (.mem 0x01 o) s (vecMem o .store false false)
/-- VATOM (R241, R242). -/
def execVatom (o : EMem) (s : State) : Host.Outcome State Fault Refusal :=
  issue (.mem 0x02 o) s (vecMem o (.atom o.sub.toNat) false false)
/-- VSLD (R244). -/
def execVsld (o : EMem) (s : State) : Host.Outcome State Fault Refusal := issue (.mem 0x03 o) s (vecMem o .load true false)
/-- VSST (R244). -/
def execVsst (o : EMem) (s : State) : Host.Outcome State Fault Refusal := issue (.mem 0x04 o) s (vecMem o .store true false)
/-- VSATOM (R244). -/
def execVsatom (o : EMem) (s : State) : Host.Outcome State Fault Refusal :=
  issue (.mem 0x05 o) s (vecMem o (.atom o.sub.toNat) true false)
/-- VLDW (R239). -/
def execVldw (o : EMem) (s : State) : Host.Outcome State Fault Refusal := issue (.mem 0x07 o) s (vecMem o .load false true)
/-- VPREF (R240): the checks of R27, then the sectors of the lanes that are in bounds, aligned and translatable. -/
def execVpref (o : EMem) (s : State) : Host.Outcome State Fault Refusal :=
  issue (.mem 0x06 o) s fun s =>
    let m := s.mmask o
    if m = 0 then s.advance 3
    else match s.memRec o with
      | (s, _, some (code, va)) => s.stopAt code (if o.heap then m else (s.spl s.cur).mask) va none (memNamed o .load 4)
      | (s, r, none) =>
        let w := widthBytes o.width.toNat
        let off := sextN 24 o.off.toNat
        let cs := ((s.grp s.cur.group).cands o .load r w m).filter fun c =>
          let a := r.addr c.i off
          r.inBounds c.i off w && decide (a % (min w 16 : Nat) = 0) && decide (0 ≤ a) && decide (a < (2 ^ 56 : Nat)) &&
            !(r.kind == 3 || r.kind == 4)
        (cs.foldl (fun s c => s.prefetch r o.policy.toNat (r.addr c.i off).toNat) s).advance 3

/-! ## Scalar forms (R246, R247) -/

/-- Width code of a scalar access; an immediate index means b32 at scope 0 and policy 0. -/
def s64MemWidth (o : S64) : Nat := if o.imm then 2 else S64Rules.mw o
/-- The access that a scalar instruction makes, less its lane. -/
def scalarAccess (o : S64) (kind : AccKind) (rkind : Nat) : Access :=
  { kind := kind, rkind := rkind, width := widthBytes (s64MemWidth o), d := o.sd.toNat, scalar := true,
    scope := if o.imm then 0 else S64Rules.mscope o, policy := if o.imm || kind.isAtom then 0 else S64Rules.mpol o, lanes := [] }
/-- w bytes of consecutive scalars, or an inline code. -/
def State.scalarData (s : State) (n w : Nat) : Nat :=
  if n < 384 then
    ((List.range (regCount w)).foldl (fun a k => a + (s.readS s.cur (n + k)).toNat * 2 ^ (32 * k)) 0) % 2 ^ (8 * w)
  else (s.sel n).toNat % 2 ^ (8 * w)
/-- A scalar memory instruction: one lane for the split. -/
def scalarMem (o : S64) (kind : AccKind) (scr : Bool) (s : State) : State :=
  let acc := scalarAccess o kind (if scr then scrKind else 0)
  match s.recAt o.sa.toNat with
  | (_, some code) => s.trapNow code
  | (r, none) =>
    s.access r acc 0 (s.spl s.cur).mask
      [{ lane := 0, i := (s.srcB o).toNat, data := if kind.isLoad then 0 else s.scalarData o.sc.toNat acc.width,
         cmp := match kind with | .atom 0xA => s.scalarData o.sd.toNat acc.width | _ => 0 }]

/-- SLD (R247). -/
def execSld (o : S64) (s : State) : Host.Outcome State Fault Refusal := issue (.s64 0x40 o) s (scalarMem o .load false)
/-- SST (R247). -/
def execSst (o : S64) (s : State) : Host.Outcome State Fault Refusal := issue (.s64 0x41 o) s (scalarMem o .store false)
/-- SATOM (R247). -/
def execSatom (o : S64) (s : State) : Host.Outcome State Fault Refusal :=
  issue (.s64 0x42 o) s (scalarMem o (.atom (S64Rules.msub o)) false)
/-- SSLD (R247). -/
def execSsld (o : S64) (s : State) : Host.Outcome State Fault Refusal := issue (.s64 0x43 o) s (scalarMem o .load true)
/-- SSST (R247). -/
def execSsst (o : S64) (s : State) : Host.Outcome State Fault Refusal := issue (.s64 0x44 o) s (scalarMem o .store true)

end Sys2Proof.Machine
end

