-- ==== Sys2Proof/Machine/VectorConvert.lean ====
section
/-!
DEFINITION. The vector conversions, byte permute and funnel shift (R140 to R147).
-/

namespace Sys2Proof.Machine

/-- An instruction with a format word in B (R142): the word is read and checked at issue unless the mask is empty (R43, R169). -/
def vFormat (op : Nat) (o : V96) (f : State → FmtWord → LaneFn) (s : State) : State :=
  let w := s.readS s.cur (o.b.sel.toNat - 512)
  if s.vmask o ≠ 0 && !fmtValid w then s.trapNow 0x1B else vLane op o (fun s => f s (FmtWord.ofWord w)) s
/-- The slot of R142. -/
def slotOf (f : FmtWord) (c : Nat) : Nat := (c % 2 ^ 32) % (32 / f.slotBits)
/-- The old vd that VCVTN.TO merges into (R119). With nw set an unmapped vd is not checked (R63); what it holds is open: a free value
(log 24). -/
def State.oldVd (s : State) (o : V96) (l : Nat) : Word :=
  let g := s.grp s.cur.group
  if g.vmapped o.vd.toNat then g.readV o.vd.toNat l else BitVec.ofNat 32 (Config.freeNat (s.fresh + l))
/-- The free values of an unmapped old vd have been used. -/
def State.oldVdUsed (s : State) (o : V96) : Nat := if (s.grp s.cur.group).vmapped o.vd.toNat then s.fresh else s.fresh + 32
/-- VCVTN.TO in a lane: one slot of the old vd replaced. -/
def cvtnTo (s : State) (o : V96) (f : FmtWord) (l : Nat) (x : LaneSrc) (r : Word) : LaneRes :=
  let q := f.slotBits
  let k := slotOf f x.c
  let y := encodeNarrow f (s.modeOf o.rnd.toNat) (s.f32Lo x.a) r
  let old := s.oldVd o l
  let m : Word := BitVec.ofNat 32 ((2 ^ q - 1) * 2 ^ (q * k))
  { val := ((old &&& ~~~m) ||| BitVec.ofNat 32 (y.bits * 2 ^ (q * k))).toNat, fl := y.flags, rng := y.rng }
/-- VCVTN.FROM of a slot (R143): exact, without a flag. -/
def cvtnFrom (f : FmtWord) (a c : Nat) : Nat :=
  let q := f.slotBits
  fF32.exactBits (formatValue f (field a (q * slotOf f c + q - 1) (q * slotOf f c)))
/-- VBSHUF of R146. -/
def byteShuffle (a b c : Nat) : Nat :=
  (List.range 4).foldl (fun acc k =>
    let g := field c (8 * k + 7) (8 * k)
    let q := field (b * 2 ^ 32 + a) (8 * (g % 8) + 7) (8 * (g % 8))
    let y := match g / 8 % 4 with | 0 => q | 1 => revN 8 q | 2 => 0 | _ => 255
    acc + y * 2 ^ (8 * k)) 0

/-- VCVT_F32_I32 (R140). -/
def execVcvtF32I32 (o : V96) (s : State) : Host.Outcome State Fault Refusal :=
  issue (.v96 0x80 o) s (vLane 0x80 o fun s _ x r => ofFRes (fF32.ofInt (s.env32 o) (sextN 32 x.a) r))

/-- VCVT_F32_N32 (R140). -/
def execVcvtF32N32 (o : V96) (s : State) : Host.Outcome State Fault Refusal :=
  issue (.v96 0x81 o) s (vLane 0x81 o fun s _ x r => ofFRes (fF32.ofInt (s.env32 o) (x.a : Int) r))

/-- VCVT_I32_F32 (R140). -/
def execVcvtI32F32 (o : V96) (s : State) : Host.Outcome State Fault Refusal :=
  issue (.v96 0x82 o) s (vLane 0x82 o fun s _ x r => ofFRes (toIntRes true 32 (s.modeOf o.rnd.toNat) (s.f32Lo x.a) r))

/-- VCVT_N32_F32 (R140). -/
def execVcvtN32F32 (o : V96) (s : State) : Host.Outcome State Fault Refusal :=
  issue (.v96 0x83 o) s (vLane 0x83 o fun s _ x r => ofFRes (toIntRes false 32 (s.modeOf o.rnd.toNat) (s.f32Lo x.a) r))

/-- VCVT_F32_F16: element 0 (R140). -/
def execVcvtF32F16 (o : V96) (s : State) : Host.Outcome State Fault Refusal :=
  issue (.v96 0x84 o) s (vLane 0x84 o fun s _ x r => let y := widen16 fF16 s.fz16 s.fz32 (half x.a 0); { val := y.1, fl := y.2, rng := r })

/-- VCVT_F32_BF16: element 0 (R140). -/
def execVcvtF32Bf16 (o : V96) (s : State) : Host.Outcome State Fault Refusal :=
  issue (.v96 0x85 o) s (vLane 0x85 o fun s _ x r => let y := widen16 fBF16 s.fz16 s.fz32 (half x.a 0); { val := y.1, fl := y.2, rng := r })

/-- VPACK_F16: A, then B (R141). -/
def execVpackF16 (o : V96) (s : State) : Host.Outcome State Fault Refusal :=
  issue (.v96 0x86 o) s (vLane 0x86 o fun s _ x r => twoParts 16 (fun r => narrow16 fF16 (s.modeOf o.rnd.toNat) s.fz32 s.fz16 x.a r) (fun r => narrow16 fF16 (s.modeOf o.rnd.toNat) s.fz32 s.fz16 x.b r) r)

/-- VPACK_BF16: A, then B (R141). -/
def execVpackBf16 (o : V96) (s : State) : Host.Outcome State Fault Refusal :=
  issue (.v96 0x87 o) s (vLane 0x87 o fun s _ x r => twoParts 16 (fun r => narrow16 fBF16 (s.modeOf o.rnd.toNat) s.fz32 s.fz16 x.a r) (fun r => narrow16 fBF16 (s.modeOf o.rnd.toNat) s.fz32 s.fz16 x.b r) r)

/-- VCVT_F32_I64 (R140). -/
def execVcvtF32I64 (o : V96) (s : State) : Host.Outcome State Fault Refusal :=
  issue (.v96 0x88 o) s (vLane 0x88 o fun s _ x r => ofFRes (fF32.ofInt (s.env32 o) (sextN 64 x.a) r))

/-- VCVT_I64_F32 (R140). -/
def execVcvtI64F32 (o : V96) (s : State) : Host.Outcome State Fault Refusal :=
  issue (.v96 0x89 o) s (vLane 0x89 o fun s _ x r => ofFRes (toIntRes true 64 (s.modeOf o.rnd.toNat) (s.f32Lo x.a) r))

/-- VCVTN.TO (R142). -/
def execVcvtnTo (o : V96) (s : State) : Host.Outcome State Fault Refusal :=
  issue (.v96 0x8A o) s fun s => { vFormat 0x8a o (fun s f l x r => cvtnTo s o f l x r) s with fresh := s.oldVdUsed o }

/-- VCVTN.FROM (R143). -/
def execVcvtnFrom (o : V96) (s : State) : Host.Outcome State Fault Refusal :=
  issue (.v96 0x8B o) s (vFormat 0x8b o fun _ f _ x r => plain r (cvtnFrom f x.a x.c))

/-- VMXSCALE (R144). -/
def execVmxscale (o : V96) (s : State) : Host.Outcome State Fault Refusal :=
  issue (.v96 0x8C o) s (vFormat 0x8c o fun s f _ x r => let y := mxScale f (s.f32Lo x.a); { val := y.1, fl := y.2, rng := r })

/-- VBSHUF (R146). -/
def execVbshuf (o : V96) (s : State) : Host.Outcome State Fault Refusal :=
  issue (.v96 0x94 o) s (vLane 0x94 o fun _ _ x r => plain r (byteShuffle x.a x.b x.c))

/-- VFUNNEL (R147). -/
def execVfunnel (o : V96) (s : State) : Host.Outcome State Fault Refusal :=
  issue (.v96 0x95 o) s (vLane 0x95 o fun _ _ x r => plain r ((x.b * 2 ^ 32 + x.a) >>> (x.c % 32) % 2 ^ 32))

end Sys2Proof.Machine
end

