-- ==== Sys2Proof/Machine/VectorFloat.lean ====
section
/-!
DEFINITION. The vector float instructions (R131 to R139).
-/

namespace Sys2Proof.Machine

/-- Rounding to an integral value without a flag (R133); a zero result keeps the sign. -/
def integral (mode : Nat) (flag : Bool) (a : FVal) (r : Word) : FRes :=
  match a with
  | .nan sg => fF32.nanRes (flIf sg flNV) r
  | .inf n => fF32.infRes n 0 r
  | .fin n m =>
    let (k, nx, r') := roundInt mode n m r
    { bits := (fF32.roundMag false 1 n ((k : Nat) : Rat) 1).bits, flags := flIf (nx && flag) flNX, rng := r' }
def toIntegral (mode : Nat) (a : FVal) (r : Word) : FRes := integral mode false a r
def rint (mode : Nat) (a : FVal) (r : Word) : FRes := integral mode true a r
/-- VFFRACT of R133. -/
def fract (fz : Bool) (a : FVal) (r : Word) : FRes :=
  match a with
  | .nan sg => fF32.nanRes (flIf sg flNV) r
  | .inf _ => fF32.nanRes flNV r
  | .fin _ _ =>
    let x := a.rat - (a.rat.floor : Rat)
    let y := fF32.roundMag fz 2 false x r
    { y with flags := y.flags &&& flNX }
/-- VFLDEXP of R134; an exponent beyond ±400 decides as ±400 does. -/
def ldexp (e : REnv) (a : FVal) (b : Int) (r : Word) : FRes :=
  match a with
  | .nan sg => fF32.nanRes (flIf sg flNV) r
  | .inf n => fF32.infRes n 0 r
  | .fin n m => fF32.roundMag e.fz e.mode n (m * pow2 (clampI (-400) 400 b)) r
/-- VFSAT of R134. -/
def fsat (a : FVal) (r : Word) : FRes :=
  match a with
  | .nan sg => fF32.zeroRes false (flIf sg flNV) r
  | .inf n => if n then fF32.zeroRes false 0 r else { bits := 0x3F800000, flags := 0, rng := r }
  | .fin n m =>
    if n || decide (m = 0) then fF32.zeroRes false 0 r
    else if 1 ≤ m then { bits := 0x3F800000, flags := 0, rng := r }
    else { bits := fF32.exactBits a, flags := 0, rng := r }
/-- A product with its sign inverted. -/
def nmul (a b : FVal) : Option FVal := (fmulExact a b).map FVal.flip
/-- The dot products of R136 over the first n elements. -/
def dotMix (f : FFmt) (n : Nat) (e : REnv) (fz16 : Bool) (a b : Nat) (c : FVal) (r : Word) : FRes :=
  let ps := (List.range n).map fun k => (f.decodeFz fz16 (half a k), f.decodeFz fz16 (half b k))
  fF32.sum e (ps.flatMap (fun p => [p.1, p.2]) ++ [c]) (ps.map (fun p => fmulExact p.1 p.2) ++ [some c]) r
/-- The addends of one part of a complex result. -/
abbrev CPart := FVal → FVal → FVal → FVal → FVal → FVal → List (Option FVal)
/-- The two parts of a complex result (R137), each rounded once, real first. A part's inputs are the values its addends use. -/
def cparts (s : State) (x : LaneSrc) (re im : CPart) (e : REnv) (r : Word) : LaneRes :=
  let ar := s.f32Lo x.a
  let ai := s.f32Hi x.a
  let br := s.f32Lo x.b
  let bi := s.f32Hi x.b
  let cr := s.f32Lo x.c
  let ci := s.f32Hi x.c
  let part (ts : List (Option FVal)) : Word → FRes := fun r => fF32.sum e (ts.filterMap id) ts r
  twoParts 32 (part (re ar ai br bi cr ci)) (part (im ar ai br bi cr ci)) r

/-- VFADD (R131). -/
def execVfadd (o : V96) (s : State) : Host.Outcome State Fault Refusal :=
  issue (.v96 0x40 o) s (vLane 0x40 o fun s _ x r => ofFRes (fF32.add (s.env32 o) (s.f32Lo x.a) (s.f32Lo x.b) r))

/-- VFSUB (R131). -/
def execVfsub (o : V96) (s : State) : Host.Outcome State Fault Refusal :=
  issue (.v96 0x41 o) s (vLane 0x41 o fun s _ x r => ofFRes (fF32.add (s.env32 o) (s.f32Lo x.a) (s.f32Lo x.b).flip r))

/-- VFMUL (R131). -/
def execVfmul (o : V96) (s : State) : Host.Outcome State Fault Refusal :=
  issue (.v96 0x42 o) s (vLane 0x42 o fun s _ x r => ofFRes (fF32.mul (s.env32 o) (s.f32Lo x.a) (s.f32Lo x.b) r))

/-- VFFMA (R131). -/
def execVffma (o : V96) (s : State) : Host.Outcome State Fault Refusal :=
  issue (.v96 0x43 o) s (vLane 0x43 o fun s _ x r => ofFRes (fF32.fma (s.env32 o) (s.f32Lo x.a) (s.f32Lo x.b) (s.f32Lo x.c) r))

/-- VFMIN (R132). -/
def execVfmin (o : V96) (s : State) : Host.Outcome State Fault Refusal :=
  issue (.v96 0x44 o) s (vLane 0x44 o fun s _ x r => ofFRes (fF32.minmax false false (s.f32Lo x.a) (s.f32Lo x.b) r))

/-- VFMAX (R132). -/
def execVfmax (o : V96) (s : State) : Host.Outcome State Fault Refusal :=
  issue (.v96 0x45 o) s (vLane 0x45 o fun s _ x r => ofFRes (fF32.minmax true false (s.f32Lo x.a) (s.f32Lo x.b) r))

/-- VFMINX: a NaN decides (R132). -/
def execVfminx (o : V96) (s : State) : Host.Outcome State Fault Refusal :=
  issue (.v96 0x46 o) s (vLane 0x46 o fun s _ x r => ofFRes (fF32.minmax false true (s.f32Lo x.a) (s.f32Lo x.b) r))

/-- VFMAXX: a NaN decides (R132). -/
def execVfmaxx (o : V96) (s : State) : Host.Outcome State Fault Refusal :=
  issue (.v96 0x47 o) s (vLane 0x47 o fun s _ x r => ofFRes (fF32.minmax true true (s.f32Lo x.a) (s.f32Lo x.b) r))

/-- VFFLOOR (R133). -/
def execVffloor (o : V96) (s : State) : Host.Outcome State Fault Refusal :=
  issue (.v96 0x48 o) s (vLane 0x48 o fun s _ x r => ofFRes (toIntegral 4 (s.f32Lo x.a) r))

/-- VFCEIL (R133). -/
def execVfceil (o : V96) (s : State) : Host.Outcome State Fault Refusal :=
  issue (.v96 0x49 o) s (vLane 0x49 o fun s _ x r => ofFRes (toIntegral 3 (s.f32Lo x.a) r))

/-- VFTRUNC (R133). -/
def execVftrunc (o : V96) (s : State) : Host.Outcome State Fault Refusal :=
  issue (.v96 0x4A o) s (vLane 0x4a o fun s _ x r => ofFRes (toIntegral 2 (s.f32Lo x.a) r))

/-- VFRINT (R133). -/
def execVfrint (o : V96) (s : State) : Host.Outcome State Fault Refusal :=
  issue (.v96 0x4B o) s (vLane 0x4b o fun s _ x r => ofFRes (rint (s.modeOf o.rnd.toNat) (s.f32Lo x.a) r))

/-- VFFRACT (R133). -/
def execVffract (o : V96) (s : State) : Host.Outcome State Fault Refusal :=
  issue (.v96 0x4C o) s (vLane 0x4c o fun s _ x r => ofFRes (fract s.fz32 (s.f32Lo x.a) r))

/-- VFLDEXP (R134). -/
def execVfldexp (o : V96) (s : State) : Host.Outcome State Fault Refusal :=
  issue (.v96 0x4D o) s (vLane 0x4d o fun s _ x r => ofFRes (ldexp (s.env32 o) (s.f32Lo x.a) (sextN 32 x.b) r))

/-- VFSAT (R134). -/
def execVfsat (o : V96) (s : State) : Host.Outcome State Fault Refusal :=
  issue (.v96 0x4E o) s (vLane 0x4e o fun s _ x r => ofFRes (fsat (s.f32Lo x.a) r))

/-- VHADD_F16 (R135). -/
def execVhaddF16 (o : V96) (s : State) : Host.Outcome State Fault Refusal :=
  issue (.v96 0x50 o) s (vLane 0x50 o fun s _ x r => twoParts 16 (fun r => fF16.add (s.env16 o) (fF16.decodeFz s.fz16 (half x.a 0)) (fF16.decodeFz s.fz16 (half x.b 0)) r) (fun r => fF16.add (s.env16 o) (fF16.decodeFz s.fz16 (half x.a 1)) (fF16.decodeFz s.fz16 (half x.b 1)) r) r)

/-- VHMUL_F16 (R135). -/
def execVhmulF16 (o : V96) (s : State) : Host.Outcome State Fault Refusal :=
  issue (.v96 0x51 o) s (vLane 0x51 o fun s _ x r => twoParts 16 (fun r => fF16.mul (s.env16 o) (fF16.decodeFz s.fz16 (half x.a 0)) (fF16.decodeFz s.fz16 (half x.b 0)) r) (fun r => fF16.mul (s.env16 o) (fF16.decodeFz s.fz16 (half x.a 1)) (fF16.decodeFz s.fz16 (half x.b 1)) r) r)

/-- VHFMA_F16 (R135). -/
def execVhfmaF16 (o : V96) (s : State) : Host.Outcome State Fault Refusal :=
  issue (.v96 0x52 o) s (vLane 0x52 o fun s _ x r => twoParts 16 (fun r => fF16.fma (s.env16 o) (fF16.decodeFz s.fz16 (half x.a 0)) (fF16.decodeFz s.fz16 (half x.b 0)) (fF16.decodeFz s.fz16 (half x.c 0)) r) (fun r => fF16.fma (s.env16 o) (fF16.decodeFz s.fz16 (half x.a 1)) (fF16.decodeFz s.fz16 (half x.b 1)) (fF16.decodeFz s.fz16 (half x.c 1)) r) r)

/-- VHMIN_F16 (R135). -/
def execVhminF16 (o : V96) (s : State) : Host.Outcome State Fault Refusal :=
  issue (.v96 0x53 o) s (vLane 0x53 o fun s _ x r => twoParts 16 (fun r => fF16.minmax false false (fF16.decodeFz s.fz16 (half x.a 0)) (fF16.decodeFz s.fz16 (half x.b 0)) r) (fun r => fF16.minmax false false (fF16.decodeFz s.fz16 (half x.a 1)) (fF16.decodeFz s.fz16 (half x.b 1)) r) r)

/-- VHMAX_F16 (R135). -/
def execVhmaxF16 (o : V96) (s : State) : Host.Outcome State Fault Refusal :=
  issue (.v96 0x54 o) s (vLane 0x54 o fun s _ x r => twoParts 16 (fun r => fF16.minmax true false (fF16.decodeFz s.fz16 (half x.a 0)) (fF16.decodeFz s.fz16 (half x.b 0)) r) (fun r => fF16.minmax true false (fF16.decodeFz s.fz16 (half x.a 1)) (fF16.decodeFz s.fz16 (half x.b 1)) r) r)

/-- VHADD_BF16 (R135). -/
def execVhaddBf16 (o : V96) (s : State) : Host.Outcome State Fault Refusal :=
  issue (.v96 0x55 o) s (vLane 0x55 o fun s _ x r => twoParts 16 (fun r => fBF16.add (s.env16 o) (fBF16.decodeFz s.fz16 (half x.a 0)) (fBF16.decodeFz s.fz16 (half x.b 0)) r) (fun r => fBF16.add (s.env16 o) (fBF16.decodeFz s.fz16 (half x.a 1)) (fBF16.decodeFz s.fz16 (half x.b 1)) r) r)

/-- VHMUL_BF16 (R135). -/
def execVhmulBf16 (o : V96) (s : State) : Host.Outcome State Fault Refusal :=
  issue (.v96 0x56 o) s (vLane 0x56 o fun s _ x r => twoParts 16 (fun r => fBF16.mul (s.env16 o) (fBF16.decodeFz s.fz16 (half x.a 0)) (fBF16.decodeFz s.fz16 (half x.b 0)) r) (fun r => fBF16.mul (s.env16 o) (fBF16.decodeFz s.fz16 (half x.a 1)) (fBF16.decodeFz s.fz16 (half x.b 1)) r) r)

/-- VHFMA_BF16 (R135). -/
def execVhfmaBf16 (o : V96) (s : State) : Host.Outcome State Fault Refusal :=
  issue (.v96 0x57 o) s (vLane 0x57 o fun s _ x r => twoParts 16 (fun r => fBF16.fma (s.env16 o) (fBF16.decodeFz s.fz16 (half x.a 0)) (fBF16.decodeFz s.fz16 (half x.b 0)) (fBF16.decodeFz s.fz16 (half x.c 0)) r) (fun r => fBF16.fma (s.env16 o) (fBF16.decodeFz s.fz16 (half x.a 1)) (fBF16.decodeFz s.fz16 (half x.b 1)) (fBF16.decodeFz s.fz16 (half x.c 1)) r) r)

/-- VFMIX_F16 (R136). -/
def execVfmixF16 (o : V96) (s : State) : Host.Outcome State Fault Refusal :=
  issue (.v96 0x58 o) s (vLane 0x58 o fun s _ x r => ofFRes (dotMix fF16 1 (s.env32 o) s.fz16 x.a x.b (s.f32Lo x.c) r))

/-- VDOT2_F16 (R136). -/
def execVdot2F16 (o : V96) (s : State) : Host.Outcome State Fault Refusal :=
  issue (.v96 0x59 o) s (vLane 0x59 o fun s _ x r => ofFRes (dotMix fF16 2 (s.env32 o) s.fz16 x.a x.b (s.f32Lo x.c) r))

/-- VDOT2_BF16 (R136). -/
def execVdot2Bf16 (o : V96) (s : State) : Host.Outcome State Fault Refusal :=
  issue (.v96 0x5A o) s (vLane 0x5a o fun s _ x r => ofFRes (dotMix fBF16 2 (s.env32 o) s.fz16 x.a x.b (s.f32Lo x.c) r))

/-- VCADD (R137). -/
def execVcadd (o : V96) (s : State) : Host.Outcome State Fault Refusal :=
  issue (.v96 0x60 o) s (vLane 0x60 o fun s _ x r => cparts s x (fun ar ai br bi cr _ => [some ar, some br]) (fun ar ai br bi _ ci => [some ai, some bi]) (s.env32 o) r)

/-- VCSUB (R137). -/
def execVcsub (o : V96) (s : State) : Host.Outcome State Fault Refusal :=
  issue (.v96 0x61 o) s (vLane 0x61 o fun s _ x r => cparts s x (fun ar ai br bi cr _ => [some ar, some br.flip]) (fun ar ai br bi _ ci => [some ai, some bi.flip]) (s.env32 o) r)

/-- VCMUL (R137). -/
def execVcmul (o : V96) (s : State) : Host.Outcome State Fault Refusal :=
  issue (.v96 0x62 o) s (vLane 0x62 o fun s _ x r => cparts s x (fun ar ai br bi cr _ => [fmulExact ar br, nmul ai bi]) (fun ar ai br bi _ ci => [fmulExact ar bi, fmulExact ai br]) (s.env32 o) r)

/-- VCFMA (R137). -/
def execVcfma (o : V96) (s : State) : Host.Outcome State Fault Refusal :=
  issue (.v96 0x63 o) s (vLane 0x63 o fun s _ x r => cparts s x (fun ar ai br bi cr _ => [fmulExact ar br, nmul ai bi, some cr]) (fun ar ai br bi _ ci => [fmulExact ar bi, fmulExact ai br, some ci]) (s.env32 o) r)

/-- VCMULJ (R137). -/
def execVcmulj (o : V96) (s : State) : Host.Outcome State Fault Refusal :=
  issue (.v96 0x64 o) s (vLane 0x64 o fun s _ x r => cparts s x (fun ar ai br bi cr _ => [fmulExact ar br, fmulExact ai bi]) (fun ar ai br bi _ ci => [fmulExact ai br, nmul ar bi]) (s.env32 o) r)

/-- VCFMAJ (R137). -/
def execVcfmaj (o : V96) (s : State) : Host.Outcome State Fault Refusal :=
  issue (.v96 0x65 o) s (vLane 0x65 o fun s _ x r => cparts s x (fun ar ai br bi cr _ => [fmulExact ar br, fmulExact ai bi, some cr]) (fun ar ai br bi _ ci => [fmulExact ai br, nmul ar bi, some ci]) (s.env32 o) r)

/-- VCABS2 (R137). -/
def execVcabs2 (o : V96) (s : State) : Host.Outcome State Fault Refusal :=
  issue (.v96 0x66 o) s (vLane 0x66 o fun s _ x r => ofFRes (fF32.sum (s.env32 o) [s.f32Lo x.a, s.f32Hi x.a] [fmulExact (s.f32Lo x.a) (s.f32Lo x.a), fmulExact (s.f32Hi x.a) (s.f32Hi x.a)] r))

/-- VCSCL (R137). -/
def execVcscl (o : V96) (s : State) : Host.Outcome State Fault Refusal :=
  issue (.v96 0x67 o) s (vLane 0x67 o fun s _ x r => twoParts 32 (fun r => fF32.mul (s.env32 o) (s.f32Lo x.a) (s.f32Lo x.b) r) (fun r => fF32.mul (s.env32 o) (s.f32Hi x.a) (s.f32Lo x.b) r) r)

/-- VRCP (R138, R139). -/
def execVrcp (o : V96) (s : State) : Host.Outcome State Fault Refusal :=
  issue (.v96 0x70 o) s (vLane 0x70 o fun s _ x r => ofFRes (sfu 0x70 s.fz32 (BitVec.ofNat 32 x.a) (s.f32Lo x.a) r))

/-- VRSQ (R138, R139). -/
def execVrsq (o : V96) (s : State) : Host.Outcome State Fault Refusal :=
  issue (.v96 0x71 o) s (vLane 0x71 o fun s _ x r => ofFRes (sfu 0x71 s.fz32 (BitVec.ofNat 32 x.a) (s.f32Lo x.a) r))

/-- VEXP2 (R138, R139). -/
def execVexp2 (o : V96) (s : State) : Host.Outcome State Fault Refusal :=
  issue (.v96 0x73 o) s (vLane 0x73 o fun s _ x r => ofFRes (sfu 0x73 s.fz32 (BitVec.ofNat 32 x.a) (s.f32Lo x.a) r))

/-- VLOG2 (R138, R139). -/
def execVlog2 (o : V96) (s : State) : Host.Outcome State Fault Refusal :=
  issue (.v96 0x74 o) s (vLane 0x74 o fun s _ x r => ofFRes (sfu 0x74 s.fz32 (BitVec.ofNat 32 x.a) (s.f32Lo x.a) r))

/-- VSINPI (R138, R139). -/
def execVsinpi (o : V96) (s : State) : Host.Outcome State Fault Refusal :=
  issue (.v96 0x75 o) s (vLane 0x75 o fun s _ x r => ofFRes (sfu 0x75 s.fz32 (BitVec.ofNat 32 x.a) (s.f32Lo x.a) r))

/-- VCOSPI (R138, R139). -/
def execVcospi (o : V96) (s : State) : Host.Outcome State Fault Refusal :=
  issue (.v96 0x76 o) s (vLane 0x76 o fun s _ x r => ofFRes (sfu 0x76 s.fz32 (BitVec.ofNat 32 x.a) (s.f32Lo x.a) r))

/-- VTANH (R138, R139). -/
def execVtanh (o : V96) (s : State) : Host.Outcome State Fault Refusal :=
  issue (.v96 0x79 o) s (vLane 0x79 o fun s _ x r => ofFRes (sfu 0x79 s.fz32 (BitVec.ofNat 32 x.a) (s.f32Lo x.a) r))

/-- VSQRT (R139). -/
def execVsqrt (o : V96) (s : State) : Host.Outcome State Fault Refusal :=
  issue (.v96 0x72 o) s (vLane 0x72 o fun s _ x r => ofFRes (fF32.sqrt (s.env32 o) (s.f32Lo x.a) r))

/-- VDIV (R139). -/
def execVdiv (o : V96) (s : State) : Host.Outcome State Fault Refusal :=
  issue (.v96 0x78 o) s (vLane 0x78 o fun s _ x r => ofFRes (fF32.div (s.env32 o) (s.f32Lo x.a) (s.f32Lo x.b) r))

/-- VSINCOSPI: the pair of VSINPI and VCOSPI (R139). -/
def execVsincospi (o : V96) (s : State) : Host.Outcome State Fault Refusal :=
  issue (.v96 0x77 o) s (vLane 0x77 o fun s _ x r => twoParts 32 (fun r => sfu 0x75 s.fz32 (BitVec.ofNat 32 x.a) (s.f32Lo x.a) r) (fun r => sfu 0x76 s.fz32 (BitVec.ofNat 32 x.a) (s.f32Lo x.a) r) r)

end Sys2Proof.Machine
end

