-- ==== Sys2Proof/Machine/VectorInt.lean ====
section
/-!
DEFINITION. The vector integer instructions, compares and classification (R122 to R130).
-/

namespace Sys2Proof.Machine

/-- The class number of R130, from the raw bits. -/
def classOf (x : Nat) : Nat :=
  match fF32.decode x with
  | .nan sg => if sg then 0 else 1
  | .inf n => if n then 2 else 9
  | .fin n m =>
    let sub := decide (m < fF32.grid.value fF32.minNormal)
    if m = 0 then (if n then 5 else 6) else if sub then (if n then 4 else 7) else (if n then 3 else 8)
/-- A half as an F32 pattern of its raw bits: exact, without flush, a signalling NaN signalling (R130). -/
def rawHalf (bits : Nat) : Nat :=
  match fF16.decode bits with
  | .nan s => if s then fF32.infBits + 1 else fF32.nan
  | .inf n => fF32.infBits + if n then fF32.signBit else 0
  | .fin n m => (fF32.roundMag false 1 n m 1).bits
/-- Source A of VCLASS in lane l: the raw bits, which no conversion flushes or quiets (R130, log 57). -/
def State.classSrc (s : State) (g : VSig) (o : V96) (l : Nat) : Nat :=
  match g.a with
  | none => 0
  | some x =>
    let ew := o.ew.toNat
    let v := s.srcRaw x ew o.a.sel.toNat o.a.route.toNat l
    let c := o.a.elem.toNat
    let v := if c = 1 ∨ c = 2 then rawHalf (field v (16 * c - 1) (16 * (c - 1))) else v
    absNeg x ew o.a.abs o.a.neg v
/-- Classification raises no flag (R130). -/
def vClass (op : Nat) (o : V96) (s : State) : State :=
  match vsig op with
  | some g =>
    let em := s.vmask o
    let bits := maskOf fun l => inMask em l && (s.laneSrc g o l).b.testBit (classOf (s.classSrc g o l))
    (s.writeBits o em bits).vEnd op o em none
  | none => s.advance 3

/-- VADD_I32 (R122). -/
def execVaddI32 (o : V96) (s : State) : Host.Outcome State Fault Refusal :=
  issue (.v96 0x00 o) s (vLane 0x0 o fun _ _ x r => plain r (elems2 (vn o) (fun a b => a + b) x.a x.b))

/-- VSUB_I32 (R122). -/
def execVsubI32 (o : V96) (s : State) : Host.Outcome State Fault Refusal :=
  issue (.v96 0x01 o) s (vLane 0x1 o fun _ _ x r => plain r (elems2 (vn o) (fun a b => a + (2 ^ vn o - b)) x.a x.b))

/-- VMULLO_I32 (R122). -/
def execVmulloI32 (o : V96) (s : State) : Host.Outcome State Fault Refusal :=
  issue (.v96 0x02 o) s (vLane 0x2 o fun _ _ x r => plain r (elems2 (vn o) (fun a b => a * b) x.a x.b))

/-- VMULHI_I32 (R122). -/
def execVmulhiI32 (o : V96) (s : State) : Host.Outcome State Fault Refusal :=
  issue (.v96 0x03 o) s (vLane 0x3 o fun _ _ x r => plain r ((mulHi true (BitVec.ofNat 32 x.a) (BitVec.ofNat 32 x.b)).toNat))

/-- VMULHI_N32 (R122). -/
def execVmulhiN32 (o : V96) (s : State) : Host.Outcome State Fault Refusal :=
  issue (.v96 0x04 o) s (vLane 0x4 o fun _ _ x r => plain r ((mulHi false (BitVec.ofNat 32 x.a) (BitVec.ofNat 32 x.b)).toNat))

/-- VMAD_I32 (R122). -/
def execVmadI32 (o : V96) (s : State) : Host.Outcome State Fault Refusal :=
  issue (.v96 0x05 o) s (vLane 0x5 o fun _ _ x r => plain r ((x.a * x.b + x.c) % 2 ^ 32))

/-- VABSDIFF_N32 (R122). -/
def execVabsdiffN32 (o : V96) (s : State) : Host.Outcome State Fault Refusal :=
  issue (.v96 0x06 o) s (vLane 0x6 o fun _ _ x r => plain r (elems2 (vn o) (fun a b => if a ≤ b then b - a else a - b) x.a x.b))

/-- VMIN_I32 (R122). -/
def execVminI32 (o : V96) (s : State) : Host.Outcome State Fault Refusal :=
  issue (.v96 0x07 o) s (vLane 0x7 o fun _ _ x r => plain r (elems2 (vn o) (fun a b => if readInt true (vn o) a ≤ readInt true (vn o) b then a else b) x.a x.b))

/-- VMAX_I32 (R122). -/
def execVmaxI32 (o : V96) (s : State) : Host.Outcome State Fault Refusal :=
  issue (.v96 0x08 o) s (vLane 0x8 o fun _ _ x r => plain r (elems2 (vn o) (fun a b => if readInt true (vn o) a ≤ readInt true (vn o) b then b else a) x.a x.b))

/-- VMIN_N32 (R122). -/
def execVminN32 (o : V96) (s : State) : Host.Outcome State Fault Refusal :=
  issue (.v96 0x09 o) s (vLane 0x9 o fun _ _ x r => plain r (elems2 (vn o) (fun a b => if readInt false (vn o) a ≤ readInt false (vn o) b then a else b) x.a x.b))

/-- VMAX_N32 (R122). -/
def execVmaxN32 (o : V96) (s : State) : Host.Outcome State Fault Refusal :=
  issue (.v96 0x0A o) s (vLane 0xa o fun _ _ x r => plain r (elems2 (vn o) (fun a b => if readInt false (vn o) a ≤ readInt false (vn o) b then b else a) x.a x.b))

/-- VAND (R122). -/
def execVand (o : V96) (s : State) : Host.Outcome State Fault Refusal :=
  issue (.v96 0x0B o) s (vLane 0xb o fun _ _ x r => plain r (x.a &&& x.b))

/-- VOR (R122). -/
def execVor (o : V96) (s : State) : Host.Outcome State Fault Refusal :=
  issue (.v96 0x0C o) s (vLane 0xc o fun _ _ x r => plain r (x.a ||| x.b))

/-- VXOR (R122). -/
def execVxor (o : V96) (s : State) : Host.Outcome State Fault Refusal :=
  issue (.v96 0x0D o) s (vLane 0xd o fun _ _ x r => plain r (x.a ^^^ x.b))

/-- VANDN (R122). -/
def execVandn (o : V96) (s : State) : Host.Outcome State Fault Refusal :=
  issue (.v96 0x0E o) s (vLane 0xe o fun _ _ x r => plain r (x.a &&& (x.b ^^^ 0xFFFFFFFF)))

/-- VSHL (R123). -/
def execVshl (o : V96) (s : State) : Host.Outcome State Fault Refusal :=
  issue (.v96 0x0F o) s (vLane 0xf o fun _ _ x r => plain r (elems2 (vn o) (fun a b => if vn o ≤ b then 0 else a <<< b) x.a x.b))

/-- VSHR (R123). -/
def execVshr (o : V96) (s : State) : Host.Outcome State Fault Refusal :=
  issue (.v96 0x10 o) s (vLane 0x10 o fun _ _ x r => plain r (elems2 (vn o) (fun a b => if vn o ≤ b then 0 else a >>> b) x.a x.b))

/-- VSRA (R123). -/
def execVsra (o : V96) (s : State) : Host.Outcome State Fault Refusal :=
  issue (.v96 0x11 o) s (vLane 0x11 o fun _ _ x r => plain r (elems2 (vn o) (fun a b => wrapN (vn o) (sextN (vn o) a >>> min b (vn o))) x.a x.b))

/-- VROTL (R123). -/
def execVrotl (o : V96) (s : State) : Host.Outcome State Fault Refusal :=
  issue (.v96 0x12 o) s (vLane 0x12 o fun _ _ x r => plain r (((BitVec.ofNat 32 x.a).rotateLeft (x.b % 32)).toNat))

/-- VBFE_N (R124). -/
def execVbfeN (o : V96) (s : State) : Host.Outcome State Fault Refusal :=
  issue (.v96 0x13 o) s (vLane 0x13 o fun _ _ x r => plain r ((bfe false (BitVec.ofNat 32 x.a) (BitVec.ofNat 32 x.b)).toNat))

/-- VBFE_I (R124). -/
def execVbfeI (o : V96) (s : State) : Host.Outcome State Fault Refusal :=
  issue (.v96 0x14 o) s (vLane 0x14 o fun _ _ x r => plain r ((bfe true (BitVec.ofNat 32 x.a) (BitVec.ofNat 32 x.b)).toNat))

/-- VBFI (R124). -/
def execVbfi (o : V96) (s : State) : Host.Outcome State Fault Refusal :=
  issue (.v96 0x15 o) s (vLane 0x15 o fun _ _ x r => plain r ((bfi (BitVec.ofNat 32 x.a) (BitVec.ofNat 32 x.b) (BitVec.ofNat 32 x.c)).toNat))

/-- VPOPC (R122). -/
def execVpopc (o : V96) (s : State) : Host.Outcome State Fault Refusal :=
  issue (.v96 0x16 o) s (vLane 0x16 o fun _ _ x r => plain r (popN 32 x.a))

/-- VCLZ (R122). -/
def execVclz (o : V96) (s : State) : Host.Outcome State Fault Refusal :=
  issue (.v96 0x17 o) s (vLane 0x17 o fun _ _ x r => plain r (clzN 32 x.a))

/-- VBREV (R122). -/
def execVbrev (o : V96) (s : State) : Host.Outcome State Fault Refusal :=
  issue (.v96 0x18 o) s (vLane 0x18 o fun _ _ x r => plain r (revN 32 x.a))

/-- VSEL (R125). -/
def execVsel (o : V96) (s : State) : Host.Outcome State Fault Refusal :=
  issue (.v96 0x19 o) s (vLane 0x19 o fun _ _ x r => plain r (if x.c ≠ 0 then x.a else x.b))

/-- VADDSAT_I32 (R126). -/
def execVaddsatI32 (o : V96) (s : State) : Host.Outcome State Fault Refusal :=
  issue (.v96 0x1A o) s (vLane 0x1a o fun _ _ x r => plain r (elems2 (vn o) (fun a b => wrapN (vn o) (clampI (typeMin true (vn o)) (typeMax true (vn o)) (readInt true (vn o) a + readInt true (vn o) b))) x.a x.b))

/-- VADDSAT_N32 (R126). -/
def execVaddsatN32 (o : V96) (s : State) : Host.Outcome State Fault Refusal :=
  issue (.v96 0x1B o) s (vLane 0x1b o fun _ _ x r => plain r (elems2 (vn o) (fun a b => wrapN (vn o) (clampI (typeMin false (vn o)) (typeMax false (vn o)) (readInt false (vn o) a + readInt false (vn o) b))) x.a x.b))

/-- VSUBSAT_I32 (R126). -/
def execVsubsatI32 (o : V96) (s : State) : Host.Outcome State Fault Refusal :=
  issue (.v96 0x1C o) s (vLane 0x1c o fun _ _ x r => plain r (elems2 (vn o) (fun a b => wrapN (vn o) (clampI (typeMin true (vn o)) (typeMax true (vn o)) (readInt true (vn o) a - readInt true (vn o) b))) x.a x.b))

/-- VSUBSAT_N32 (R126). -/
def execVsubsatN32 (o : V96) (s : State) : Host.Outcome State Fault Refusal :=
  issue (.v96 0x1D o) s (vLane 0x1d o fun _ _ x r => plain r (elems2 (vn o) (fun a b => wrapN (vn o) (clampI (typeMin false (vn o)) (typeMax false (vn o)) (readInt false (vn o) a - readInt false (vn o) b))) x.a x.b))

/-- VDOT4_I8 (R127). -/
def execVdot4I8 (o : V96) (s : State) : Host.Outcome State Fault Refusal :=
  issue (.v96 0x1E o) s (vLane 0x1e o fun _ _ x r => plain r (wrapN 32 ((List.range 4).foldl (fun acc k => acc + readInt true 8 (x.a >>> (8 * k)) * readInt true 8 (x.b >>> (8 * k))) (x.c : Int))))

/-- VDOT4_N8 (R127). -/
def execVdot4N8 (o : V96) (s : State) : Host.Outcome State Fault Refusal :=
  issue (.v96 0x1F o) s (vLane 0x1f o fun _ _ x r => plain r (wrapN 32 ((List.range 4).foldl (fun acc k => acc + readInt false 8 (x.a >>> (8 * k)) * readInt false 8 (x.b >>> (8 * k))) (x.c : Int))))

/-- VADD_I64 (R128). -/
def execVaddI64 (o : V96) (s : State) : Host.Outcome State Fault Refusal :=
  issue (.v96 0x20 o) s (vLane 0x20 o fun _ _ x r => plain r ((x.a + x.b) % 2 ^ 64))

/-- VSUB_I64 (R128). -/
def execVsubI64 (o : V96) (s : State) : Host.Outcome State Fault Refusal :=
  issue (.v96 0x21 o) s (vLane 0x21 o fun _ _ x r => plain r ((x.a + (2 ^ 64 - x.b)) % 2 ^ 64))

/-- VMULLO_I64 (R128). -/
def execVmulloI64 (o : V96) (s : State) : Host.Outcome State Fault Refusal :=
  issue (.v96 0x22 o) s (vLane 0x22 o fun _ _ x r => plain r ((x.a * x.b) % 2 ^ 64))

/-- VMULHI_I64 (R128). -/
def execVmulhiI64 (o : V96) (s : State) : Host.Outcome State Fault Refusal :=
  issue (.v96 0x23 o) s (vLane 0x23 o fun _ _ x r => plain r (wrapN 64 ((sextN 64 x.a * sextN 64 x.b) / (2 ^ 64 : Int))))

/-- VMULHI_N64 (R128). -/
def execVmulhiN64 (o : V96) (s : State) : Host.Outcome State Fault Refusal :=
  issue (.v96 0x24 o) s (vLane 0x24 o fun _ _ x r => plain r (x.a * x.b / 2 ^ 64))

/-- VMIN_I64 (R128). -/
def execVminI64 (o : V96) (s : State) : Host.Outcome State Fault Refusal :=
  issue (.v96 0x25 o) s (vLane 0x25 o fun _ _ x r => plain r (if readInt true 64 x.a ≤ readInt true 64 x.b then x.a else x.b))

/-- VMAX_I64 (R128). -/
def execVmaxI64 (o : V96) (s : State) : Host.Outcome State Fault Refusal :=
  issue (.v96 0x26 o) s (vLane 0x26 o fun _ _ x r => plain r (if readInt true 64 x.a ≤ readInt true 64 x.b then x.b else x.a))

/-- VMIN_N64 (R128). -/
def execVminN64 (o : V96) (s : State) : Host.Outcome State Fault Refusal :=
  issue (.v96 0x27 o) s (vLane 0x27 o fun _ _ x r => plain r (if readInt false 64 x.a ≤ readInt false 64 x.b then x.a else x.b))

/-- VMAX_N64 (R128). -/
def execVmaxN64 (o : V96) (s : State) : Host.Outcome State Fault Refusal :=
  issue (.v96 0x28 o) s (vLane 0x28 o fun _ _ x r => plain r (if readInt false 64 x.a ≤ readInt false 64 x.b then x.b else x.a))

/-- VSHL_B64 (R128). -/
def execVshlB64 (o : V96) (s : State) : Host.Outcome State Fault Refusal :=
  issue (.v96 0x29 o) s (vLane 0x29 o fun _ _ x r => plain r (if 64 ≤ x.b then 0 else (x.a <<< x.b) % 2 ^ 64))

/-- VSHR_B64 (R128). -/
def execVshrB64 (o : V96) (s : State) : Host.Outcome State Fault Refusal :=
  issue (.v96 0x2A o) s (vLane 0x2a o fun _ _ x r => plain r (if 64 ≤ x.b then 0 else x.a >>> x.b))

/-- VSRA_I64 (R128). -/
def execVsraI64 (o : V96) (s : State) : Host.Outcome State Fault Refusal :=
  issue (.v96 0x2B o) s (vLane 0x2b o fun _ _ x r => plain r (wrapN 64 (sextN 64 x.a >>> min x.b 64)))

/-- VMULW_I32 (R128). -/
def execVmulwI32 (o : V96) (s : State) : Host.Outcome State Fault Refusal :=
  issue (.v96 0x2C o) s (vLane 0x2c o fun _ _ x r => plain r (wrapN 64 (readInt true 32 x.a * readInt true 32 x.b)))

/-- VMULW_N32 (R128). -/
def execVmulwN32 (o : V96) (s : State) : Host.Outcome State Fault Refusal :=
  issue (.v96 0x2D o) s (vLane 0x2d o fun _ _ x r => plain r (wrapN 64 (readInt false 32 x.a * readInt false 32 x.b)))

/-- VMADW_I32 (R128). -/
def execVmadwI32 (o : V96) (s : State) : Host.Outcome State Fault Refusal :=
  issue (.v96 0x2E o) s (vLane 0x2e o fun _ _ x r => plain r (wrapN 64 (readInt true 32 x.a * readInt true 32 x.b + (x.c : Int))))

/-- VMADW_N32 (R128). -/
def execVmadwN32 (o : V96) (s : State) : Host.Outcome State Fault Refusal :=
  issue (.v96 0x2F o) s (vLane 0x2f o fun _ _ x r => plain r (wrapN 64 (readInt false 32 x.a * readInt false 32 x.b + (x.c : Int))))

/-- VCMP_I32 (R129). -/
def execVcmpI32 (o : V96) (s : State) : Host.Outcome State Fault Refusal :=
  issue (.v96 0x30 o) s (vBits 0x30 o fun _ _ x => (icond o.rnd.toNat (readInt true 32 x.a) (readInt true 32 x.b), 0))

/-- VCMP_N32 (R129). -/
def execVcmpN32 (o : V96) (s : State) : Host.Outcome State Fault Refusal :=
  issue (.v96 0x31 o) s (vBits 0x31 o fun _ _ x => (icond o.rnd.toNat (readInt false 32 x.a) (readInt false 32 x.b), 0))

/-- VCMP_I64 (R129). -/
def execVcmpI64 (o : V96) (s : State) : Host.Outcome State Fault Refusal :=
  issue (.v96 0x32 o) s (vBits 0x32 o fun _ _ x => (icond o.rnd.toNat (readInt true 64 x.a) (readInt true 64 x.b), 0))

/-- VCMP_N64 (R129). -/
def execVcmpN64 (o : V96) (s : State) : Host.Outcome State Fault Refusal :=
  issue (.v96 0x33 o) s (vBits 0x33 o fun _ _ x => (icond o.rnd.toNat (readInt false 64 x.a) (readInt false 64 x.b), 0))

/-- VCMP.F32 (R129). -/
def execVcmpF32 (o : V96) (s : State) : Host.Outcome State Fault Refusal :=
  issue (.v96 0x34 o) s (vBits 0x34 o fun s _ x => (fcond o.rnd.toNat (s.f32Lo x.a) (s.f32Lo x.b), fcondFlags o.rnd.toNat (s.f32Lo x.a) (s.f32Lo x.b)))

/-- VCMP.F16: element 0 (R129). -/
def execVcmpF16 (o : V96) (s : State) : Host.Outcome State Fault Refusal :=
  issue (.v96 0x35 o) s (vBits 0x35 o fun s _ x => (fcond o.rnd.toNat (fF16.decodeFz s.fz16 (half x.a 0)) (fF16.decodeFz s.fz16 (half x.b 0)), fcondFlags o.rnd.toNat (fF16.decodeFz s.fz16 (half x.a 0)) (fF16.decodeFz s.fz16 (half x.b 0))))

/-- VCLASS.F32: no flag (R130). -/
def execVclassF32 (o : V96) (s : State) : Host.Outcome State Fault Refusal :=
  issue (.v96 0x36 o) s (vClass 0x36 o)

end Sys2Proof.Machine
end

