-- ==== Sys2Proof/Machine/Dispatch.lean ====
section
/-!
DEFINITION. The meaning of every instruction and event: one arm per constructor of Instr.
-/

namespace Sys2Proof.Machine

def exec (i : Instr) (s : State) : Host.Outcome State Fault Refusal :=
  match i with
  | .nop o => Sys2Proof.Machine.execNop o s
  | .bra o => Sys2Proof.Machine.execBra o s
  | .brd o => Sys2Proof.Machine.execBrd o s
  | .call o => Sys2Proof.Machine.execCall o s
  | .ret o => Sys2Proof.Machine.execRet o s
  | .exit o => Sys2Proof.Machine.execExit o s
  | .waitc o => Sys2Proof.Machine.execWaitc o s
  | .barSync o => Sys2Proof.Machine.execBarSync o s
  | .barArrive o => Sys2Proof.Machine.execBarArrive o s
  | .barWait o => Sys2Proof.Machine.execBarWait o s
  | .join o => Sys2Proof.Machine.execJoin o s
  | .yield o => Sys2Proof.Machine.execYield o s
  | .sleep o => Sys2Proof.Machine.execSleep o s
  | .lpad o => Sys2Proof.Machine.execLpad o s
  | .trap o => Sys2Proof.Machine.execTrap o s
  | .bkpt o => Sys2Proof.Machine.execBkpt o s
  | .rte o => Sys2Proof.Machine.execRte o s
  | .fenceFull o => Sys2Proof.Machine.execFenceFull o s
  | .fenceAcq o => Sys2Proof.Machine.execFenceAcq o s
  | .fenceRel o => Sys2Proof.Machine.execFenceRel o s
  | .segw o => Sys2Proof.Machine.execSegw o s
  | .smov o => Sys2Proof.Machine.execSmov o s
  | .sadd o => Sys2Proof.Machine.execSadd o s
  | .ssub o => Sys2Proof.Machine.execSsub o s
  | .smul o => Sys2Proof.Machine.execSmul o s
  | .smulhiN o => Sys2Proof.Machine.execSmulhiN o s
  | .smulhiI o => Sys2Proof.Machine.execSmulhiI o s
  | .sand o => Sys2Proof.Machine.execSand o s
  | .sor o => Sys2Proof.Machine.execSor o s
  | .sxor o => Sys2Proof.Machine.execSxor o s
  | .sandn o => Sys2Proof.Machine.execSandn o s
  | .sshl o => Sys2Proof.Machine.execSshl o s
  | .sshr o => Sys2Proof.Machine.execSshr o s
  | .ssra o => Sys2Proof.Machine.execSsra o s
  | .sminI o => Sys2Proof.Machine.execSminI o s
  | .smaxI o => Sys2Proof.Machine.execSmaxI o s
  | .sminN o => Sys2Proof.Machine.execSminN o s
  | .smaxN o => Sys2Proof.Machine.execSmaxN o s
  | .sbfeN o => Sys2Proof.Machine.execSbfeN o s
  | .sbfeI o => Sys2Proof.Machine.execSbfeI o s
  | .sbfi o => Sys2Proof.Machine.execSbfi o s
  | .spopc o => Sys2Proof.Machine.execSpopc o s
  | .sclz o => Sys2Proof.Machine.execSclz o s
  | .sctz o => Sys2Proof.Machine.execSctz o s
  | .sbrev o => Sys2Proof.Machine.execSbrev o s
  | .ssel o => Sys2Proof.Machine.execSsel o s
  | .scmpI o => Sys2Proof.Machine.execScmpI o s
  | .scmpN o => Sys2Proof.Machine.execScmpN o s
  | .saddB64 o => Sys2Proof.Machine.execSaddB64 o s
  | .ssubB64 o => Sys2Proof.Machine.execSsubB64 o s
  | .smulB64 o => Sys2Proof.Machine.execSmulB64 o s
  | .sshlB64 o => Sys2Proof.Machine.execSshlB64 o s
  | .sshrB64 o => Sys2Proof.Machine.execSshrB64 o s
  | .scmpI64 o => Sys2Proof.Machine.execScmpI64 o s
  | .scmpN64 o => Sys2Proof.Machine.execScmpN64 o s
  | .sfadd o => Sys2Proof.Machine.execSfadd o s
  | .sfmul o => Sys2Proof.Machine.execSfmul o s
  | .sffma o => Sys2Proof.Machine.execSffma o s
  | .sfmin o => Sys2Proof.Machine.execSfmin o s
  | .sfmax o => Sys2Proof.Machine.execSfmax o s
  | .sfcmp o => Sys2Proof.Machine.execSfcmp o s
  | .scvtF32I32 o => Sys2Proof.Machine.execScvtF32I32 o s
  | .scvtI32F32 o => Sys2Proof.Machine.execScvtI32F32 o s
  | .srcp o => Sys2Proof.Machine.execSrcp o s
  | .srd o => Sys2Proof.Machine.execSrd o s
  | .cycloRead o => Sys2Proof.Machine.execCycloRead o s
  | .swr o => Sys2Proof.Machine.execSwr o s
  | .carveWrite cluster value => Sys2Proof.Machine.execCarveWrite cluster value s
  | .carveGrowthDone cluster => Sys2Proof.Machine.execCarveGrowthDone cluster s
  | .carveShrinkDone cluster => Sys2Proof.Machine.execCarveShrinkDone cluster s
  | .clkratioWrite cluster value => Sys2Proof.Machine.execClkratioWrite cluster value s
  | .ctxctlGo core value => Sys2Proof.Machine.execCtxctlGo core value s
  | .brx o => Sys2Proof.Machine.execBrx o s
  | .callx o => Sys2Proof.Machine.execCallx o s
  | .vacq o => Sys2Proof.Machine.execVacq o s
  | .vrel o => Sys2Proof.Machine.execVrel o s
  | .launch o => Sys2Proof.Machine.execLaunch o s
  | .swaitg o => Sys2Proof.Machine.execSwaitg o s
  | .swaitgPoll who => Sys2Proof.Machine.execSwaitgPoll who s
  | .sld o => Sys2Proof.Machine.execSld o s
  | .sst o => Sys2Proof.Machine.execSst o s
  | .satom o => Sys2Proof.Machine.execSatom o s
  | .ssld o => Sys2Proof.Machine.execSsld o s
  | .ssst o => Sys2Proof.Machine.execSsst o s
  | .waita o => Sys2Proof.Machine.execWaita o s
  | .waitaPoll who => Sys2Proof.Machine.execWaitaPoll who s
  | .sacq o => Sys2Proof.Machine.execSacq o s
  | .srel o => Sys2Proof.Machine.execSrel o s
  | .sobind o => Sys2Proof.Machine.execSobind o s
  | .sounbind o => Sys2Proof.Machine.execSounbind o s
  | .vld o => Sys2Proof.Machine.execVld o s
  | .vst o => Sys2Proof.Machine.execVst o s
  | .vatom o => Sys2Proof.Machine.execVatom o s
  | .vsld o => Sys2Proof.Machine.execVsld o s
  | .vsst o => Sys2Proof.Machine.execVsst o s
  | .vsatom o => Sys2Proof.Machine.execVsatom o s
  | .vpref o => Sys2Proof.Machine.execVpref o s
  | .vldw o => Sys2Proof.Machine.execVldw o s
  | .memoryCompletion group op => Sys2Proof.Machine.execMemoryCompletion group op s
  | .cacheEviction level index sector => Sys2Proof.Machine.execCacheEviction level index sector s
  | .pageFaultService group split => Sys2Proof.Machine.execPageFaultService group split s
  | .replay who => Sys2Proof.Machine.execReplay who s
  | .asyncTrapDelivery group => Sys2Proof.Machine.execAsyncTrapDelivery group s
  | .tsample o => Sys2Proof.Machine.execTsample o s
  | .tfetch o => Sys2Proof.Machine.execTfetch o s
  | .tgather4 o => Sys2Proof.Machine.execTgather4 o s
  | .tquery o => Sys2Proof.Machine.execTquery o s
  | .trec o => Sys2Proof.Machine.execTrec o s
  | .textureCompletion group op => Sys2Proof.Machine.execTextureCompletion group op s
  | .mma o => Sys2Proof.Machine.execMma o s
  | .mzero o => Sys2Proof.Machine.execMzero o s
  | .mrd o => Sys2Proof.Machine.execMrd o s
  | .mst o => Sys2Proof.Machine.execMst o s
  | .mld o => Sys2Proof.Machine.execMld o s
  | .mver o => Sys2Proof.Machine.execMver o s
  | .mwait o => Sys2Proof.Machine.execMwait o s
  | .matrixCommandCompletion cluster index => Sys2Proof.Machine.execMatrixCommandCompletion cluster index s
  | .cpy o => Sys2Proof.Machine.execCpy o s
  | .cpym o => Sys2Proof.Machine.execCpym o s
  | .cpub o => Sys2Proof.Machine.execCpub o s
  | .cpenc o => Sys2Proof.Machine.execCpenc o s
  | .cpdec o => Sys2Proof.Machine.execCpdec o s
  | .cprem o => Sys2Proof.Machine.execCprem o s
  | .copyAcceptance cluster => Sys2Proof.Machine.execCopyAcceptance cluster s
  | .copyCommandCompletion cluster index => Sys2Proof.Machine.execCopyCommandCompletion cluster index s
  | .followOnOffer cluster index => Sys2Proof.Machine.execFollowOnOffer cluster index s
  | .gzlatch o => Sys2Proof.Machine.execGzlatch o s
  | .vwarpProj o => Sys2Proof.Machine.execVwarpProj o s
  | .vwarpPos o => Sys2Proof.Machine.execVwarpPos o s
  | .vwarpGeom o => Sys2Proof.Machine.execVwarpGeom o s
  | .rtri o => Sys2Proof.Machine.execRtri o s
  | .rwalk o => Sys2Proof.Machine.execRwalk o s
  | .rasterWalkCompletion group op => Sys2Proof.Machine.execRasterWalkCompletion group op s
  | .lres o => Sys2Proof.Machine.execLres o s
  | .lresCompletion group op => Sys2Proof.Machine.execLresCompletion group op s
  | .temit o => Sys2Proof.Machine.execTemit o s
  | .stripPacketTransmission set strip view => Sys2Proof.Machine.execStripPacketTransmission set strip view s
  | .stripExpiry set strip => Sys2Proof.Machine.execStripExpiry set strip s
  | .rtrace o => Sys2Proof.Machine.execRtrace o s
  | .rnext o => Sys2Proof.Machine.execRnext o s
  | .rcommit o => Sys2Proof.Machine.execRcommit o s
  | .rspawn o => Sys2Proof.Machine.execRspawn o s
  | .rpop o => Sys2Proof.Machine.execRpop o s
  | .rayResult group op => Sys2Proof.Machine.execRayResult group op s
  | .spawnPush group op => Sys2Proof.Machine.execSpawnPush group op s
  | .sleepExpiry who => Sys2Proof.Machine.execSleepExpiry who s
  | .joinLimit who => Sys2Proof.Machine.execJoinLimit who s
  | .waitConditionHolds who => Sys2Proof.Machine.execWaitConditionHolds who s
  | .splitMerge group => Sys2Proof.Machine.execSplitMerge group s
  | .splitDeferral group => Sys2Proof.Machine.execSplitDeferral group s
  | .launchTake group => Sys2Proof.Machine.execLaunchTake group s
  | .blockStart ctx launch block => Sys2Proof.Machine.execBlockStart ctx launch block s
  | .launchCompletion ctx launch => Sys2Proof.Machine.execLaunchCompletion ctx launch s
  | .blockSave block why => Sys2Proof.Machine.execBlockSave block why s
  | .blockRestore block place => Sys2Proof.Machine.execBlockRestore block place s
  | .migration block place => Sys2Proof.Machine.execMigration block place s
  | .thermhrSample readings => Sys2Proof.Machine.execThermhrSample readings s
  | .fstepRaise => Sys2Proof.Machine.execFstepRaise s
  | .fstepLower => Sys2Proof.Machine.execFstepLower s
  | .ratioLower cluster => Sys2Proof.Machine.execRatioLower cluster s
  | .clusterIdle cluster => Sys2Proof.Machine.execClusterIdle cluster s
  | .clusterAdmission => Sys2Proof.Machine.execClusterAdmission s
  | .fillerOperation cluster energy => Sys2Proof.Machine.execFillerOperation cluster energy s
  | .refreshWindow region => Sys2Proof.Machine.execRefreshWindow region s
  | .storageError what corrected => Sys2Proof.Machine.execStorageError what corrected s
  | .submit c => Sys2Proof.Machine.execSubmit c s
  | .ctxCreate c => Sys2Proof.Machine.execCtxCreate c s
  | .ctxDestroy c => Sys2Proof.Machine.execCtxDestroy c s
  | .map c => Sys2Proof.Machine.execMap c s
  | .unmap c => Sys2Proof.Machine.execUnmap c s
  | .syncsum c => Sys2Proof.Machine.execSyncsum c s
  | .xlate c => Sys2Proof.Machine.execXlate c s
  | .vset c => Sys2Proof.Machine.execVset c s
  | .vsetUnbind c => Sys2Proof.Machine.execVsetUnbind c s
  | .wsmodeLoad c => Sys2Proof.Machine.execWsmodeLoad c s
  | .wsmodeRead c => Sys2Proof.Machine.execWsmodeRead c s
  | .config c => Sys2Proof.Machine.execConfig c s
  | .portcfg c => Sys2Proof.Machine.execPortcfg c s
  | .flashBegin c => Sys2Proof.Machine.execFlashBegin c s
  | .flashWrite c => Sys2Proof.Machine.execFlashWrite c s
  | .flashCommit c => Sys2Proof.Machine.execFlashCommit c s
  | .gazePacket port payload => Sys2Proof.Machine.execGazePacket port payload s
  | .rdmaWrite q key src addr data => Sys2Proof.Machine.execRdmaWrite q key src addr data s
  | .rdmaRead q key src addr len => Sys2Proof.Machine.execRdmaRead q key src addr len s
  | .rdmaCompareAndSwap q key src addr compare swap => Sys2Proof.Machine.execRdmaCompareAndSwap q key src addr compare swap s
  | .rdmaFetchAndAdd q key src addr operand => Sys2Proof.Machine.execRdmaFetchAndAdd q key src addr operand s
  | .jarianAtomicRequest q src payload => Sys2Proof.Machine.execJarianAtomicRequest q src payload s
  | .jarianAtomicResponse q payload => Sys2Proof.Machine.execJarianAtomicResponse q payload s
  | .windowAcknowledgement request data => Sys2Proof.Machine.execWindowAcknowledgement request data s
  | .remoteTimeout request => Sys2Proof.Machine.execRemoteTimeout request s
  | .cmReq q kind priv => Sys2Proof.Machine.execCmReq q kind priv s
  | .linkUp port sub duplicate => Sys2Proof.Machine.execLinkUp port sub duplicate s
  | .linkDown port sub => Sys2Proof.Machine.execLinkDown port sub s
  | .arpRequest port sub vlan target => Sys2Proof.Machine.execArpRequest port sub vlan target s
  | .neighbourSolicitation port sub vlan target => Sys2Proof.Machine.execNeighbourSolicitation port sub vlan target s
  | .pfcPause port sub paused => Sys2Proof.Machine.execPfcPause port sub paused s
  | .unacceptedFrame port fragment => Sys2Proof.Machine.execUnacceptedFrame port fragment s
  | .powerOn test => Sys2Proof.Machine.execPowerOn test s
  | .hardwareTrip => Sys2Proof.Machine.execHardwareTrip s
  | .illegalOpcode w => Sys2Proof.Machine.execIllegalOpcode w s
  | .malformedMessage q message => Sys2Proof.Machine.execMalformedMessage q message s
  | .remoteFault request => Sys2Proof.Machine.execRemoteFault request s
  | .bindRecord core entry ctx record => Sys2Proof.Machine.execBindRecord core entry ctx record s
  | .vaddI32 o => Sys2Proof.Machine.execVaddI32 o s
  | .vsubI32 o => Sys2Proof.Machine.execVsubI32 o s
  | .vmulloI32 o => Sys2Proof.Machine.execVmulloI32 o s
  | .vmulhiI32 o => Sys2Proof.Machine.execVmulhiI32 o s
  | .vmulhiN32 o => Sys2Proof.Machine.execVmulhiN32 o s
  | .vmadI32 o => Sys2Proof.Machine.execVmadI32 o s
  | .vabsdiffN32 o => Sys2Proof.Machine.execVabsdiffN32 o s
  | .vminI32 o => Sys2Proof.Machine.execVminI32 o s
  | .vmaxI32 o => Sys2Proof.Machine.execVmaxI32 o s
  | .vminN32 o => Sys2Proof.Machine.execVminN32 o s
  | .vmaxN32 o => Sys2Proof.Machine.execVmaxN32 o s
  | .vand o => Sys2Proof.Machine.execVand o s
  | .vor o => Sys2Proof.Machine.execVor o s
  | .vxor o => Sys2Proof.Machine.execVxor o s
  | .vandn o => Sys2Proof.Machine.execVandn o s
  | .vshl o => Sys2Proof.Machine.execVshl o s
  | .vshr o => Sys2Proof.Machine.execVshr o s
  | .vsra o => Sys2Proof.Machine.execVsra o s
  | .vrotl o => Sys2Proof.Machine.execVrotl o s
  | .vbfeN o => Sys2Proof.Machine.execVbfeN o s
  | .vbfeI o => Sys2Proof.Machine.execVbfeI o s
  | .vbfi o => Sys2Proof.Machine.execVbfi o s
  | .vpopc o => Sys2Proof.Machine.execVpopc o s
  | .vclz o => Sys2Proof.Machine.execVclz o s
  | .vbrev o => Sys2Proof.Machine.execVbrev o s
  | .vsel o => Sys2Proof.Machine.execVsel o s
  | .vaddsatI32 o => Sys2Proof.Machine.execVaddsatI32 o s
  | .vaddsatN32 o => Sys2Proof.Machine.execVaddsatN32 o s
  | .vsubsatI32 o => Sys2Proof.Machine.execVsubsatI32 o s
  | .vsubsatN32 o => Sys2Proof.Machine.execVsubsatN32 o s
  | .vdot4I8 o => Sys2Proof.Machine.execVdot4I8 o s
  | .vdot4N8 o => Sys2Proof.Machine.execVdot4N8 o s
  | .vaddI64 o => Sys2Proof.Machine.execVaddI64 o s
  | .vsubI64 o => Sys2Proof.Machine.execVsubI64 o s
  | .vmulloI64 o => Sys2Proof.Machine.execVmulloI64 o s
  | .vmulhiI64 o => Sys2Proof.Machine.execVmulhiI64 o s
  | .vmulhiN64 o => Sys2Proof.Machine.execVmulhiN64 o s
  | .vminI64 o => Sys2Proof.Machine.execVminI64 o s
  | .vmaxI64 o => Sys2Proof.Machine.execVmaxI64 o s
  | .vminN64 o => Sys2Proof.Machine.execVminN64 o s
  | .vmaxN64 o => Sys2Proof.Machine.execVmaxN64 o s
  | .vshlB64 o => Sys2Proof.Machine.execVshlB64 o s
  | .vshrB64 o => Sys2Proof.Machine.execVshrB64 o s
  | .vsraI64 o => Sys2Proof.Machine.execVsraI64 o s
  | .vmulwI32 o => Sys2Proof.Machine.execVmulwI32 o s
  | .vmulwN32 o => Sys2Proof.Machine.execVmulwN32 o s
  | .vmadwI32 o => Sys2Proof.Machine.execVmadwI32 o s
  | .vmadwN32 o => Sys2Proof.Machine.execVmadwN32 o s
  | .vcmpI32 o => Sys2Proof.Machine.execVcmpI32 o s
  | .vcmpN32 o => Sys2Proof.Machine.execVcmpN32 o s
  | .vcmpI64 o => Sys2Proof.Machine.execVcmpI64 o s
  | .vcmpN64 o => Sys2Proof.Machine.execVcmpN64 o s
  | .vcmpF32 o => Sys2Proof.Machine.execVcmpF32 o s
  | .vcmpF16 o => Sys2Proof.Machine.execVcmpF16 o s
  | .vclassF32 o => Sys2Proof.Machine.execVclassF32 o s
  | .vfadd o => Sys2Proof.Machine.execVfadd o s
  | .vfsub o => Sys2Proof.Machine.execVfsub o s
  | .vfmul o => Sys2Proof.Machine.execVfmul o s
  | .vffma o => Sys2Proof.Machine.execVffma o s
  | .vfmin o => Sys2Proof.Machine.execVfmin o s
  | .vfmax o => Sys2Proof.Machine.execVfmax o s
  | .vfminx o => Sys2Proof.Machine.execVfminx o s
  | .vfmaxx o => Sys2Proof.Machine.execVfmaxx o s
  | .vffloor o => Sys2Proof.Machine.execVffloor o s
  | .vfceil o => Sys2Proof.Machine.execVfceil o s
  | .vftrunc o => Sys2Proof.Machine.execVftrunc o s
  | .vfrint o => Sys2Proof.Machine.execVfrint o s
  | .vffract o => Sys2Proof.Machine.execVffract o s
  | .vfldexp o => Sys2Proof.Machine.execVfldexp o s
  | .vfsat o => Sys2Proof.Machine.execVfsat o s
  | .vhaddF16 o => Sys2Proof.Machine.execVhaddF16 o s
  | .vhmulF16 o => Sys2Proof.Machine.execVhmulF16 o s
  | .vhfmaF16 o => Sys2Proof.Machine.execVhfmaF16 o s
  | .vhminF16 o => Sys2Proof.Machine.execVhminF16 o s
  | .vhmaxF16 o => Sys2Proof.Machine.execVhmaxF16 o s
  | .vhaddBf16 o => Sys2Proof.Machine.execVhaddBf16 o s
  | .vhmulBf16 o => Sys2Proof.Machine.execVhmulBf16 o s
  | .vhfmaBf16 o => Sys2Proof.Machine.execVhfmaBf16 o s
  | .vfmixF16 o => Sys2Proof.Machine.execVfmixF16 o s
  | .vdot2F16 o => Sys2Proof.Machine.execVdot2F16 o s
  | .vdot2Bf16 o => Sys2Proof.Machine.execVdot2Bf16 o s
  | .vcadd o => Sys2Proof.Machine.execVcadd o s
  | .vcsub o => Sys2Proof.Machine.execVcsub o s
  | .vcmul o => Sys2Proof.Machine.execVcmul o s
  | .vcfma o => Sys2Proof.Machine.execVcfma o s
  | .vcmulj o => Sys2Proof.Machine.execVcmulj o s
  | .vcfmaj o => Sys2Proof.Machine.execVcfmaj o s
  | .vcabs2 o => Sys2Proof.Machine.execVcabs2 o s
  | .vcscl o => Sys2Proof.Machine.execVcscl o s
  | .vrcp o => Sys2Proof.Machine.execVrcp o s
  | .vrsq o => Sys2Proof.Machine.execVrsq o s
  | .vsqrt o => Sys2Proof.Machine.execVsqrt o s
  | .vexp2 o => Sys2Proof.Machine.execVexp2 o s
  | .vlog2 o => Sys2Proof.Machine.execVlog2 o s
  | .vsinpi o => Sys2Proof.Machine.execVsinpi o s
  | .vcospi o => Sys2Proof.Machine.execVcospi o s
  | .vsincospi o => Sys2Proof.Machine.execVsincospi o s
  | .vdiv o => Sys2Proof.Machine.execVdiv o s
  | .vtanh o => Sys2Proof.Machine.execVtanh o s
  | .vcvtF32I32 o => Sys2Proof.Machine.execVcvtF32I32 o s
  | .vcvtF32N32 o => Sys2Proof.Machine.execVcvtF32N32 o s
  | .vcvtI32F32 o => Sys2Proof.Machine.execVcvtI32F32 o s
  | .vcvtN32F32 o => Sys2Proof.Machine.execVcvtN32F32 o s
  | .vcvtF32F16 o => Sys2Proof.Machine.execVcvtF32F16 o s
  | .vcvtF32Bf16 o => Sys2Proof.Machine.execVcvtF32Bf16 o s
  | .vpackF16 o => Sys2Proof.Machine.execVpackF16 o s
  | .vpackBf16 o => Sys2Proof.Machine.execVpackBf16 o s
  | .vcvtF32I64 o => Sys2Proof.Machine.execVcvtF32I64 o s
  | .vcvtI64F32 o => Sys2Proof.Machine.execVcvtI64F32 o s
  | .vcvtnTo o => Sys2Proof.Machine.execVcvtnTo o s
  | .vcvtnFrom o => Sys2Proof.Machine.execVcvtnFrom o s
  | .vmxscale o => Sys2Proof.Machine.execVmxscale o s
  | .vmov o => Sys2Proof.Machine.execVmov o s
  | .vrdlane o => Sys2Proof.Machine.execVrdlane o s
  | .vwrlane o => Sys2Proof.Machine.execVwrlane o s
  | .vlaneid o => Sys2Proof.Machine.execVlaneid o s
  | .vbshuf o => Sys2Proof.Machine.execVbshuf o s
  | .vfunnel o => Sys2Proof.Machine.execVfunnel o s
  | .vrngrd o => Sys2Proof.Machine.execVrngrd o s
  | .vrngwr o => Sys2Proof.Machine.execVrngwr o s
  | .vbrx o => Sys2Proof.Machine.execVbrx o s
  | .vredAddI32 o => Sys2Proof.Machine.execVredAddI32 o s
  | .vredAddF32 o => Sys2Proof.Machine.execVredAddF32 o s
  | .vredMinI32 o => Sys2Proof.Machine.execVredMinI32 o s
  | .vredMaxI32 o => Sys2Proof.Machine.execVredMaxI32 o s
  | .vredMinF32 o => Sys2Proof.Machine.execVredMinF32 o s
  | .vredMaxF32 o => Sys2Proof.Machine.execVredMaxF32 o s
  | .vredAnd o => Sys2Proof.Machine.execVredAnd o s
  | .vredOr o => Sys2Proof.Machine.execVredOr o s
  | .vscanAddI32 o => Sys2Proof.Machine.execVscanAddI32 o s
  | .vscanAddF32 o => Sys2Proof.Machine.execVscanAddF32 o s
  | .vvoteAny o => Sys2Proof.Machine.execVvoteAny o s
  | .vvoteAll o => Sys2Proof.Machine.execVvoteAll o s
  | .vballot o => Sys2Proof.Machine.execVballot o s
  | .vmatch o => Sys2Proof.Machine.execVmatch o s
  | .vbrank o => Sys2Proof.Machine.execVbrank o s
  | .vfirst o => Sys2Proof.Machine.execVfirst o s

end Sys2Proof.Machine
end

