-- ==== Sys2Proof/Decode.lean ====
section
/-!
DEFINITION. Decoding bytes into instructions (R12, R55 to R72) and messages into commands (R412, R413), and the encoder.
The lookup of V96 rows is not compiled (their constructors stand past the compiler's bound); it is evaluated by the kernel.
-/

namespace Sys2Proof

open Machine

/-! ## Word layouts -/

/-- The operand fields of an S64 instruction (R60). -/
def s64Of (w0 w1 : Word) : S64 :=
  { sd := w0.extractLsb' 13 9, sa := w0.extractLsb' 4 9, imm := w0.getLsbD 3, cf := w0.extractLsb' 0 3,
    sb := w1.extractLsb' 0 9, sc := w1.extractLsb' 9 9, aux := w1.extractLsb' 18 14 }
/-- A source A or B of 23 bits (R62). -/
def vsrcOf (x : BitVec 23) : VSrc :=
  { route := x.extractLsb' 15 8, abs := x.getLsbD 14, neg := x.getLsbD 13, elem := x.extractLsb' 10 3, sel := x.extractLsb' 0 10 }
/-- The operand fields of a V96 instruction (R62). -/
def v96Of (w0 w1 w2 : Word) : V96 :=
  let y : BitVec 64 := w2 ++ w1
  { vd := w0.extractLsb' 14 8, nw := w0.getLsbD 13, lat := w0.extractLsb' 10 3, pe := w0.getLsbD 9, pi := w0.extractLsb' 6 3,
    pn := w0.getLsbD 5, ew := w0.extractLsb' 3 2, rnd := w0.extractLsb' 0 3, a := vsrcOf (y.extractLsb' 0 23),
    b := vsrcOf (y.extractLsb' 23 23), cRoute := y.extractLsb' 56 8, cSel := y.extractLsb' 46 10 }
/-- The operand fields of a memory-family instruction (R70, R71). -/
def emOf (w0 w1 w2 : Word) : EMem :=
  { d := w0.extractLsb' 14 8, pe := w0.getLsbD 13, pi := w0.extractLsb' 10 3, pn := w0.getLsbD 9, sa := w0.extractLsb' 0 9,
    heap := w2.getLsbD 31, scope := w2.extractLsb' 28 3, sub := w2.extractLsb' 24 4, off := w2.extractLsb' 0 24,
    policy := w1.extractLsb' 29 3, mode := w1.extractLsb' 27 2, width := w1.extractLsb' 24 3, vb := w1.extractLsb' 16 8,
    vdat := w1.extractLsb' 8 8, va := w1.extractLsb' 0 8 }
/-- The operand fields of an engine-family instruction (R70, R72). -/
def eeOf (w0 w1 w2 : Word) : EEng :=
  { d := w0.extractLsb' 14 8, pe := w0.getLsbD 13, pi := w0.extractLsb' 10 3, pn := w0.getLsbD 9, sa := w0.extractLsb' 0 9,
    imm := w2, sub := w1.extractLsb' 26 6, va := w1.extractLsb' 18 8, sc := w1.extractLsb' 9 9, sb := w1.extractLsb' 0 9 }
/-- The class of a first word: 0 C32, 1 S64, 2 V96, 3 E96. -/
def classOf (w0 : Word) : Nat := (w0.extractLsb' 30 2).toNat
/-- The number of words of an instruction (R12). -/
def wordsIn (w0 : Word) : Nat := match classOf w0 with | 0 => 1 | 1 => 2 | _ => 3
/-- The fields of an instruction of up to three words (R55, R70). -/
def fieldsOf (w0 w1 w2 : Word) : IWord :=
  let op := (w0.extractLsb' 22 8).toNat
  match classOf w0 with
  | 0 => .c32 (w0.extractLsb' 24 6).toNat { f := w0.extractLsb' 0 24 }
  | 1 => .s64 op (s64Of w0 w1)
  | 2 => .v96 op (v96Of w0 w1 w2)
  | _ => if op < 16 then .mem op (emOf w0 w1 w2) else .eng op (eeOf w0 w1 w2)

/-! ## Decoding -/

/-- What bytes decode to: an instruction with the bytes after it, or why they do not. -/
inductive Decoded where
  | instr (i : Instr) (rest : List Byte)
  /-- Fewer bytes than the instruction has. -/
  | truncated
  /-- An opcode that R73 to R76 do not list: the instruction traps ILLEGAL_OPCODE. -/
  | unassigned (w0 : Word)
deriving DecidableEq, Repr, Inhabited
/-- Word k of a byte list. -/
def byteWord (l : List Byte) (k : Nat) : Word := BitVec.ofNat 32 (leNat ((l.drop (4 * k)).take 4))
/-- Decoding the instruction at the head of a byte list. -/
noncomputable def decode (l : List Byte) : Decoded :=
  let w0 := byteWord l 0
  if l.length < 4 then .truncated
  else if l.length < 4 * wordsIn w0 then .truncated
  else
    let w1 := if 1 < wordsIn w0 then byteWord l 1 else 0
    let w2 := if 2 < wordsIn w0 then byteWord l 2 else 0
    match instrOf (fieldsOf w0 w1 w2) with
    | some i => .instr i (l.drop (4 * wordsIn w0))
    | none => .unassigned w0
/-- The instruction that the decoder reads from nbits bits w, bit 0 the least significant of the first word; bits above are 0. -/
noncomputable def decodeTableWord (nbits w : Nat) : Option Instr :=
  match decode (leBytes 12 (w % 2 ^ nbits)) with
  | .instr i _ => some i
  | _ => none

/-! ## Encoding -/

def encVsrc (x : VSrc) : BitVec 23 := x.route ++ BitVec.ofBool x.abs ++ BitVec.ofBool x.neg ++ x.elem ++ x.sel
/-- The words of an instruction's fields (R58, R60, R62, R70 to R72). -/
def encodeWord : IWord → List Word
  | .c32 op o => [(0 : BitVec 2) ++ BitVec.ofNat 6 op ++ o.f]
  | .s64 op o =>
    [(1 : BitVec 2) ++ BitVec.ofNat 8 op ++ o.sd ++ o.sa ++ BitVec.ofBool o.imm ++ o.cf, o.aux ++ o.sc ++ o.sb]
  | .v96 op o =>
    let y : BitVec 64 := o.cRoute ++ o.cSel ++ encVsrc o.b ++ encVsrc o.a
    [(2 : BitVec 2) ++ BitVec.ofNat 8 op ++ o.vd ++ BitVec.ofBool o.nw ++ o.lat ++ BitVec.ofBool o.pe ++ o.pi ++ BitVec.ofBool o.pn ++
      o.ew ++ o.rnd, y.extractLsb' 0 32, y.extractLsb' 32 32]
  | .mem op o =>
    [(3 : BitVec 2) ++ BitVec.ofNat 8 op ++ o.d ++ BitVec.ofBool o.pe ++ o.pi ++ BitVec.ofBool o.pn ++ o.sa,
     o.policy ++ o.mode ++ o.width ++ o.vb ++ o.vdat ++ o.va, BitVec.ofBool o.heap ++ o.scope ++ o.sub ++ o.off]
  | .eng op o =>
    [(3 : BitVec 2) ++ BitVec.ofNat 8 op ++ o.d ++ BitVec.ofBool o.pe ++ o.pi ++ BitVec.ofBool o.pn ++ o.sa,
     o.sub ++ o.va ++ o.sc ++ o.sb, o.imm]
  | .other => []
/-- The words of an instruction; an event has none. -/
def encode (i : Instr) : List Word := encodeWord (toIWord i)

/-! ## Command messages (R412, R413) -/

/-- The command that a message on a command queue pair carries; a header that R412 refuses gives a malformed message. -/
def decodeMessage (q : Nat) (m : List Word) : Instr :=
  let w0 := wordAt m 0
  let w3 := wordAt m 3
  let c : Cmd := { q := q, tag := wordAt m 1, ctx := wordAt m 2, body := m.drop 4 }
  let b0 := wordAt m 4
  if m.length < 4 ∨ w0.truncate 16 ≠ (0x4A43 : BitVec 16) ∨ wfield w0 23 16 ≠ 1 ∨ wfield w3 31 16 ≠ 0 ∨
      wfield w3 15 0 ≠ 4 * (m.length - 4) ∨ 4064 < wfield w3 15 0 then .malformedMessage q m
  else match wfield w0 31 24 with
    | 0x01 => .submit c
    | 0x02 => if b0.getLsbD 0 then .ctxDestroy c else .ctxCreate c
    | 0x03 => .map c
    | 0x04 => .unmap c
    | 0x05 => .syncsum c
    | 0x06 => .xlate c
    | 0x07 => if b0.getLsbD 8 then .vsetUnbind c else .vset c
    | 0x08 => if b0.getLsbD 0 then .wsmodeLoad c else .wsmodeRead c
    | 0x09 => .config c
    | 0x0A => .portcfg c
    | 0x0B => (match wfield b0 1 0 with | 0 => .flashBegin c | 1 => .flashWrite c | 2 => .flashCommit c | _ => .malformedMessage q m)
    | _ => .malformedMessage q m

end Sys2Proof
end

