-- ==== Sys2Proof/Machine/Schedule.lean ====
section
/-!
DEFINITION. Time, the events that are due in a cycle, those that the machine makes on its own, and the fetch of an instruction
(R12, R13, R187, R188, R399, log 4).
-/

namespace Sys2Proof.Machine

/-! ## Time -/

/-- A cluster's lane clock in one more cycle: lane time rises by the ratio in force, and at a lane-clock edge the last ratio whose 64 cycles
have passed comes into force (R399). -/
def Cluster.pass (c : Cluster) (now : Nat) : Cluster :=
  let l := c.lane16 + c.laneRatio
  if l / 16 = c.lane16 / 16 then { c with lane16 := l }
  else
    { c with lane16 := l, laneRatio := ((c.ratioNext.filter fun r => decide (r.2 ≤ now)).getLast?.map (·.1)).getD c.laneRatio,
             ratioNext := c.ratioNext.filter fun r => decide (now < r.2) }
/-- Every barrier of a block that is resident is tested: a phase whose arrivals moved up complete completes in the cycle after (R192). -/
def State.settleAll (s : State) : State :=
  (List.range s.blocks.length).foldl (fun s bi => if (s.blk bi).live && !(s.blk bi).saved then s.settleBarriers bi else s) s
/-- The next cycle begins: clocks run, engines that hold a command keep their clusters from being IDLE (R401), and deferral starts to count
afresh (R157). -/
def State.passCycle (s : State) (ticks : Nat) : State :=
  let now := s.dev.cycle + 1
  let s := s.updDev fun d => { d with cycle := now, tick := d.tick + ticks }
  let busy (k : Nat) : Bool := s.engineBusy k
  let run (x : Cluster × Nat) : Cluster := { x.1.pass now with last := if busy x.2 then now else x.1.last }
  let s := ({ s with clusters := s.clusters.zipIdx.map run } : State).settleAll.answerWaits
  { s with groups := s.groups.map (fun g => { g with listed := g.deferred.length, freed := 0 }), stage := .fresh, plan := [] }
/-- The front-end cycles of a reference tick of 10 ns at 1.8 GHz − 100 MHz × FSTEP. -/
def State.tickCycles (s : State) : Nat := 18 - s.dev.fstep
/-- A cycle of which the schedule says nothing: a reference tick ends with every so many of them. -/
def State.idleCycle (s : State) : State := s.passCycle (if (s.dev.cycle + 1) % s.tickCycles = 0 then 1 else 0)

/-! ## Events that are due -/

/-- Whether an event would change something. -/
def State.moves (s t : State) : Bool := decide (t ≠ s)
def outcomeState (s : State) : Host.Outcome State Fault Refusal → State
  | .next t => t
  | _ => s
/-- The first strip whose deadline has come (R351). -/
def State.dueStrip (s : State) : Option Instr :=
  (List.range s.sets.length).findSome? fun k =>
    let v := s.set k
    (List.range v.strips.length).findSome? fun n =>
      let t := v.strip n
      if (t.st = .latched ∨ t.st = .building) ∧ t.latch + t.dl ≤ s.dev.tick then some (.stripExpiry k n) else none
/-- A window request whose time is over, or a failed one whose trap can be taken now (R423). -/
def State.dueFailure (s : State) : Option Instr :=
  (s.winReqs.findSome? fun q =>
    if q.failed.isSome then (if s.moves (s.failById q.id 0x18) then some (.remoteFault q.id) else none)
    else if q.sent + 100 * s.dev.remoteTimeout ≤ s.dev.tick ∧ s.moves (s.failById q.id 0x19) then some (.remoteTimeout q.id)
    else none)
/-- A cache that holds more lines than it has room for gives one up (R213, R221, R229, log 33): one marked `.strm` where L1 has such a line,
otherwise a free choice among those that can leave. -/
def linesOf (m : Sparse Sector) : List Nat := (m.map fun e => e.1 / 4).eraseDups
def pickLine (n : Nat) (first l : List Nat) : Option Nat :=
  match l.filter first.contains with
  | [] => l[Config.freeNat n % max l.length 1]?
  | h :: _ => some h
def State.fullL1 (s : State) (core : Nat) : Option Instr :=
  let c := s.core core
  if c.l1.length ≤ 512 ∨ (linesOf c.l1).length ≤ 512 then none else
    let out (n : Nat) : Option Instr := (c.l1.find? fun e => e.1 / 4 == n && (e.2.dirty == 0 || (s.flushL1 core e.1 false).2)).map
      fun e => .cacheEviction (.l1 allBytes) core e.1
    (pickLine s.fresh c.strm ((linesOf c.l1).filter fun n => (out n).isSome && !c.protects (4 * n))).bind out
def State.fullCC (s : State) (k : Nat) : Option Instr :=
  let c := s.cl k
  if c.busy ∨ c.cache.length ≤ waySets * c.ways ∨ (linesOf c.cache).length ≤ waySets * c.ways then none else
    let out (n : Nat) : Option Instr := (c.cache.find? fun e => e.1 / 4 == n && (e.2.dirty == 0 || (s.flushCC k e.1).2)).map
      fun e => .cacheEviction (.cluster allBytes) k e.1
    (pickLine s.fresh [] ((linesOf c.cache).filter fun n => (out n).isSome)).bind out
def State.fullSampler (s : State) (core : Nat) : Option Instr :=
  let m := (s.core core).scache
  if m.length ≤ 256 ∨ (linesOf m).length ≤ 256 then none else
    (pickLine s.fresh [] (linesOf m)).bind fun n => (m.find? fun e => e.1 / 4 == n).map fun e => .cacheEviction .sampler core e.1
def State.dueEviction (s : State) : Option Instr :=
  (List.range s.cores.length).findSome? (fun k => (s.fullL1 k).orElse fun _ => s.fullSampler k) |>.orElse
    fun _ => (List.range s.clusters.length).findSome? s.fullCC
/-- Whether a wait ends in this cycle: its condition holds, a scratchpad word has reached its target (R245), or a word of memory is to be read
again (R203). -/
def State.waitDue (s : State) (who : SplitRef) : Option Instr :=
  let sp := s.spl who
  if s.waitHolds who then some (.waitConditionHolds who)
  else if s.resident who != .wait then none
  else match sp.wait with
    | .waita .. => if s.moves (outcomeState s (execWaitaPoll who s)) then some (.waitaPoll who) else none
    | .swaitg .. =>
      if (sp.pollBy ≤ s.dev.cycle ∨ sp.pollBy < s.dev.atomicAt + 4096) ∧ s.moves (outcomeState s (execSwaitgPoll who s)) then
        some (.swaitgPoll who)
      else none
    | _ => none
def State.groupWaits (s : State) (gi : Nat) : Option Instr :=
  (List.range (s.grp gi).splits.length).findSome? fun i => s.waitDue { group := gi, split := i }
/-- What the splits of a group are due at the start of a cycle, in the row order of R152: asynchronous traps, merges, ends of SLEEP, JOIN, and
of waits, which a deferral goes before where there is a deferred list. -/
def State.dueGroup (s : State) (gi : Nat) : Option Instr :=
  let g := s.grp gi
  let who (i : Nat) : SplitRef := { group := gi, split := i }
  if !g.live? then none
  else if g.async.any (s.asyncDue g) then some (.asyncTrapDelivery gi)
  else if g.mergeAll ≠ g then some (.splitMerge gi)
  else
    ((List.range g.splits.length).findSome? fun i =>
      let sp := g.splits.getD i default
      if sp.st = .sleep ∧ sp.wake ≤ s.dev.cycle then some (.sleepExpiry (who i))
      else if s.resident (who i) == .join && s.waitHolds (who i) then some (.waitConditionHolds (who i))
      else if sp.st = .join ∧ sp.wake ≤ s.dev.cycle then some (.joinLimit (who i))
      else none).orElse fun _ => if g.deferred.isEmpty then s.groupWaits gi else none
/-- What Clove-S is due: a sample every 10 µs (R400), and the steps of R406. -/
def State.dueThermal (s : State) : Option Instr :=
  if s.boot.tripped then none
  else if s.dev.sampledAt + samplePeriod ≤ s.dev.tick then some (.thermhrSample [])
  else if s.allHot && decide (s.dev.fstep < 6) && decide (s.dev.fstepAt + 10000 ≤ s.dev.tick) then some .fstepRaise
  else if s.allCool && decide (0 < s.dev.fstep) && decide (s.dev.coolSince + 100000 ≤ s.dev.tick) then some .fstepLower
  else if s.dev.fstep != 6 then none
  else ((List.range 24).find? fun k =>
    s.veryHot k && decide ((s.cl k).hotFor + 100000 ≤ s.dev.tick) && decide (4 < (s.cl k).ratio)).map .ratioLower
/-- A cluster that becomes IDLE (R401). -/
def State.dueIdle (s : State) : Option Instr :=
  ((List.range 24).find? fun k => !(s.cl k).idle && decide ((s.cl k).last + 1025 ≤ s.dev.cycle) && !s.engineBusy k).map .clusterIdle
/-- The event that is due before anything else in a cycle. -/
def State.due (s : State) : Option Instr :=
  s.dueStrip.orElse fun _ => s.dueFailure.orElse fun _ => ((List.range s.groups.length).findSome? s.dueGroup).orElse fun _ =>
    s.dueThermal.orElse fun _ => s.dueIdle
/-- What a group with a deferred list is due after the cycle's exits: moves and revivals, then the ends of waits (R152, R157). -/
def State.dueDeferral (s : State) (gi : Nat) : Option Instr :=
  let g := s.grp gi
  if !g.live? || g.deferred.isEmpty then none
  else if !(g.movers s.dev.cycle).isEmpty || g.freeEntry.isSome then some (.splitDeferral gi)
  else s.groupWaits gi
def State.dueLate (s : State) : Option Instr := (List.range s.groups.length).findSome? s.dueDeferral
/-- The follow-on offers are tested in every cycle (R279): the first that is accepted or refused now, of those that come before a planned
engine instruction of its cluster, or of all. -/
def State.dueOffer (s : State) (before : Option SplitRef) : Option Instr :=
  (List.range s.clusters.length).findSome? fun k =>
    if (before.any fun b => (s.grp b.group).who.cluster != k) || (s.cl k).offers.isEmpty then none else
    match s.offersNow k with
    | [] => none
    | (i, who) :: _ => if before.all fun b => s.goesFirst who b then some (.followOnOffer k i) else none
/-- An event that waited for a context's reserve (R387), or a command that waited for its queue pair (R415), and the state without it. -/
def State.waitingCommand (s : State) : Option (Instr × State) :=
  (s.dev.waits.findSome? fun w => match w.what with
    | .frames c i => if s.mustWait c then none else some (i, s.updDev fun d => { d with waits := d.waits.erase w })
    | _ => none).orElse fun _ =>
  (List.range s.qps.length).findSome? fun q =>
    match (s.qp q).waiting with
    | [] => none
    | i :: t => if s.queueBusy q then none else some (i, s.updQ q fun x => { x with waiting := t })

/-! ## What the machine does on its own -/

/-- The completion of a counted operation. -/
def PendOp.completion (gi : Nat) (op : PendOp) : List Instr :=
  match op.kind with
  | .memory => [.memoryCompletion gi op.id]
  | .texture => [.textureCompletion gi op.id]
  | .raster => [.rasterWalkCompletion gi op.id]
  | .lres => [.lresCompletion gi op.id]
  | .ray => [.rayResult gi op.id]
  | .spawn => [.spawnPush gi op.id]
  | _ => []
/-- What a group may do: completions, those of lower-numbered splits first (R121), fault service, replays, tests of awaited words, launches taken. -/
def State.groupEvents (s : State) (gi : Nat) : List Instr :=
  let g := s.grp gi
  ((sortBy (fun a b : PendOp => decide (a.holders.min?.getD 0 ≤ b.holders.min?.getD 0)) g.ops).flatMap fun op => op.completion gi) ++
      (((List.range g.splits.length).flatMap fun i =>
        let sp := g.splits.getD i default
        let who : SplitRef := { group := gi, split := i }
        match sp.st, sp.wait with
        | .parked, _ => [Instr.pageFaultService gi i, .replay who]
        | .wait, .swaitg .. => [.swaitgPoll who]
        | _, _ => []) ++ if g.queue.isEmpty then [] else [.launchTake gi])
/-- What the engines of a cluster may do. -/
def State.clusterEvents (s : State) (k : Nat) : List Instr :=
  let c := s.cl k
  ((List.range c.matq.length).map fun i => Instr.matrixCommandCompletion k i) ++
    ((if c.ports.isEmpty then [] else [.copyAcceptance k]) ++
    (((List.range c.copyq.length).map fun i => .copyCommandCompletion k i) ++
    (    ((if c.busy then [.carveGrowthDone k] else []) ++
    ((if c.pend then [.carveShrinkDone k] else []) ++
    ((s.boundBlocks k).map fun x => .blockStart x.1 x.2.1 x.2.2))))))
/-- Launches whose blocks have all left. -/
def State.launchEvents (s : State) : List Instr :=
  (List.range s.ctxs.length).flatMap fun c =>
    ((s.ctx c).launches.filter fun l => l.state == .running && l.completed == l.rc.blocks).map fun l => .launchCompletion c l.id
/-- Views due for transmission. -/
def State.stripEvents (s : State) : List Instr :=
  (List.range s.sets.length).flatMap fun k =>
    let v := s.set k
    (List.range v.strips.length).flatMap fun n =>
      (List.range (v.strip n).views.length).flatMap fun i =>
        ((v.strip n).views.getD i default).due.map fun _ => .stripPacketTransmission k n i
/-- What the machine does on its own in a cycle of which the schedule says nothing: everything outstanding goes on. -/
def State.ownEvents (s : State) : List Instr :=
  s.stripEvents ++ (((List.range s.groups.length).flatMap s.groupEvents) ++
    (((List.range s.clusters.length).flatMap s.clusterEvents) ++ s.launchEvents))

/-! ## Fetch (R12, R13) -/

/-- The three words of an instruction. -/
abbrev Fetched := Word × Word × Word
/-- Fetching at an address with execute permission, page faults served; words past the instruction's length are 0. -/
def State.fetch (s : State) (c : Nat) (pc : Addr56) : Xl Fetched :=
  let at' (k : Nat) : Nat := (pc + BitVec.ofNat 56 (4 * k)).toNat
  let page (k : Nat) : Nat := at' k / pageBytes
  (s.codeWord c (at' 0) [page 0]).andThen fun w0 s =>
    let keep := ((List.range (wordsIn w0)).map page).eraseDups
    if wordsIn w0 < 2 then .got (w0, 0, 0) s
    else (s.codeWord c (at' 1) keep).andThen fun w1 s =>
      if wordsIn w0 < 3 then .got (w0, w1, 0) s
      else (s.codeWord c (at' 2) keep).andThen fun w2 s => .got (w0, w1, w2) s
/-- The address of the first word of an instruction that is not executable. -/
def State.fetchStop (s : State) (c : Nat) (pc : Addr56) : Nat :=
  let at' (k : Nat) : Nat := (pc + BitVec.ofNat 56 (4 * k)).toNat
  (((List.range 3).map at').find? fun va => match s.xlate c va .x with | .ok _ => false | .absent => false | _ => true).getD (at' 0)
/-- An instruction of a cluster's core issues: the cluster is not IDLE, and the operation counts for its context's energy (R401, R404). -/
def Cluster.counted (c : Cluster) (ctx now : Nat) : Cluster :=
  let lane := c.lane16 / 16
  { c with last := now, issuedBy := sset 0 c.issuedBy ctx (sget 0 c.issuedBy ctx + 1),
           recent := (c.recent.filter fun r => decide (lane < r.1 + 1024)) ++ [(lane, ctx)] }
/-- What issuing does before the fetch: the split acts and its age is 0 (R188). -/
def State.begin (s : State) (who : SplitRef) : State :=
  let w := (s.grp who.group).who
  let s := { s with cur := who }
  let s := s.updS who fun sp => { sp with age := 0, held := false }
  s.updCl w.cluster fun c => c.counted w.ctx s.dev.cycle

end Sys2Proof.Machine
end

