-- ==== Sys2Proof/Machine/Run.lean ====
section
/-!
DEFINITION. Running the instruction of a fetched word: what the decoder reads, executed; an unassigned opcode is the event
ILLEGAL_OPCODE (R55, R56). The same for the compiled model, which cannot build the V96 constructors (they stand past the
compiler's bound): a table of their meanings, shown equal.
-/

namespace Sys2Proof.Machine

/-- Running a word's fields: the decoded instruction, or ILLEGAL_OPCODE. -/
noncomputable def runWord (iw : IWord) (w0 : Word) (s : State) : Host.Outcome State Fault Refusal :=
  match instrOf iw with
  | some i => exec i s
  | none => exec (.illegalOpcode w0) s

/-- Part 0 of the meanings of V96 opcodes. -/
def v96Execs0 : List (Nat × (V96 → State → Host.Outcome State Fault Refusal)) :=
  [(0x0, execVaddI32), (0x1, execVsubI32), (0x2, execVmulloI32), (0x3, execVmulhiI32), (0x4, execVmulhiN32),
   (0x5, execVmadI32), (0x6, execVabsdiffN32), (0x7, execVminI32), (0x8, execVmaxI32), (0x9, execVminN32),
   (0xa, execVmaxN32), (0xb, execVand), (0xc, execVor), (0xd, execVxor), (0xe, execVandn), (0xf, execVshl),
   (0x10, execVshr), (0x11, execVsra), (0x12, execVrotl), (0x13, execVbfeN), (0x14, execVbfeI), (0x15, execVbfi),
   (0x16, execVpopc), (0x17, execVclz), (0x18, execVbrev), (0x19, execVsel), (0x1a, execVaddsatI32),
   (0x1b, execVaddsatN32), (0x1c, execVsubsatI32), (0x1d, execVsubsatN32), (0x1e, execVdot4I8),
   (0x1f, execVdot4N8), (0x20, execVaddI64), (0x21, execVsubI64), (0x22, execVmulloI64)]
/-- Part 1 of the meanings of V96 opcodes. -/
def v96Execs1 : List (Nat × (V96 → State → Host.Outcome State Fault Refusal)) :=
  [(0x23, execVmulhiI64), (0x24, execVmulhiN64), (0x25, execVminI64), (0x26, execVmaxI64), (0x27, execVminN64),
   (0x28, execVmaxN64), (0x29, execVshlB64), (0x2a, execVshrB64), (0x2b, execVsraI64), (0x2c, execVmulwI32),
   (0x2d, execVmulwN32), (0x2e, execVmadwI32), (0x2f, execVmadwN32), (0x30, execVcmpI32), (0x31, execVcmpN32),
   (0x32, execVcmpI64), (0x33, execVcmpN64), (0x34, execVcmpF32), (0x35, execVcmpF16), (0x36, execVclassF32),
   (0x40, execVfadd), (0x41, execVfsub), (0x42, execVfmul), (0x43, execVffma), (0x44, execVfmin),
   (0x45, execVfmax), (0x46, execVfminx), (0x47, execVfmaxx), (0x48, execVffloor), (0x49, execVfceil),
   (0x4a, execVftrunc), (0x4b, execVfrint), (0x4c, execVffract), (0x4d, execVfldexp), (0x4e, execVfsat)]
/-- Part 2 of the meanings of V96 opcodes. -/
def v96Execs2 : List (Nat × (V96 → State → Host.Outcome State Fault Refusal)) :=
  [(0x50, execVhaddF16), (0x51, execVhmulF16), (0x52, execVhfmaF16), (0x53, execVhminF16), (0x54, execVhmaxF16),
   (0x55, execVhaddBf16), (0x56, execVhmulBf16), (0x57, execVhfmaBf16), (0x58, execVfmixF16),
   (0x59, execVdot2F16), (0x5a, execVdot2Bf16), (0x60, execVcadd), (0x61, execVcsub), (0x62, execVcmul),
   (0x63, execVcfma), (0x64, execVcmulj), (0x65, execVcfmaj), (0x66, execVcabs2), (0x67, execVcscl),
   (0x70, execVrcp), (0x71, execVrsq), (0x72, execVsqrt), (0x73, execVexp2), (0x74, execVlog2),
   (0x75, execVsinpi), (0x76, execVcospi), (0x77, execVsincospi), (0x78, execVdiv), (0x79, execVtanh),
   (0x80, execVcvtF32I32), (0x81, execVcvtF32N32), (0x82, execVcvtI32F32), (0x83, execVcvtN32F32),
   (0x84, execVcvtF32F16), (0x85, execVcvtF32Bf16)]
/-- Part 3 of the meanings of V96 opcodes. -/
def v96Execs3 : List (Nat × (V96 → State → Host.Outcome State Fault Refusal)) :=
  [(0x86, execVpackF16), (0x87, execVpackBf16), (0x88, execVcvtF32I64), (0x89, execVcvtI64F32),
   (0x8a, execVcvtnTo), (0x8b, execVcvtnFrom), (0x8c, execVmxscale), (0x90, execVmov), (0x91, execVrdlane),
   (0x92, execVwrlane), (0x93, execVlaneid), (0x94, execVbshuf), (0x95, execVfunnel), (0x96, execVrngrd),
   (0x97, execVrngwr), (0x98, execVbrx), (0xa0, execVredAddI32), (0xa1, execVredAddF32), (0xa2, execVredMinI32),
   (0xa3, execVredMaxI32), (0xa4, execVredMinF32), (0xa5, execVredMaxF32), (0xa6, execVredAnd),
   (0xa7, execVredOr), (0xa8, execVscanAddI32), (0xa9, execVscanAddF32), (0xaa, execVvoteAny),
   (0xab, execVvoteAll), (0xac, execVballot), (0xad, execVmatch), (0xae, execVbrank), (0xaf, execVfirst)]
/-- The meanings of V96 opcodes (R75). -/
def v96Execs : List (Nat × (V96 → State → Host.Outcome State Fault Refusal)) :=
  v96Execs0 ++ (v96Execs1 ++ (v96Execs2 ++ v96Execs3))
/-- Executing what a decoder read. -/
def runOpt (i : Option Instr) (w0 : Word) (s : State) : Host.Outcome State Fault Refusal :=
  match i with
  | some i => exec i s
  | none => exec (.illegalOpcode w0) s
/-- The compiled form of `runWord`. -/
def runWordImpl (iw : IWord) (w0 : Word) (s : State) : Host.Outcome State Fault Refusal :=
  match iw with
  | .c32 op o => runOpt (ofC32 op o) w0 s
  | .s64 op o => runOpt (ofS64 op o) w0 s
  | .v96 op o => (match v96Execs.lookup op with | some f => f o s | none => exec (.illegalOpcode w0) s)
  | .mem op o => runOpt (ofMem op o) w0 s
  | .eng op o => runOpt (ofEng op o) w0 s
  | .other => exec (.illegalOpcode w0) s

/-- Looking up in a table whose entries are given by a function of another's. -/
theorem lookup_map_snd {α β : Type} (f : α → β) (l : List (Nat × α)) (k : Nat) :
    (l.map fun e => (e.1, f e.2)).lookup k = (l.lookup k).map f := by
  induction l with
  | nil => rfl
  | cons h t ih =>
    obtain ⟨a, b⟩ := h
    simp only [List.map_cons, List.lookup_cons]
    cases k == a
    · exact ih
    · rfl
/-- What a table entry of the opcode map executes. -/
def execOf (f : V96 → Instr) (o : V96) (s : State) : Host.Outcome State Fault Refusal := exec (f o) s
/-- Each meaning in the tables is exec of the constructor in the opcode map. -/
theorem v96Execs0_eq : v96Execs0 = v96Rows0.map fun e => (e.1, execOf e.2) := rfl
theorem v96Execs1_eq : v96Execs1 = v96Rows1.map fun e => (e.1, execOf e.2) := rfl
theorem v96Execs2_eq : v96Execs2 = v96Rows2.map fun e => (e.1, execOf e.2) := rfl
theorem v96Execs3_eq : v96Execs3 = v96Rows3.map fun e => (e.1, execOf e.2) := rfl
theorem v96Execs_eq : v96Execs = v96Rows.map fun e => (e.1, execOf e.2) := by
  rw [v96Execs, v96Rows, v96Execs0_eq, v96Execs1_eq, v96Execs2_eq, v96Execs3_eq]
  simp only [List.map_append]
@[csimp] theorem runWord_eq_impl : @runWord = @runWordImpl := by
  funext iw w0 s
  cases iw with
  | v96 op o =>
    show (match ofV96 op o with | some i => exec i s | none => exec (.illegalOpcode w0) s) =
      match v96Execs.lookup op with | some f => f o s | none => exec (.illegalOpcode w0) s
    rw [ofV96, v96Execs_eq, lookup_map_snd]
    cases v96Rows.lookup op <;> rfl
  | _ => rfl

/-- Fetching and running the instruction of the current split (R13, R56). -/
def State.runCur (s : State) : Host.Outcome State Fault Refusal :=
  match s.fetch s.curCtx s.pc with
  | .got w s => runWord (fieldsOf w.1 w.2.1 w.2.2) w.1 s
  | .refused => .next (s.trapAddr 0x11 (s.fetchStop s.curCtx s.pc))
  | .wait => .next s.hold
  | .exhausted => .next (s.failContext s.cur.group 0x15 (s.spl s.cur).mask s.pc s.pc)
/-- A split held at issue has done nothing but take its place among the blocking VACQs of its partition (R201). -/
def State.heldFrom (s t : State) (who : SplitRef) : State :=
  let core := (s.grp who.group).coreIx
  s.updCore core fun c => { c with vacqs := (t.core core).vacqs }
/-- A split issues; an instruction that is held leaves everything as it is. -/
def State.issueAs (s : State) (who : SplitRef) : Host.Outcome State Fault Refusal :=
  match (s.begin who).runCur with
  | .next t => .next (if (t.spl who).held then s.heldFrom t who else t)
  | o => o
/-- What trying to issue a split shows: nothing where its instruction issues, the state left where it is held (R187). -/
def State.heldBy (s : State) (who : SplitRef) : Option State :=
  match (s.begin who).runCur with
  | .next t => if (t.spl who).held then some (s.heldFrom t who) else none
  | _ => none

/-! ## Units and co-issue (R148, R160, R187) -/

/-- The fields of the next instruction of a split. -/
def State.nextWord (s : State) (who : SplitRef) : Option IWord :=
  match s.fetch (s.grp who.group).who.ctx (s.spl who).pc with
  | .got w _ => some (fieldsOf w.1 w.2.1 w.2.2)
  | _ => none
/-- The issue units of a partition; `anyAlu` stands for either vector ALU. -/
inductive IssueUnit where
  | scalar | aluA | aluB | memory | engine | anyAlu
deriving DecidableEq, Repr, Inhabited
/-- The unit of an instruction: the SFU rows run on ALU B only (R148, R187). An instruction that cannot be fetched takes the scalar unit. -/
def unitOf : Option IWord → IssueUnit
  | some (.v96 op _) => if 0x70 ≤ op ∧ op ≤ 0x79 then .aluB else .anyAlu
  | some (.mem _ _) => .memory
  | some (.eng _ _) => .engine
  | _ => .scalar
/-- Whether an instruction may share an ALU with another split's: the V96 rows that issue once per cycle, without PERM routing (R148,
R160, R208). The 64-bit compares count as 64-bit integer rows (DESIGN CHOICE, log 56). -/
def mayJoin : Option IWord → Bool
  | some (.v96 op o) =>
    (decide (op < 0x20) || [0x30, 0x31, 0x34, 0x35, 0x36, 0x90, 0x93, 0x94, 0x95, 0x96, 0x97].contains op || decide (0x40 ≤ op ∧ op ≤ 0x4E) ||
      decide (0x50 ≤ op ∧ op ≤ 0x58) || decide (0x80 ≤ op ∧ op ≤ 0x87) || decide (0x8A ≤ op ∧ op ≤ 0x8C)) &&
      o.a.route.toNat / 32 != 4 && o.b.route.toNat / 32 != 4 && o.cRoute.toNat / 32 != 4
  | _ => false
/-- The per-group scalar that an instruction writes as it issues: the destination of a compare or VCLASS (R127, R130) whose execution mask is
not empty (R169), or sd of SWAITG, SACQ and SREL. -/
def State.scalarDest (s : State) : Option IWord → Option Nat
  | some (.v96 op o) =>
    if [0x30, 0x31, 0x34, 0x35, 0x36].contains op ∧ 544 ≤ o.cSel.toNat ∧ o.cSel.toNat < 896 ∧ s.vmask o ≠ 0 then some (o.cSel.toNat - 512)
    else none
  | some (.s64 op o) =>
    if [0x3F, 0x46, 0x47].contains op ∧ 32 ≤ o.sd.toNat ∧ o.sd.toNat < 384 then some o.sd.toNat else none
  | _ => none
/-- A register file with what an instruction that read `src` and left `out` has written. -/
def mergeChanged (now src out : Sparse Word) : Sparse Word :=
  (out.map (·.1) ++ src.map (·.1)).foldl (fun a k => if sget 0 out k = sget 0 src k then a else sset 0 a k (sget 0 out k)) now
/-- Poison marks with what an instruction that read `src` and left `out` has changed. -/
def joinMarks (now src out : List Nat) : List Nat :=
  (now.filter fun x => out.contains x || !src.contains x) ++ out.filter fun x => !src.contains x && !now.contains x
/-- The group's registers after an instruction that read `src` and left `out`, where others have written meanwhile (R121, R160, R386): what it
wrote is its own, as the masks of splits are disjoint; FLAGS gathers both; a per-group scalar that it writes is written whole. -/
def GroupRegs.join (dest : Option Nat) (now src out : GroupRegs) : GroupRegs :=
  let s := mergeChanged now.s src.s out.s
  let marks := joinMarks now.spoison src.spoison out.spoison
  { now with
      v := mergeChanged now.v src.v out.v
      vpoison := joinMarks now.vpoison src.vpoison out.vpoison
      p := (List.range 8).map fun n =>
        let d := src.p.getD n 0 ^^^ out.p.getD n 0
        (now.p.getD n 0 &&& ~~~d) ||| (out.p.getD n 0 &&& d)
      rng := (List.range 32).map fun l => if out.rng.getD l 0 = src.rng.getD l 0 then now.rng.getD l 0 else out.rng.getD l 0
      flags := now.flags ||| out.flags
      s := match dest with | some n => sset 0 s n (sget 0 out.s n) | none => s
      spoison := match dest with | some n => marks.filter (· != n) | none => marks }
/-- Whether a split of a live group has not entered trap mode since a state. -/
def State.untrapped (t s : State) (who : SplitRef) : Bool := (t.grp who.group).live && (t.spl who).trap == (s.spl who).trap
/-- Running the instruction of a split on registers that it has read before: what it writes joins what others have written since. -/
def State.runOn (s : State) (who : SplitRef) (src : GroupRegs) : Host.Outcome State Fault Refusal :=
  let r := s.updG who.group fun g => { g with regs := src }
  match r.runCur with
  | .next t =>
    let done := t.untrapped s who && (t.spl who).pc != (s.spl who).pc
    let dest := if done then r.scalarDest (r.nextWord who) else none
    .next (t.updG who.group fun g => { g with regs := (s.grp who.group).regs.join dest src g.regs })
  | o => o
/-- Issuing the higher-numbered of two joined instructions: it reads what the other read, and then both have written (R160). -/
def State.issueJoined (s : State) (who : SplitRef) (src : GroupRegs) : Host.Outcome State Fault Refusal :=
  match (s.begin who).runOn who src with
  | .next t => .next (if (t.spl who).held then s.heldFrom t who else t)
  | o => o

/-! ## Replay of an instruction that had asked for nothing (R386) -/

/-- Whether a parked split's instruction goes on now: its fault records are resolved. -/
def State.resumes (s : State) (who : SplitRef) : Bool :=
  (s.grp who.group).live? && (s.spl who).st == .parked &&
    (s.spl who).parked.any fun p => p.src.isSome && p.faults.all (·.resolved)
/-- The instruction goes on with the registers as it read them; it stays parked while it would be held. -/
def State.rerun (s : State) (who : SplitRef) : Host.Outcome State Fault Refusal :=
  match (s.spl who).parked with
  | none => .next s
  | some p =>
    let r := { s.endEarly who p with cur := who }.updS who fun sp => { sp with st := .ready, parked := none, held := false }
    match r.runOn who (p.src.getD (s.grp who.group).regs) with
    | .next t =>
      .next (if (t.spl who).held then s
             else if (t.spl who).st == .parked then t else t.undraw (s.grp who.group).who.ctx (· == who))
    | o => o
/-- The parked splits whose instructions go on in this cycle. -/
def State.resuming (s : State) : List SplitRef :=
  (List.range s.groups.length).flatMap fun gi =>
    ((List.range (s.grp gi).splits.length).map fun i => ({ group := gi, split := i } : SplitRef)).filter s.resumes

/-! ## Issue selection (R187 to R189) -/

/-- The order in which the splits of one cycle issue: core, partition, group slot, split number (R121, R279). -/
def State.issuesBefore (s : State) (a b : SplitRef) : Bool :=
  let g := s.grp a.group
  let h := s.grp b.group
  let ka := (g.coreIx * 8 + g.part) * 64 + g.who.gslot
  let kb := (h.coreIx * 8 + h.part) * 64 + h.who.gslot
  decide (ka < kb) || (ka == kb && decide (a.split < b.split))
/-- The splits that could issue but for their next instruction (R187), on clusters that are IDLE or not. -/
def State.wanting (s : State) : List SplitRef :=
  (List.range s.groups.length).flatMap fun gi =>
    ((List.range (s.grp gi).splits.length).map fun i => ({ group := gi, split := i } : SplitRef)).filter s.eligible
def State.admitted (s : State) (who : SplitRef) : Bool := !(s.cl (s.grp who.group).who.cluster).idle
/-- A split chosen to issue, and one that joins it, with its partition and the unit it takes. -/
structure Choice where
  slot : Slot
  place : Nat
  unit : IssueUnit
  word : Option IWord
deriving DecidableEq, Repr, Inhabited
/-- The unit that a split can still take in its partition: three instructions in a cycle, to distinct units (R187, R188). -/
def freeUnit (l : List Choice) (place : Nat) (u : IssueUnit) : Option IssueUnit :=
  let here := l.filter fun c => c.place == place
  let open' (u : IssueUnit) : Bool := !(here.any fun c => c.unit == u)
  if 3 ≤ here.length then none
  else match u with
    | .anyAlu => if open' .aluA then some .aluA else if open' .aluB then some .aluB else none
    | u => if open' u then some u else none
/-- Whether a split may join one that has been chosen (R160, R188). -/
def Choice.joins (c : Choice) (who : SplitRef) (place : Nat) (w : Option IWord) : Bool :=
  c.place == place && c.slot.who.group == who.group && c.slot.mate.isNone && (c.unit == .aluA || c.unit == .aluB) && mayJoin c.word && mayJoin w
/-- Choosing the next split in the order of R188: it takes its unit, or joins an ALU that a split of its group has taken. -/
def State.choose (s : State) (l : List Choice) (who : SplitRef) : List Choice :=
  let g := s.grp who.group
  let place := g.coreIx * 8 + g.part
  let w := s.nextWord who
  match freeUnit l place (unitOf w) with
  | some u => l ++ [{ slot := { who := who, mate := none }, place := place, unit := u, word := w }]
  | none =>
    match l.findIdx? fun c => c.joins who place w with
    | some i => l.modify i fun c => { c with slot := { c.slot with mate := some who } }
    | none => l
/-- The splits of a choice, each naming the other. -/
def Choice.slots (c : Choice) : List Slot :=
  c.slot :: c.slot.mate.toList.map fun b => { who := b, mate := some c.slot.who }
/-- Whether an instruction is EXIT, whose entries are freed before the cycle's other effects (R157). -/
def isExit : Option IWord → Bool
  | some (.c32 0x05 _) => true
  | _ => false
/-- Choosing the splits that issue in this cycle (R187, R188): of those that can issue, three for a partition at most; the others grow older.
Held splits take their places among the blocking VACQs. Parked instructions whose faults are resolved go on beside them, without an issue slot
(R386). -/
def State.planned (s : State) : State :=
  let all := s.wanting.filter s.admitted
  let s := all.foldl (fun s who => (s.heldBy who).getD s) s
  let able := sortBy s.before (all.filter fun who => (s.heldBy who).isNone)
  let chosen := able.foldl s.choose []
  let taken := chosen.flatMap fun c => c.slots.map (·.who)
  let s := (able.filter fun who => !taken.contains who).foldl (fun s who => s.updS who fun sp => { sp with age := sp.age + 1 }) s
  let order := sortBy (fun a b : Slot => s.issuesBefore a.who b.who) (chosen.flatMap Choice.slots)
  let exits (x : Slot) : Bool := isExit (s.nextWord x.who)
  let again := s.resuming.map fun who => ({ who := who, mate := none } : Slot)
  { s with stage := .planned, plan := order.filter exits ++ (again ++ order.filter fun x => !exits x) }
/-- Issuing a chosen split where it still can, or going on with a parked one. One that shares its ALU leaves what it read to the split that shares it. -/
def State.issueSlot (s : State) (x : Slot) : Host.Outcome State Fault Refusal :=
  if s.resumes x.who then s.rerun x.who
  else if !s.eligible x.who then .next s
  else match x.src, x.mate with
    | some src, _ => s.issueJoined x.who src
    | none, some m =>
      let regs := (s.grp x.who.group).regs
      ({ s with plan := s.plan.map fun y => if y.who == m then { y with src := some regs } else y } : State).issueAs x.who
    | none, none => s.issueAs x.who

/-! ## A cycle -/

/-- Clusters that are IDLE and have gained an eligible split or a block that is ready to start request admission (R401). -/
def State.markWants (s : State) : State :=
  let who := s.wanting
  let gains (x : Cluster × Nat) : Bool :=
    x.1.idle && !x.1.waiting && !x.1.fenced &&
      ((who.any fun w => (s.grp w.group).who.cluster == x.2 && (s.heldBy w).isNone) ||
        (s.boundBlocks x.2).any fun b => s.readyToStart b.1 b.2.1 b.2.2)
  { s with clusters := s.clusters.zipIdx.map fun x => if gains x then { x.1 with wants := true } else x.1 }
/-- Whether the slew limiter has requests to queue or a cluster to admit (R402). -/
def State.limiterDue (s : State) : Bool := !s.requests.isEmpty || (!s.dev.limiter.queue.isEmpty && s.limiterFree)
/-- Whether an instruction goes to an engine, whose order within a cycle is fixed (R279, R301, R370). -/
def isEngine : Option IWord → Bool
  | some (.eng _ _) => true
  | _ => false
/-- Whether an action switches the module on. -/
def Action.powersOn : Action → Bool
  | .event (.powerOn _) => true
  | _ => false
/-- Whether an action tests a follow-on offer: the machine tests all of them in every cycle (R279). -/
def Action.offers : Action → Bool
  | .event (.followOnOffer _ _) => true
  | _ => false
/-- The action of a turn. An issue by a split that was not chosen for this cycle, that goes to an engine or that a lower-numbered split of its
group precedes (R121) passes. After a hardware trip only a power cycle does anything (R436). -/
def State.act (s : State) (a : Action) : Host.Outcome State Fault Refusal :=
  if (s.boot.tripped && !a.powersOn) || a.offers then .next s else
  match a with
  | .pass => .next s
  | .event i => exec i s
  | .outside e => .next (s.outside e)
  | .stall who n => .next (s.updS who fun sp => { sp with stall := s.dev.cycle + 1 + n })
  | .issue who =>
    if isEngine (s.nextWord who) || s.plan.any fun x => x.who.group == who.group && decide (x.who.split < who.split) then .next s else
    match s.plan.find? fun x => x.who == who with
    | some x => ({ s with plan := s.plan.filter (· != x) } : State).issueSlot x
    | none => .next s
/-- A split's turn to issue: a follow-on offer that comes before an engine instruction goes first (R279). -/
def State.issueTurn (s : State) (x : Slot) (rest : List Slot) : Host.Outcome State Fault Refusal :=
  match if isEngine (s.nextWord x.who) then s.dueOffer (some x.who) else none with
  | some i => exec i s
  | none => ({ s with plan := rest } : State).issueSlot x
/-- The rest of a cycle whose splits have been chosen: exits, deferral (R157), the schedule's actions of this cycle, the other splits, the
follow-on offers; then the next cycle begins. -/
def State.goOn (s : State) : Host.Outcome State Fault Refusal :=
  let next := s.issueTurn
  match s.plan with
  | x :: rest =>
    if isExit (s.nextWord x.who) then next x rest
    else match s.dueLate with
      | some i => exec i s
      | none =>
        match s.schedule with
        | t :: later =>
          if t.cycles = 0 then (({ s with schedule := later } : State).updDev fun d => { d with tick := d.tick + t.ticks }).act t.act
          else next x rest
        | [] => next x rest
  | [] =>
    match s.dueLate.orElse fun _ => s.dueOffer none with
    | some i => exec i s
    | none =>
      match s.schedule with
      | [] => .next (s.ownEvents.foldl (fun s i => outcomeState s (exec i s)) s).idleCycle
      | t :: later =>
        if t.cycles = 0 then (({ s with schedule := later } : State).updDev fun d => { d with tick := d.tick + t.ticks }).act t.act
        else
          let ticks := if t.cycles = 1 then t.ticks else min t.ticks 1
          .next (({ s with schedule := { t with cycles := t.cycles - 1, ticks := t.ticks - ticks } :: later } : State).passCycle ticks)
/-- One step: a command whose queue pair is free again, what is due at the start of the cycle, admissions, the choice of the splits that issue,
and then the rest of the cycle (log 4). -/
def State.advanceStep (s : State) : Host.Outcome State Fault Refusal :=
  match s.waitingCommand with
  | some (i, t) => exec i t
  | none =>
    match s.stage with
    | .planned => s.goOn
    | .asked => s.planned.goOn
    | .fresh =>
      match s.dueEviction with
      | some i => exec i { s with fresh := s.fresh + 1 }
      | none =>
        match s.due with
        | some i => exec i s
        | none =>
          let t := s.markWants
          if t.limiterDue then exec .clusterAdmission { t with stage := .asked } else t.planned.goOn

end Sys2Proof.Machine
end

