-- ==== Sys2Proof/Machine/Load.lean ====
section
/-!
DEFINITION. Placing an instruction where the next step fetches (log 6). A program comes to run only through the host: a context, its
mappings, a launch, bind records; `State.loaded` stands for that load, with the model's own operations.
-/

namespace Sys2Proof.Machine

/-- The split that the next step issues, if it issues one and nothing else can come first. -/
def State.nextIssue (s : State) : Option SplitRef :=
  if s.waitingCommand.isSome || !s.schedule.isEmpty then none
  else match s.stage with
    | .planned =>
      (match s.plan with
      | x :: _ => if s.dueLate.isNone && x.mate.isNone && s.eligible x.who then some x.who else none
      | [] => none)
    | .asked => none
    | .fresh =>
      if s.dueEviction.isSome || s.due.isSome || s.markWants.limiterDue || s.dueLate.isSome then none
      else match s.wanting.filter s.admitted with
        | [who] => some who
        | _ => none
/-- The context of the load: one page of code and data at 0x10000, everything else empty. -/
def loadContext : Context :=
  { st := .running, queue := 0, heapBase := 0, heapN := 0, trapBase := 0x10020, saveBase := 0, saveLen := 0, weight := 1, windowQ := 0,
    rkva := 0, rkws := 0,
    maps := [{ va := 0x10000, len := 0x10000, r := true, w := true, x := true, pin := true, pages := [(0x10000, 0, 0)] }],
    resident := [], backing := [], backPoison := [], windows := [], grants := [], binds := [], log := [], logSeq := 0, logLost := 0, fbuf := [],
    energy := 0, savesRefused := 0, launches := [], nextLaunch := 1, runs := [], reserve := 0, drawer := none, destroyReply := none }
/-- The launch of the load: one group of 32 lanes with every register block. -/
def loadRecord : LaunchRec :=
  { entry := 0x10040, regblk := 0xFFFF, scratch := 4096, segwl := 0, prio := 0, viewset := 0, args := [], seed := 0, comp := 0,
    rbudget := 0, stripdl := 0, niter := 0, itpt := 0, spill := 0, tmask := 0, rqueue := false,
    levels := [{ extent := 1, scope := 3, dom := 3 }, { extent := 1, scope := 2, dom := 5 }, { extent := 32, scope := 0, dom := 7 }],
    fidx := 0 }
/-- Its bind record: core 0 of cluster 0, table entry 0, context slot 0, group slot 0. -/
def loadBind : BindRecord :=
  { launch := 1, block := 0, prio := 0, ngrp := 1, cslot := 0, cpos := 0, scrLen := 1, scrOff := 0, gslots := 1, recAddr := 0, gen := 0 }
/-- A machine that holds one running group and nothing else, made by the model's own operations from a machine without contexts. -/
def State.loaded (s : State) : State :=
  let s := { State.reset with schedule := [], fresh := s.fresh, outbox := s.outbox, boot := s.boot, ctxs := [loadContext] }
  let s := s.updDev fun d => { d with used := [(0, 1)] }
  let s := s.addLaunch 0 loadRecord 0 0 .queued none
  let s := s.updCore 0 fun k =>
    { k with slots := k.slots.set 0 { st := .bound, bind := loadBind, order := 0 }, ctxs := k.ctxs.set 0 (some 0),
             slotSt := k.slotSt.set 0 1 }
  let s := match s.launch? 0 1 with
    | some l => s.startBlock 0 l 0
    | none => s
  { s.updCl 0 fun c => { c with idle := false } with
      stage := .planned, plan := [{ who := { group := 0, split := 0 }, mate := none }] }
/-- The bytes of an instruction where the next step fetches: at the split that issues next, or after the load. -/
def State.placeWords (s : State) (b : List Byte) : State :=
  match s.nextIssue with
  | some who =>
    (match s.xlate (s.grp who.group).who.ctx (s.spl who).pc.toNat .x with
    | .ok p => { s with mem := setBs s.mem p b, stage := .planned,
                        plan := match s.stage with | .planned => s.plan | _ => [{ who := who, mate := none }] }
    | _ => let t := s.loaded; { t with mem := setBs t.mem 0x40 b })
  | none => let t := s.loaded; { t with mem := setBs t.mem 0x40 b }

end Sys2Proof.Machine
end

