-- ==== Sys2Proof/Machine/Step.lean ====
section
/-!
DEFINITION. The step of the machine, and a state whose next step runs a given instruction (log 6).
-/

namespace Sys2Proof.Machine

/-- One step (log 4). -/
def step (s : State) : Host.Outcome State Fault Refusal := s.advanceStep

/-- A state with an instruction where the next step fetches (log 6). -/
def State.withFetchWord (s : State) (nbits w : Nat) : State := s.placeWords (leBytes 12 (w % 2 ^ nbits))

end Sys2Proof.Machine
end

