-- ==== Sys2Proof/Safety.lean ====
section
/-!
DEFINITION. What counts as a safe run, in the terms of the claims: no step stops, and the invariants of the state.
-/

namespace Sys2Proof.Machine

/-- An outcome that goes on. -/
def goesOn (o : Host.Outcome State Fault Refusal) : Prop := ∃ s, o = .next s

/-- A machine runs safely for k steps when none of them stops. -/
def State.safeFor (s : State) (k : Nat) : Prop := goesOn (Host.Core.run Sys2Proof.core k s)

end Sys2Proof.Machine
end

