-- ==== Sys2Proof/WellFormed.lean ====
section
/-!
DEFINITION. When an instruction is well formed: its fields pass step 4 of R56, and the fields that tell constructors of one opcode
apart are the constructor's own. An event is well formed when its parts lie in the machine.
-/

namespace Sys2Proof

open Machine

/-- The field that tells apart the constructors that share an opcode (R58, R20, R338). -/
def kindOk : Instr → Bool
  | .barSync o => c32Bits o 23 22 == 0
  | .barArrive o => c32Bits o 23 22 == 1
  | .barWait o => c32Bits o 23 22 == 2
  | .fenceFull o => c32Bits o 20 19 == 0
  | .fenceAcq o => c32Bits o 20 19 == 1
  | .fenceRel o => c32Bits o 20 19 == 2
  | .srd o => o.imm || o.aux.toNat % 256 != 0x20
  | .cycloRead o => !o.imm && o.aux.toNat % 256 == 0x20
  | .vwarpProj o => o.sub.toNat % 4 == 0
  | .vwarpPos o => o.sub.toNat % 4 == 1
  | .vwarpGeom o => o.sub.toNat % 4 == 2
  | _ => true

/-- Whether an instruction or event is well formed. -/
def wellFormed (i : Instr) : Bool := kindOk i && operandsOk (toIWord i)

end Sys2Proof
end

