-- ==== Sys2Proof/Certificates/Slice0/Obligations.lean ====
section
/-!
DEFINITION. The statements for the provers, and the terms they are written in: what it means that an instruction runs, that the
rest of the machine is left alone, and the tables of results that the spec gives.
-/

namespace Sys2Proof.Machine

/-! ## Terms -/

/-- A split may issue an instruction word and passes steps 3 to 7 of R56 with it. -/
abbrev Runs (w : IWord) (s : State) : Prop := s.curOk = true ∧ s.precheck w = none
/-- Every byte of memory reads as before: the home memory, the weight store, each scratchpad; and every sector of each L1 and
cluster cache. -/
def MemorySame (s t : State) : Prop :=
  (∀ a, getB t.mem a = getB s.mem a) ∧ (∀ a, getB t.ws a = getB s.ws a) ∧ (∀ k a, getB (t.cl k).sram a = getB (s.cl k).sram a) ∧
    (∀ core k, t.l1At core k = s.l1At core k) ∧ ∀ k x, t.ccAt k x = s.ccAt k x
/-- Nothing but the groups has changed, and of them only the issuing one. -/
def GroupOnly (s t : State) : Prop := t = { s with groups := t.groups } ∧ ∀ g, g ≠ s.cur.group → t.grp g = s.grp g
/-- Besides, no other split has changed. -/
def SplitOnly (s t : State) : Prop := GroupOnly s t ∧ ∀ r : SplitRef, r ≠ s.cur → t.spl r = s.spl r
/-- The replay mask that a split holds past its instruction: none where the instruction was issued under it (R381). -/
def Split.keptReplay (sp : Split) : Option Mask := if sp.replayNow then none else sp.replay
/-- The issuing split as it is past an instruction of n words. -/
def State.pastSplit (s : State) (n : Nat) : Split :=
  { s.spl s.cur with pc := (s.spl s.cur).pc + BitVec.ofNat 56 (4 * n), replay := (s.spl s.cur).keptReplay, replayNow := false }
/-- The issuing group. -/
def State.me (s : State) : Group := s.grp s.cur.group
/-- The issuing split. -/
def State.my (s : State) : Split := s.spl s.cur

/-! ## Scalar results (R85 to R97) -/

/-- What R83 and R84 make of a 32-bit result: sd, the enabled condition flag, the next PC. -/
def State.scalarDone (s : State) (o : S64) (x : Word) : State :=
  ((s.writeSel o.sd.toNat x).writeCf o.cf x.toNat).advance 2
/-- The shifts of R86. -/
def shiftRows : List ((S64 → Instr) × (State → S64 → Word)) :=
  [(.sshl, fun s o => if 32 ≤ (s.srcB o).toNat then 0 else BitVec.ofNat 32 ((s.srcA o).toNat * 2 ^ (s.srcB o).toNat)),
   (.sshr, fun s o => if 32 ≤ (s.srcB o).toNat then 0 else BitVec.ofNat 32 ((s.srcA o).toNat / 2 ^ (s.srcB o).toNat)),
   (.ssra, fun s o => if 32 ≤ (s.srcB o).toNat then (if (s.srcA o).msb then 0xFFFFFFFF else 0)
     else BitVec.ofInt 32 ((s.srcA o).toInt / 2 ^ (s.srcB o).toNat))]
/-- The one bits of a word. -/
def onesOf (a : Word) : List Nat := (List.range 32).filter a.getLsbD
/-- The 32-bit results of R85 to R89, as functions of the sources. -/
def scalarRows : List ((S64 → Instr) × (State → S64 → Word)) :=
  [(.smov, fun s o => s.srcB o),
   (.sadd, fun s o => BitVec.ofNat 32 ((s.srcA o).toNat + (s.srcB o).toNat)),
   (.ssub, fun s o => BitVec.ofInt 32 ((s.srcA o).toInt - (s.srcB o).toInt)),
   (.smul, fun s o => BitVec.ofNat 32 ((s.srcA o).toNat * (s.srcB o).toNat)),
   (.smulhiN, fun s o => BitVec.ofNat 32 ((s.srcA o).toNat * (s.srcB o).toNat / 2 ^ 32)),
   (.smulhiI, fun s o => BitVec.ofInt 32 ((s.srcA o).toInt * (s.srcB o).toInt / 2 ^ 32)),
   (.sand, fun s o => s.srcA o &&& s.srcB o),
   (.sor, fun s o => s.srcA o ||| s.srcB o),
   (.sxor, fun s o => s.srcA o ^^^ s.srcB o),
   (.sandn, fun s o => s.srcA o &&& ~~~s.srcB o),
   (.sminI, fun s o => if (s.srcA o).toInt ≤ (s.srcB o).toInt then s.srcA o else s.srcB o),
   (.smaxI, fun s o => if (s.srcA o).toInt ≤ (s.srcB o).toInt then s.srcB o else s.srcA o),
   (.sminN, fun s o => if (s.srcA o).toNat ≤ (s.srcB o).toNat then s.srcA o else s.srcB o),
   (.smaxN, fun s o => if (s.srcA o).toNat ≤ (s.srcB o).toNat then s.srcB o else s.srcA o)]
/-- The offset f and the effective width k of a field control (R87). -/
def ctlF (c : Word) : Nat := c.toNat % 32
def ctlK (c : Word) : Nat := min (c.toNat / 256 % 64) (32 - c.toNat % 32)
/-- The field of R87. -/
def fieldOf (a c : Word) : Nat := a.toNat / 2 ^ ctlF c % 2 ^ ctlK c
/-- The bit operations of R87 to R89. -/
def scalarBitRows : List ((S64 → Instr) × (State → S64 → Word)) :=
  [(.sbfeN, fun s o => BitVec.ofNat 32 (fieldOf (s.srcA o) (s.srcB o))),
   (.sbfeI, fun s o => let x := fieldOf (s.srcA o) (s.srcB o); let k := ctlK (s.srcB o)
     BitVec.ofInt 32 (if k ≠ 0 ∧ 2 ^ (k - 1) ≤ x then (x : Int) - 2 ^ k else x)),
   (.sbfi, fun s o => let base := if o.imm then s.sel o.sd.toNat else s.srcC o
     let m : Word := BitVec.ofNat 32 ((2 ^ ctlK (s.srcB o) - 1) * 2 ^ ctlF (s.srcB o))
     (base &&& ~~~m) ||| ((s.srcA o <<< ctlF (s.srcB o)) &&& m)),
   (.spopc, fun s o => BitVec.ofNat 32 (onesOf (s.srcA o)).length),
   (.sclz, fun s o => BitVec.ofNat 32 (31 - ((onesOf (s.srcA o)).getLastD 0) + if s.srcA o = 0 then 1 else 0)),
   (.sctz, fun s o => BitVec.ofNat 32 ((onesOf (s.srcA o)).headD 32)),
   (.sbrev, fun s o => (s.srcA o).reverse),
   (.ssel, fun s o => if s.my.c.getLsbD (o.aux.toNat % 4) then s.srcA o else s.srcB o)]
/-- What R83, R84 and R90 make of a 64-bit result. -/
def State.pairDone (s : State) (o : S64) (x : Nat) : State :=
  ((s.writePair o.sd.toNat (x % 2 ^ 64)).writeCf o.cf (x % 2 ^ 64)).advance 2
/-- The 64-bit results of R90. -/
def pairRows : List ((S64 → Instr) × (State → S64 → Nat)) :=
  [(.saddB64, fun s o => s.pairA o + s.pairB o),
   (.ssubB64, fun s o => s.pairA o + 2 ^ 64 - s.pairB o),
   (.smulB64, fun s o => s.pairA o * s.pairB o),
   (.sshlB64, fun s o => if 64 ≤ (s.srcB o).toNat then 0 else s.pairA o * 2 ^ (s.srcB o).toNat),
   (.sshrB64, fun s o => if 64 ≤ (s.srcB o).toNat then 0 else s.pairA o / 2 ^ (s.srcB o).toNat)]
/-- The integer conditions of R91. -/
def holdsI (code : Nat) (a b : Int) : Prop :=
  (code = 0 ∧ a = b) ∨ (code = 1 ∧ a ≠ b) ∨ (code = 2 ∧ a < b) ∨ (code = 3 ∧ a ≤ b) ∨ (code = 4 ∧ a > b) ∨ (code = 5 ∧ a ≥ b)
/-- The operands of the integer compares of R92. -/
def compareRows : List ((S64 → Instr) × (State → S64 → Int × Int)) :=
  [(.scmpI, fun s o => ((s.srcA o).toInt, (s.srcB o).toInt)),
   (.scmpN, fun s o => ((s.srcA o).toNat, (s.srcB o).toNat)),
   (.scmpI64, fun s o => ((BitVec.ofNat 64 (s.pairA o)).toInt, (BitVec.ofNat 64 (s.pairB o)).toInt)),
   (.scmpN64, fun s o => (s.pairA o, s.pairB o))]
/-- What R83, R84 and R93 make of a float result. -/
def State.floatDone (s : State) (o : S64) (r : FRes) : State :=
  (((s.writeSel o.sd.toNat (BitVec.ofNat 32 r.bits)).raise r.flags).writeCf o.cf r.bits).advance 2
/-- The float results of R94 to R97: one rounding of the exact result. -/
def floatRows : List ((S64 → Instr) × (State → S64 → FRes)) :=
  [(.sfadd, fun s o => fF32.add (s.senv o) (s.fsel o.sa.toNat) (s.srcBf o) 1),
   (.sfmul, fun s o => fF32.mul (s.senv o) (s.fsel o.sa.toNat) (s.srcBf o) 1),
   (.sffma, fun s o => fF32.fma (s.senv o) (s.fsel o.sa.toNat) (s.srcBf o)
     (if o.imm then s.f32 (s.sel o.sd.toNat) else s.fsel o.sc.toNat) 1),
   (.sfmin, fun s o => fF32.minmax false false (s.fsel o.sa.toNat) (s.srcBf o) 1),
   (.sfmax, fun s o => fF32.minmax true false (s.fsel o.sa.toNat) (s.srcBf o) 1),
   (.scvtF32I32, fun s o => fF32.ofInt (s.senv o) (s.srcA o).toInt 1),
   (.scvtI32F32, fun s o => toIntRes true 32 (s.smode o) (s.fsel o.sa.toNat) 1),
   (.srcp, fun s o => fF32.div (s.senv o) (.fin false 1) (s.fsel o.sa.toNat) 1)]

end Sys2Proof.Machine

open Sys2Proof Sys2Proof.Machine

/-- R86: SSHL, SSHR and SSRA complete with sa shifted by the whole number in sb, 0 or the sign from 32 on, in sd; the flag and the PC
as R83 and R84 say. -/
def Obligations.ShiftResults : Prop :=
  ∀ r ∈ shiftRows, ∀ (o : S64) (s : State), Runs (toIWord (r.1 o)) s → exec (r.1 o) s = .next (s.scalarDone o (r.2 s o))
/-- R85: the 32-bit integer instructions complete with the table's result in sd, the flag, and the PC past them. -/
def Sys2Proof.Machine.IntegerResultsClaim : Prop :=
  ∀ r ∈ scalarRows, ∀ (o : S64) (s : State), Runs (toIWord (r.1 o)) s → exec (r.1 o) s = .next (s.scalarDone o (r.2 s o))
/-- R87 to R89: field extraction and insertion, the counts, the reversal and the selection. -/
def Sys2Proof.Machine.ScalarBitResultsClaim : Prop :=
  ∀ r ∈ scalarBitRows, ∀ (o : S64) (s : State), Runs (toIWord (r.1 o)) s → exec (r.1 o) s = .next (s.scalarDone o (r.2 s o))
/-- R90: the pair instructions complete with their result modulo 2^64. -/
def Sys2Proof.Machine.ScalarPairResultsClaim : Prop :=
  ∀ r ∈ pairRows, ∀ (o : S64) (s : State), Runs (toIWord (r.1 o)) s → exec (r.1 o) s = .next (s.pairDone o (r.2 s o))
/-- R85, R87 to R90: the 32-bit integer, bit-field and pair instructions complete with the tables' results. -/
def Obligations.ScalarIntegerResults : Prop := IntegerResultsClaim ∧ ScalarBitResultsClaim ∧ ScalarPairResultsClaim
/-- R91, R92, R96: a compare writes one condition flag, and nothing else but the PC and, for SFCMP, FLAGS. -/
def Obligations.ScalarCompareResults : Prop :=
  (∀ r ∈ compareRows, ∀ (o : S64) (s : State), Runs (toIWord (r.1 o)) s →
    ∃ b : Bool, (b = true ↔ holdsI o.sd.toNat (r.2 s o).1 (r.2 s o).2) ∧
      exec (r.1 o) s = .next ((s.setC (o.cf.toNat % 4) b).advance 2)) ∧
  ∀ (o : S64) (s : State), Runs (.s64 0x2D o) s →
    exec (.sfcmp o) s = .next (((s.setC (o.cf.toNat % 4) (fcond o.sd.toNat (s.fsel o.sa.toNat) (s.srcBf o))).raise
      (fcondFlags o.sd.toNat (s.fsel o.sa.toNat) (s.srcBf o))).advance 2)
/-- R93 to R97: the float instructions complete with one rounded result, its flags, the condition flag and the PC. -/
def Obligations.ScalarFloatResults : Prop :=
  ∀ r ∈ floatRows, ∀ (o : S64) (s : State), Runs (toIWord (r.1 o)) s → exec (r.1 o) s = .next (s.floatDone o (r.2 s o))
/-- R83, R84: what the write of a 32-bit result changes, and that it changes nothing else: every scalar but sd, every predicate
but sd's, every other flag, every v-register, FLAGS, every other split and group, and all memory stay. -/
def Obligations.ScalarWriteFrame : Prop :=
  ∀ (o : S64) (s : State) (x : Word), s.curOk = true →
    let t := s.scalarDone o x
    (t.my).pc = (s.my).pc + 8 ∧
    (∀ n, n < 384 → t.readS s.cur n = if n = o.sd.toNat then x else s.readS s.cur n) ∧
    (∀ n, n < (s.me).regs.p.length → (t.me).readP n = if o.sd.toNat = 384 + n then x else (s.me).readP n) ∧
    (∀ n, n < 4 → (t.my).c.getLsbD n = if o.cf.getLsbD 2 = true ∧ n = o.cf.toNat % 4 then decide (x ≠ 0) else (s.my).c.getLsbD n) ∧
    t.my = { s.pastSplit 2 with s := (t.my).s, spoison := (t.my).spoison, c := (t.my).c } ∧
    t.me = { s.me with splits := (t.me).splits,
                       regs := { (s.me).regs with s := (t.me).regs.s, p := (t.me).regs.p, spoison := (t.me).regs.spoison } } ∧
    SplitOnly s t ∧ MemorySame s t

namespace Sys2Proof.Machine

/-! ## Control (R98 to R112, R191 to R201) -/

/-- Only the PC of the issuing split has moved; a replay mask it carried is used up. -/
def Moves (s t : State) (pc : Addr56) : Prop :=
  t.my = { s.my with pc := pc, replay := (s.my).keptReplay, replayNow := false } ∧ t.me = { s.me with splits := (t.me).splits } ∧
    SplitOnly s t ∧ MemorySame s t
/-- The issuing split is marked held at issue (READY, R152); nothing else has changed. -/
def HeldAtIssue (s t : State) : Prop :=
  t.my = { s.my with held := true } ∧ t.me = { s.me with splits := (t.me).splits } ∧ SplitOnly s t ∧ MemorySame s t
/-- The target of R59: the PC plus four times the signed offset in [19:0]. -/
def branchTarget (s : State) (o : C32) : Addr56 := (s.my).pc + BitVec.ofInt 56 (4 * (o.f.extractLsb' 0 20).toInt)
/-- The lanes that a BRD takes (R194). -/
def takenLanes (s : State) (o : C32) : Mask :=
  let p := (s.me).readP (o.f.extractLsb' 21 3).toNat
  (s.my).mask &&& (if o.f.getLsbD 20 then ~~~p else p)
/-- A split formed by a divergence (R154). -/
def childOf (sp : Split) (mask : Mask) (pc : Addr56) : Split :=
  { Split.empty with st := .ready, pc := pc, mask := mask, s := sp.s, spoison := sp.spoison, c := sp.c,
                     vmc := sp.vmc, vsc := sp.vsc, smc := sp.smc, xc := sp.xc }
/-- What R380 and R379 steps 4 to 6 put into a split that enters its handler; the wait that a resume mark returns to stays beside it (R382),
and a replay mask under which the instruction was issued stays (R381). -/
def handlerSplit (s : State) (c : Cause) : Split :=
  let c := c.keeping s.my
  { s.my with st := .ready, trap := true, pc := BitVec.ofNat 56 (s.ctx (s.me).who.ctx).trapBase, latches := deadLatches,
              tcause := BitVec.ofNat 32 (c.info * 256 + c.code), tpc := c.pc, tmask := c.mask, taddr := c.addr,
              tsplit := trapSplitWord s.me s.cur s.my, replay := c.replay, replayNow := false, resume := c.resume,
              rwait := (s.my).wait, rlimit := (s.my).limit, markPc := c.pc, parked := none }
/-- The issuing split has entered the handler with a cause: the scalars s376 to s383 hold R380's words, every other scalar of the
group and all memory stay. -/
def Enters (s t : State) (c : Cause) : Prop :=
  t.my = handlerSplit s c ∧
    (∀ n, n < 384 → t.readS s.cur n = if 376 ≤ n then wordAt (entryScalars s.cur s.my (c.keeping s.my)) (n - 376) else s.readS s.cur n) ∧
    (∀ r : SplitRef, r ≠ s.cur → t.spl r = s.spl r) ∧ (∀ r l, (t.me).readV r l = (s.me).readV r l) ∧
    (t.me).regs.p = (s.me).regs.p ∧ (t.me).regs.flags = (s.me).regs.flags ∧ MemorySame s t
/-- The issuing group has ended (R198, R384): every lane has exited, its split table and deferred list are empty, no block of its registers is
mapped; its pending launches stay; no other group has changed; the block has left where no other group of it is live. -/
def GroupEnds (s t : State) : Prop :=
  (t.me).live = false ∧ (t.me).exited = BitVec.allOnes 32 ∧ (t.me).splits = List.replicate 4 Split.empty ∧ (t.me).deferred = [] ∧
    (t.me).regs.phys = List.replicate 16 none ∧ (t.me).queue = (s.me).queue ∧ (∀ g, g ≠ s.cur.group → t.grp g = s.grp g) ∧
    (s.blockOf s.me < s.blocks.length → (∀ h ∈ (s.blk (s.blockOf s.me)).groups, h ≠ s.cur.group → (s.grp h).live = false) →
      (t.blk (s.blockOf s.me)).live = false)
/-- No release of a core finds the page of a dirty line absent: the context of the issuing group has not failed, and the pages of its dirty lines,
where its mappings let them be written, are resident. (Where one is absent and no frame is left, R388 and R389 fail the context instead.) -/
abbrev LinesResident (s : State) : Prop :=
  let stays (e : Nat × Sector) : Prop := keyCtx e.1 = (s.me).who.ctx → e.2.dirty ≠ 0 → s.xlate (keyCtx e.1) (keyVa e.1) .w ≠ .absent
  (s.ctx (s.me).who.ctx).failed = false ∧ (∀ c ∈ s.cores, ∀ e ∈ c.l1, stays e) ∧ ∀ c ∈ s.clusters, ∀ e ∈ c.cache, stays e
/-- The fault-log entries of R384 about a cause: one of KIND 0, or in trap mode two of KIND 1, of which the first gives the cause that is being
handled. -/
def endEntries (s : State) (c : Cause) : List LogEntry :=
  let w := (s.me).who
  let entry (n kind cause : Nat) (mask : Mask) (addr pc : Addr56) : LogEntry :=
    { seq := ((s.ctx w.ctx).logSeq + n) % 65536, kind := kind, cause := cause, core := w.core, cluster := w.cluster, group := w.gid,
      block := w.block, mask := mask, addr := addr, pc := pc }
  if (s.my).trap then
    [entry 0 1 ((s.my).tcause.toNat % 256) (s.my).tmask (s.my).taddr (s.my).tpc, entry 1 1 c.code c.mask c.addr c.pc]
  else [entry 0 0 c.code c.mask c.addr c.pc]
/-- Entries have been added to the log of the issuing group's context, which keeps the last 256; others may follow them. -/
def LogsEnd (s t : State) (c : Cause) : Prop :=
  let k := (s.me).who.ctx
  k < s.ctxs.length → (s.ctx k).log.length ≤ 256 →
    ∃ more, let all := (s.ctx k).log ++ endEntries s c ++ more; (t.ctx k).log = all.drop (all.length - 256)
/-- A handler can be entered: no split of the group is in trap mode and the context has one (R378, R379, R384). -/
abbrev CanTrap (s : State) : Prop :=
  (s.my).trap = false ∧ (s.me).trapElsewhere s.cur.split = false ∧ (s.ctx (s.me).who.ctx).trapBase ≠ 0
/-- What a cause of the issuing split comes to (R378, R379, R384): held while another split of the group is in trap mode; the handler entered; or,
in trap mode and in a context without a handler, the end of the group, with its log entries. -/
def Takes (s t : State) (c : Cause) : Prop :=
  ((s.me).trapElsewhere s.cur.split = true → HeldAtIssue s t) ∧ (CanTrap s → Enters s t c) ∧
    ((s.me).trapElsewhere s.cur.split = false → ((s.my).trap = true ∨ (s.ctx (s.me).who.ctx).trapBase = 0) →
      LogsEnd s t c ∧ (LinesResident s → GroupEnds s t))
/-- The return address goes to s30:s31 (R99). -/
def Links (s t : State) (ret : Addr56) : Prop :=
  t.readS s.cur 30 = ret.truncate 32 ∧ t.readS s.cur 31 = BitVec.ofNat 32 (ret.toNat / 2 ^ 32) ∧
    ∀ n, n < 384 → n ≠ 30 → n ≠ 31 → t.readS s.cur n = s.readS s.cur n

end Sys2Proof.Machine

/-- R105: NOP takes an issue slot, which ages each latch (R167), and moves on; nothing else changes. The all-zero word is NOP, and a
split with a live latch may issue it. -/
def Obligations.NopOnlyTakesAnIssueSlot : Prop :=
  (∀ (o : C32) (s : State), Runs (.c32 0x00 o) s → ∃ t, exec (.nop o) s = .next t ∧
    t.my = { s.pastSplit 1 with latches := (s.my).latches.map Latch.aged } ∧ t.me = { s.me with splits := (t.me).splits } ∧
    SplitOnly s t ∧ MemorySame s t) ∧
  decode [0, 0, 0, 0] = .instr (.nop { f := 0 }) [] ∧ ∀ s : State, (s.my).hasLatch = true → s.precheck (.c32 0x00 { f := 0 }) = none
/-- R102: LPAD as an instruction only moves on. -/
def Sys2Proof.Machine.LandingPadClaim : Prop :=
  ∀ (o : C32) (s : State), Runs (.c32 0x0B o) s → ∃ t, exec (.lpad o) s = .next t ∧ Moves s t ((s.my).pc + 4)
/-- R98, R100: BRA moves the whole split to its target, when its flag is enabled only if the flag equals the sense bit; RET to the
address in s30:s31, whose bits [31:24] of s31 it ignores; a misaligned one traps MISALIGNED_PC. Nothing else changes. -/
def Obligations.BranchAndReturn : Prop :=
  (∀ (o : C32) (s : State), Runs (.c32 0x01 o) s → ∃ t, exec (.bra o) s = .next t ∧
    Moves s t (if o.f.getLsbD 23 = false ∨ (s.my).c.getLsbD (o.f.extractLsb' 20 2).toNat = o.f.getLsbD 22 then branchTarget s o
      else (s.my).pc + 4)) ∧
  ∀ (o : C32) (s : State), Runs (.c32 0x04 o) s →
    let target := (s.readS s.cur 30).toNat + 2 ^ 32 * ((s.readS s.cur 31).toNat % 2 ^ 24)
    (target % 4 = 0 → ∃ t, exec (.ret o) s = .next t ∧ Moves s t (BitVec.ofNat 56 target)) ∧
    (target % 4 ≠ 0 → CanTrap s → ∃ t, exec (.ret o) s = .next t ∧ Enters s t { s.causeOf 0x08 with addr := BitVec.ofNat 56 target })
/-- R194: a BRD that all lanes or none take only moves the split. -/
def Sys2Proof.Machine.PredicateBranchUniformClaim : Prop :=
  ∀ (o : C32) (s : State), Runs (.c32 0x02 o) s → (s.my).trap = false →
    (takenLanes s o = (s.my).mask → ∃ t, exec (.brd o) s = .next t ∧ Moves s t (branchTarget s o)) ∧
    (takenLanes s o = 0 → (s.my).mask ≠ 0 → ∃ t, exec (.brd o) s = .next t ∧ Moves s t ((s.my).pc + 4))
/-- R154, R194: a BRD that some lanes take divides the split: it keeps the others at PC + 4, and the taken lanes form a split at the
target in the lowest FREE entry, with copies of the banked scalars, the flags and the counters. -/
def Sys2Proof.Machine.PredicateBranchDivergesClaim : Prop :=
  ∀ (o : C32) (s : State) (i : Nat), Runs (.c32 0x02 o) s → (s.my).trap = false → takenLanes s o ≠ (s.my).mask →
    takenLanes s o ≠ 0 → (s.me).freeEntry = some i →
    ∃ t, exec (.brd o) s = .next t ∧
      t.my = { s.my with pc := (s.my).pc + 4, mask := (s.my).mask &&& ~~~takenLanes s o, latches := deadLatches,
                         replay := (s.my).keptReplay, replayNow := false } ∧
      (t.spl { group := s.cur.group, split := i }) = childOf s.my (takenLanes s o) (branchTarget s o) ∧
      (∀ r : SplitRef, r ≠ s.cur → r ≠ { group := s.cur.group, split := i } → t.spl r = s.spl r) ∧
      (t.me).regs = (s.me).regs ∧ GroupOnly s t ∧ MemorySame s t
/-- R154, R156, R194: where no entry is FREE, a BRD that divides is held until the counters are 0; then the taken lanes go to the end of the
deferred list, or, where the list and the spill area are full, SPLIT_OVERFLOW is trapped. -/
def Sys2Proof.Machine.PredicateBranchDefersClaim : Prop :=
  ∀ (o : C32) (s : State), Runs (.c32 0x02 o) s → (s.my).trap = false → takenLanes s o ≠ (s.my).mask → takenLanes s o ≠ 0 →
    (s.me).freeEntry = none →
    ((s.my).idleCtrs = false → ∃ t, exec (.brd o) s = .next t ∧ HeldAtIssue s t) ∧
    ((s.my).idleCtrs = true → (s.me).deferred.length < 16 + (s.me).lch.spillCap → ∃ t, exec (.brd o) s = .next t ∧
      t.my = { s.my with pc := (s.my).pc + 4, mask := (s.my).mask &&& ~~~takenLanes s o, latches := deadLatches,
                         replay := (s.my).keptReplay, replayNow := false } ∧
      t.me = { s.me with
        splits := (t.me).splits, seq := (s.me).seq + 1
        deferred := (s.me).deferred ++ [(childOf s.my (takenLanes s o) (branchTarget s o)).toDeferred (s.me).seq] } ∧
      SplitOnly s t ∧ MemorySame s t) ∧
    ((s.my).idleCtrs = true → 16 + (s.me).lch.spillCap ≤ (s.me).deferred.length → CanTrap s →
      ∃ t, exec (.brd o) s = .next t ∧ Enters s t (s.causeOf 0x09))
/-- R159: in trap mode a BRD does not divide: the lowest lane of the mask decides for all. -/
def Sys2Proof.Machine.PredicateBranchInTrapClaim : Prop :=
  ∀ (o : C32) (s : State) (l : Nat), Runs (.c32 0x02 o) s → (s.my).trap = true → lowestLane (s.my).mask = some l →
    ∃ t, exec (.brd o) s = .next t ∧ Moves s t (if inMask (takenLanes s o) l then branchTarget s o else (s.my).pc + 4)
/-- R154, R156, R159, R194: a BRD that all lanes or none take moves the split; one that some lanes take divides it; in trap mode the lowest
lane decides. -/
def Obligations.PredicateBranches : Prop :=
  PredicateBranchUniformClaim ∧ PredicateBranchDivergesClaim ∧ PredicateBranchDefersClaim ∧ PredicateBranchInTrapClaim
/-- R99, R101: CALL and CALLX write the return address to s30:s31 and transfer; BRX transfers without a link. The indirect forms
require an aligned target whose word is the landing pad of their tag (R102): else they trap MISALIGNED_PC, PROTECTION where the page is not
executable, or CFI_TAG, with the target as the address and without a link. -/
def Obligations.CallsAndIndirectBranches : Prop :=
  (∀ (o : C32) (s : State), Runs (.c32 0x03 o) s → ∃ t, exec (.call o) s = .next t ∧ (t.my).pc = branchTarget s o ∧
    Links s t ((s.my).pc + 4) ∧ SplitOnly s t ∧ MemorySame s t) ∧
  (∀ (o : S64) (s : State) (code : Nat),
    let target := s.readAddr s.cur o.sa.toNat
    let x := s.xlate (s.me).who.ctx target .x
    ((target % 4 ≠ 0 ∧ code = 0x08) ∨ (target % 4 = 0 ∧ (x = .refused ∨ x = .readOnly) ∧ code = 0x11) ∨
      (target % 4 = 0 ∧ code = 0x07 ∧ ∃ p, x = .ok p ∧ leNat (getBs s.mem p 4) ≠ 0x0B000000 + (s.srcB o).toNat % 65536)) → CanTrap s →
    (Runs (.s64 0x3A o) s → ∃ t, exec (.brx o) s = .next t ∧ Enters s t { s.causeOf code with addr := BitVec.ofNat 56 target }) ∧
    (Runs (.s64 0x3B o) s → ∃ t, exec (.callx o) s = .next t ∧ Enters s t { s.causeOf code with addr := BitVec.ofNat 56 target })) ∧
  ∀ (o : S64) (s : State) (p : Nat), s.readAddr s.cur o.sa.toNat % 4 = 0 →
    s.xlate (s.me).who.ctx (s.readAddr s.cur o.sa.toNat) .x = .ok p →
    leNat (getBs s.mem p 4) = 0x0B000000 + (s.srcB o).toNat % 65536 →
    (Runs (.s64 0x3A o) s → ∃ t, exec (.brx o) s = .next t ∧ Moves s t (BitVec.ofNat 56 (s.readAddr s.cur o.sa.toNat))) ∧
    (Runs (.s64 0x3B o) s → ∃ t, exec (.callx o) s = .next t ∧ (t.my).pc = BitVec.ofNat 56 (s.readAddr s.cur o.sa.toNat) ∧
      Links s t ((s.my).pc + 8) ∧ SplitOnly s t ∧ MemorySame s t)
/-- R198, R175: EXIT is held until the split's counters are 0; then its lanes exit and its entry is FREE. Where they are the last lanes, the group
ends, unless a line that its release must write lies in an absent page. Where other lanes of the group have not exited, memory changes only by the
release of a SEGMENT or LANE level that ends with the lanes, and not at all where that level's scope is 0. -/
def Obligations.ExitFreesTheEntry : Prop :=
  ∀ (o : C32) (s : State), Runs (.c32 0x05 o) s →
    ((s.my).idleCtrs = false → ∃ t, exec (.exit o) s = .next t ∧ HeldAtIssue s t) ∧
    ((s.my).idleCtrs = true → (s.me).exited ||| (s.my).mask ≠ BitVec.allOnes 32 →
      let s' := s.updG s.cur.group fun g => g.exitSplit s.cur.split
      let scope := (s'.me).laneScope (s.me).exited
      let r := (s'.releaseActs (s.me).coreIx (s.me).who.ctx scope none).1
      ∃ t, exec (.exit o) s = .next t ∧ t.my = Split.empty ∧ (t.me).exited = (s.me).exited ||| (s.my).mask ∧
        (t.me).regs = (s.me).regs ∧ (∀ r : SplitRef, r ≠ s.cur → t.spl r = s.spl r) ∧
        t.mem = r.mem ∧ t.ws = r.ws ∧ t.cores = r.cores ∧ t.clusters = r.clusters ∧ (scope = 0 → MemorySame s t)) ∧
    ((s.my).idleCtrs = true → (s.me).exited ||| (s.my).mask = BitVec.allOnes 32 →
      ∃ t, exec (.exit o) s = .next t ∧ (LinesResident s → GroupEnds s t))
/-- R107: WAITC moves on when every counter is at or below its limit, and is held until then. -/
def Sys2Proof.Machine.WaitForCountersClaim : Prop :=
  ∀ (o : C32) (s : State), Runs (.c32 0x06 o) s →
    let below := (s.my).vmc ≤ (o.f.extractLsb' 18 6).toNat ∧ (s.my).vsc ≤ (o.f.extractLsb' 12 6).toNat ∧
      (s.my).smc ≤ (o.f.extractLsb' 6 6).toNat ∧ (s.my).xc ≤ (o.f.extractLsb' 0 6).toNat
    (below → ∃ t, exec (.waitc o) s = .next t ∧ Moves s t ((s.my).pc + 4)) ∧
    (¬ below → ∃ t, exec (.waitc o) s = .next t ∧ HeldAtIssue s t)
/-- R106, R196, R197: SLEEP passes the instruction and sleeps n cycles; JOIN moves on where the split holds every unexited lane and
else waits at most n cycles; YIELD enters WAIT once the counters are 0, and is held until then. -/
def Obligations.SleepJoinYield : Prop :=
  (∀ (o : C32) (s : State), Runs (.c32 0x0A o) s → ∃ t, exec (.sleep o) s = .next t ∧ SplitOnly s t ∧ MemorySame s t ∧
    t.my = (let n := (o.f.extractLsb' 0 16).toNat
      if n = 0 then s.pastSplit 1 else { s.pastSplit 1 with st := .sleep, wake := s.dev.cycle + n, limit := n })) ∧
  (∀ (o : C32) (s : State), Runs (.c32 0x08 o) s → ∃ t, exec (.join o) s = .next t ∧ SplitOnly s t ∧ MemorySame s t ∧
    t.my = (if (s.my).mask ||| (s.me).exited = BitVec.allOnes 32 then s.pastSplit 1
      else let n := max (o.f.extractLsb' 0 16).toNat 1; { s.my with st := .join, wake := s.dev.cycle + n, limit := n })) ∧
  (∀ (o : C32) (s : State), Runs (.c32 0x09 o) s → (s.my).idleCtrs = false → ∃ t, exec (.yield o) s = .next t ∧ HeldAtIssue s t) ∧
  ∀ (o : C32) (s : State), Runs (.c32 0x09 o) s → (s.my).idleCtrs = true → ∃ t, exec (.yield o) s = .next t ∧
    t.my = { s.my with st := .wait, wait := .yield, wake := s.dev.cycle + 1, limit := 0, pollBy := s.dev.cycle + 4096 } ∧ SplitOnly s t ∧
    MemorySame s t
/-- R109, R379, R380: TRAP and BKPT enter the handler; TRAPPC is the next instruction for TRAP and the BKPT itself for BKPT. -/
def Obligations.SoftwareTrapEntersHandler : Prop :=
  (∀ (o : C32) (s : State), Runs (.c32 0x0C o) s → CanTrap s → ∃ t, exec (.trap o) s = .next t ∧
    Enters s t { s.causeOf 0x0A with info := (o.f.extractLsb' 0 8).toNat, pc := (s.my).pc + 4 }) ∧
  ∀ (o : C32) (s : State), Runs (.c32 0x0D o) s → CanTrap s → ∃ t, exec (.bkpt o) s = .next t ∧
    Enters s t { s.causeOf 0x0B with info := (o.f.extractLsb' 0 16).toNat * 256 }
/-- R56, R377, R379, R384: the cause of a failed check of R56, of a TRAP or BKPT, of a misaligned RET or RTE, and of an SWR in trap mode of a
register that is not written so, is taken at the instruction's own PC (past it for TRAP), which has no effect of its own: POISON with the lanes
of the poisoned operand, every other with the split's mask. -/
def Obligations.FailedCheckEntersHandler : Prop :=
  (∀ (i : Instr) (s : State) (code : Nat), toIWord i ≠ .other → s.curOk = true → s.precheck (toIWord i) = some code →
    ∃ t, exec i s = .next t ∧
      Takes s t (if code = 0x14 then { s.causeOf 0x14 with mask := s.poisonLanes (toIWord i) } else s.causeOf code)) ∧
  (∀ (o : C32) (s : State), Runs (.c32 0x0C o) s → ∃ t, exec (.trap o) s = .next t ∧
    Takes s t { s.causeOf 0x0A with info := (o.f.extractLsb' 0 8).toNat, pc := (s.my).pc + 4 }) ∧
  (∀ (o : C32) (s : State), Runs (.c32 0x0D o) s → ∃ t, exec (.bkpt o) s = .next t ∧
    Takes s t { s.causeOf 0x0B with info := (o.f.extractLsb' 0 16).toNat * 256 }) ∧
  (∀ (o : C32) (s : State), Runs (.c32 0x04 o) s → s.readAddr s.cur 30 % 4 ≠ 0 → ∃ t, exec (.ret o) s = .next t ∧
    Takes s t { s.causeOf 0x08 with addr := BitVec.ofNat 56 (s.readAddr s.cur 30) }) ∧
  (∀ (o : C32) (s : State), Runs (.c32 0x0E o) s → (s.my).tpc.toNat % 4 ≠ 0 → ∃ t, exec (.rte o) s = .next t ∧
    Takes s t { s.causeOf 0x08 with addr := (s.my).tpc }) ∧
  ∀ (o : S64) (s : State), Runs (.s64 0x39 o) s → (s.my).trap = true →
    let n := o.aux.toNat % 256
    let k := s.cl (s.me).who.cluster
    (n = 0x80 ∨ (0x83 ≤ n ∧ n ≤ 0x86) ∨
        (n = 0x88 ∧ ((s.srcA o).toNat % 8 < 2 ∨ 6 < (s.srcA o).toNat % 8 ∨ k.busy = true ∨ k.pend = true)) →
      ∃ t, exec (.swr o) s = .next t ∧ Takes s t (s.causeOf 0x02)) ∧
    (n = 0x89 ∨ n = 0x8A → ∃ t, exec (.swr o) s = .next t ∧ Takes s t (s.causeOf 0x06))
/-- R110, R111, R383: outside trap mode RTE is privileged; in it, it restores c0 to c3 from s378, leaves trap mode and returns to
TRAPPC, where a replay mask or a resume mark, with the wait it returns to, applies only if TRAPPC still holds the address it belongs to. -/
def Obligations.ReturnFromTrap : Prop :=
  (∀ (o : C32) (s : State), operandsOk (.c32 0x0E o) = true → (s.my).trap = false → (s.my).hasLatch = false →
    s.precheck (.c32 0x0E o) = some 0x06) ∧
  ∀ (o : C32) (s : State), Runs (.c32 0x0E o) s → (s.my).tpc.toNat % 4 = 0 → ∃ t, exec (.rte o) s = .next t ∧
    (t.my).trap = false ∧ (t.my).pc = (s.my).tpc ∧ (t.my).c = (s.readS s.cur 378).truncate 4 ∧
    (t.my).st = (if (s.my).tpc = (s.my).markPc then (s.my).resume.getD .ready else (s.my).st) ∧
    (t.my).replayNow = ((s.my).tpc == (s.my).markPc && (s.my).replay.isSome) ∧
    (t.my).replay = (if (s.my).tpc = (s.my).markPc then (s.my).replay else none) ∧
    ((s.my).tpc = (s.my).markPc → (t.my).wait = (s.my).rwait ∧ (t.my).limit = (s.my).rlimit) ∧
    (∀ n, n < 384 → t.readS s.cur n = s.readS s.cur n) ∧ (t.me).regs = (s.me).regs ∧ SplitOnly s t ∧ MemorySame s t
/-- The barrier that the issuing split's BAR names, and its GROUPID. -/
def Sys2Proof.Machine.barId (o : C32) : Nat := (o.f.extractLsb' 18 4).toNat
def Sys2Proof.Machine.barCount (o : C32) : Nat := (o.f.extractLsb' 0 16).toNat
/-- A phase with lanes of a group marked as arrived (R191). -/
def Sys2Proof.Machine.markedPhase (p : Phase) (gid n : Nat) (m : Mask) : Phase :=
  { arrived := sset 0 p.arrived gid (sget 0 p.arrived gid ||| m), expected := some n }
/-- A block whose barrier has changed, with the phases that are then complete (R192). -/
def Sys2Proof.Machine.State.withBarrier (s : State) (id : Nat) (b : Barrier) : State :=
  (s.updB (s.blockOf s.me) fun x => { x with barriers := x.barriers.set id b }).settleBarriers (s.blockOf s.me)
/-- R191 to R193: the first arrival of a group in a phase that expects more of the block's groups marks the split's lanes and sets
the count; BAR.arrive moves on, and BAR.sync waits for that phase. -/
def Sys2Proof.Machine.BarrierFirstArrivalClaim : Prop :=
  ∀ (o : C32) (s : State) (b : Barrier),
    let bi := s.blockOf s.me
    let id := barId o
    let n := barCount o
    let cur : Phase := { arrived := [((s.me).who.gid, (s.my).mask)], expected := some n }
    let b' : Barrier := { b with cur := cur, joined := sset 0 b.joined (s.me).who.gid (b.phase + 1) }
    bi < s.blocks.length → s.barrier id = b → id < (s.blk bi).barriers.length → (s.blk bi).barriers.all (fun x => x.cur == Phase.empty) →
    b.nxt = Phase.empty → (s.my).memIdle = true → (s.my).mask ≠ 0 → 2 ≤ n → n ≤ (s.blk bi).ngroups → (s.blk bi).groups.Nodup →
    (∀ h ∈ (s.blk bi).groups, (s.grp h).exited ≠ BitVec.allOnes 32) →
    (∀ h ∈ (s.blk bi).groups, ∀ k ∈ (s.blk bi).groups, (s.grp h).who.gid = (s.grp k).who.gid → h = k) →
    (Runs (.c32 0x07 o) s → exec (.barArrive o) s = .next ((s.updB bi fun x => { x with barriers := x.barriers.set id b' }).advance 1)) ∧
    (Runs (.c32 0x07 o) s → exec (.barSync o) s =
      .next ((s.updB bi fun x => { x with barriers := x.barriers.set id b' }).enterWait (.barrier id b.phase)))
/-- R191, R192: an arrival whose count agrees marks the split's lanes in the current phase, or in the next where the group's arrival in the
current one is complete. BAR.arrive then completes; BAR.sync completes where the arrival completes the phase it joined. -/
def Sys2Proof.Machine.BarrierArrivalCompletesClaim : Prop :=
  ∀ (o : C32) (s : State) (b : Barrier),
    let g := s.me
    let n := barCount o
    let joins (ph : Nat) (b : Barrier) : Barrier := { b with joined := sset 0 b.joined g.who.gid (ph + 1) }
    let here := joins b.phase { b with cur := markedPhase b.cur g.who.gid n (s.my).mask }
    let later := joins (b.phase + 1) { b with nxt := markedPhase b.nxt g.who.gid n (s.my).mask }
    Runs (.c32 0x07 o) s → s.barrier (barId o) = b → (s.my).memIdle = true → n ≤ (s.blk (s.blockOf g)).ngroups →
    ((b.cur.has g.who.gid g.exited = false ∨ sget 0 b.cur.arrived g.who.gid = 0) → (b.cur.expected = none ∨ b.cur.expected = some n) →
      exec (.barArrive o) s = .next ((s.withBarrier (barId o) here).advance 1) ∧
      (s.blockOf g < s.blocks.length → barId o < (s.blk (s.blockOf g)).barriers.length →
        here.cur.complete (s.blockGroups (s.blockOf g)) = true → b.last ≠ s.dev.cycle + 1 →
        exec (.barSync o) s = .next ((s.withBarrier (barId o) here).advance 1))) ∧
    (b.cur.has g.who.gid g.exited = true → sget 0 b.cur.arrived g.who.gid ≠ 0 →
      (b.nxt.has g.who.gid g.exited = false ∨ sget 0 b.nxt.arrived g.who.gid = 0) → (b.nxt.expected = none ∨ b.nxt.expected = some n) →
      exec (.barArrive o) s = .next ((s.withBarrier (barId o) later).advance 1))
/-- R193, R199: BAR.wait, whose count is 0, completes where the phase that the group joined last is complete, and else waits for it; a group
that has never arrived waits for the current phase. -/
def Sys2Proof.Machine.BarrierWaitClaim : Prop :=
  ∀ (o : C32) (s : State) (b : Barrier), Runs (.c32 0x07 o) s → (o.f.extractLsb' 22 2).toNat = 2 → barCount o = 0 → s.barrier (barId o) = b →
    (∀ ph, sget 0 b.joined (s.me).who.gid = ph + 1 → ph < b.phase → exec (.barWait o) s = .next (s.advance 1)) ∧
    (∀ ph, sget 0 b.joined (s.me).who.gid = ph + 1 → b.phase ≤ ph → exec (.barWait o) s = .next (s.enterWait (.barrier (barId o) ph))) ∧
    (sget 0 b.joined (s.me).who.gid = 0 → exec (.barWait o) s = .next (s.enterWait (.barrier (barId o) b.phase)))
/-- R191 to R193, R199: what BAR.arrive, BAR.sync and BAR.wait do, and where each completes. -/
def Obligations.BarrierArrival : Prop := BarrierFirstArrivalClaim ∧ BarrierArrivalCompletesClaim ∧ BarrierWaitClaim
/-- R200: SEGW sets the group's segment width to 2^n and changes nothing else. -/
def Sys2Proof.Machine.SegmentWidthClaim : Prop :=
  ∀ (o : C32) (s : State), Runs (.c32 0x10 o) s → ∃ t, exec (.segw o) s = .next t ∧ t.my = s.pastSplit 1 ∧
    t.me = { s.me with splits := (t.me).splits, regs := { (s.me).regs with segw := 2 ^ (o.f.extractLsb' 0 3).toNat } } ∧
    SplitOnly s t ∧ MemorySame s t
/-- R102, R107, R200: LPAD, WAITC and SEGW. -/
def Obligations.PlainControl : Prop := LandingPadClaim ∧ WaitForCountersClaim ∧ SegmentWidthClaim

namespace Sys2Proof.Machine

/-! ## System registers (R20 to R24, R103, R104, R222, R223, R392, R399) -/

/-- The index of level k of the launch's hierarchy (R174): of the SEGMENT and LANE levels that of the split's lowest lane. -/
def levelIndex (s : State) (k : Nat) : Nat :=
  let l := (lowestLane (s.my).mask).getD 0
  let w := 32 / max ((((s.me).lch.dom.zip (s.me).lch.ext).lookup 6).getD 1) 1
  match (s.me).lch.dom[k]? with
  | none => 0
  | some d => if d = 6 then l / w else if 6 < d then l % w else (s.me).lch.idx.getD k 0
/-- The readings of the cluster and its launches: LANECLK, WSREF, THERMHR, STRIPDL, LAUNCHQ, and CARVE, CLKRATIO and CTXCTL (R20). -/
def clusterRows : List (Nat × (State → Word)) :=
  let cl (s : State) : Cluster := s.cl (s.me).who.cluster
  let core (s : State) : CoreSt := s.core (s.me).coreIx
  [(0x22, fun s => BitVec.ofNat 32 ((cl s).lane16 / 16)), (0x23, fun s => BitVec.ofNat 32 (s.dev.wsLoad.toNat * 2 ^ 28 + s.dev.tick % 390)),
   (0x24, fun s => let h := (cl s).therm; BitVec.ofNat 32 (h.hot.toNat * 2 ^ 24 + (BitVec.ofInt 8 h.thr).toNat * 2 ^ 16 + h.ihr * 2 ^ 8 + h.gen)),
   (0x29, fun s => (s.me).lch.stripdl &&& 0xFFFFF),
   (0x30, fun s => BitVec.ofNat 32 ((s.me).startedN % 256 * 2 ^ 16 + (s.me).taken % 256 * 2 ^ 8 + (s.me).queue.length)),
   (0x88, fun s => BitVec.ofNat 32 ((cl s).busy.toNat * 2 ^ 9 + (cl s).pend.toNat * 2 ^ 8 + (cl s).sps)),
   (0x89, fun s => BitVec.ofNat 32 (s.dev.fstep * 2 ^ 16 + (cl s).ratio)),
   (0x8A, fun s => let c := core s
     BitVec.ofNat 32 (c.busy.toNat * 2 ^ 16 + c.target * 2 ^ 12 + c.slotSt.getD 2 0 * 2 ^ 8 + c.slotSt.getD 1 0 * 2 ^ 6 +
       c.slotSt.getD 0 0 * 2 ^ 4 + c.active))]
/-- The words that a read of a system register gives, by number (R20). -/
def sysRows : List (Nat × (State → Word)) :=
  (List.range 8).map (fun k => (0x10 + k, fun s => BitVec.ofNat 32 (levelIndex s k))) ++
  (List.range 8).map (fun k => (0x18 + k, fun s => BitVec.ofNat 32 (((s.me).lch.ext[k]?).getD 1))) ++ clusterRows ++
  [(0x00, fun s => BitVec.ofNat 32 (s.me).regs.segw), (0x01, fun s => (s.me).regs.rmode.zeroExtend 32),
   (0x02, fun s => (s.me).regs.flags.zeroExtend 32), (0x04, fun s => BitVec.ofNat 32 s.cur.split), (0x05, fun s => (s.my).mask),
   (0x06, fun s => BitVec.ofNat 32 (s.me).who.gid), (0x07, fun s => BitVec.ofNat 32 ((s.me).who.gidx % 8)),
   (0x08, fun s => BitVec.ofNat 32 (s.me).who.core), (0x09, fun s => BitVec.ofNat 32 (s.me).who.cluster),
   (0x0A, fun s => s.dev.deviceId), (0x0B, fun s => BitVec.ofNat 32 (s.me).who.ctx), (0x21, fun s => (s.my).cychi),
   (0x28, fun s => BitVec.ofNat 32 (s.me).regs.viewset), (0x32, fun s => BitVec.ofNat 32 (s.me).lch.itbeg),
   (0x33, fun s => BitVec.ofNat 32 (s.me).lch.itend), (0x34, fun s => (s.me).lch.itfix), (0x80, fun s => (s.my).tcause),
   (0x81, fun s => (s.my).tpc.truncate 32), (0x82, fun s => BitVec.ofNat 32 ((s.my).tpc.toNat / 2 ^ 32)), (0x83, fun s => (s.my).tmask),
   (0x84, fun s => (s.my).taddr.truncate 32), (0x85, fun s => BitVec.ofNat 32 ((s.my).taddr.toNat / 2 ^ 32)),
   (0x86, fun s => (s.my).tsplit)]
/-- The registers of the group as a write of a system register leaves them. -/
def State.groupRegs (s : State) (f : GroupRegs → GroupRegs) : State := s.updG s.cur.group fun g => { g with regs := f g.regs }
/-- The effect of a write of a system register by SWR (R104): which values it takes, and the state it leaves. -/
def sysWriteRows : List (Nat × (Word → Bool) × (State → Word → State)) :=
  [(0x00, (fun v => v == 2 || v == 4 || v == 8 || v == 16 || v == 32), fun s v => s.groupRegs fun r => { r with segw := v.toNat }),
   (0x01, (fun v => v.toNat % 8 != 0 && v.toNat % 8 != 7), fun s v => s.groupRegs fun r => { r with rmode := v.truncate 5 }),
   (0x02, (fun _ => true), fun s v => s.groupRegs fun r => { r with flags := v.truncate 9 }),
   (0x28, (fun v => decide (v.toNat ≤ 3)), fun s v => s.groupRegs fun r => { r with viewset := v.toNat }),
   (0x81, (fun _ => true), fun s v => s.updS s.cur fun sp => { sp with tpc := sp.tpc.extractLsb' 32 24 ++ v }),
   (0x82, (fun _ => true), fun s v => s.updS s.cur fun sp => { sp with tpc := v.extractLsb' 0 24 ++ sp.tpc.extractLsb' 0 32 })]
/-- The cause of a read or write of a number of 0x80 or more outside trap mode: PRIVILEGE (R20). -/
def privCause (s : State) : Cause := s.causeOf 0x06

/-! ## Waits, sync objects and bindings (R203, R245, R249 to R255) -/

/-- A wait that has ended: the acquire at its scope, the word in sd, the enabled flag, the PC past the S64 instruction, READY. -/
def State.waitEnds (s : State) (scope sd : Nat) (cf : BitVec 3) (v : Word) : State :=
  (((((s.acquireActs (s.me).coreIx (s.me).who.ctx scope none).writeSel sd v).writeCf cf v.toNat).advance 2)).updS s.cur fun sp =>
    { sp with st := .ready, wake := 0 }
/-- A result of an S64 instruction of the synchronisation family. -/
def State.syncEnds (s : State) (o : S64) (v : Word) : State := ((s.writeSel o.sd.toNat v).writeCf o.cf v.toNat).advance 2

end Sys2Proof.Machine

/-- R20, R103: SRD of each listed register completes with its value; a number of 0x80 or more needs trap mode. -/
def Obligations.SystemRegisterReads : Prop :=
  ∀ r ∈ sysRows, ∀ (o : S64) (s : State), Runs (.s64 0x38 o) s → o.aux.toNat % 256 = r.1 → (r.1 < 128 ∨ (s.my).trap = true) →
    exec (.srd o) s = .next (s.scalarDone o (r.2 s))
/-- R24: a read of CYCLO gives the low half of the core's cycle counter, 64 bits wide and 0 at reset, and leaves the high half in CYCHI
of the split; SRD of CYCHI gives what was captured, and 0 in a split that has captured nothing. -/
def Obligations.CycleCounterRead : Prop :=
  (∀ (o : S64) (s : State), Runs (.s64 0x38 o) s → o.aux.toNat % 256 = 0x20 →
    let n := s.dev.cycle - (s.core (s.me).coreIx).cycleBase
    let u := s.updS s.cur fun sp => { sp with cychi := BitVec.ofNat 32 (n / 2 ^ 32) }
    exec (.cycloRead o) s = .next (u.scalarDone o (BitVec.ofNat 32 n)) ∧ exec (.srd o) s = exec (.cycloRead o) s) ∧
  (∀ (o : S64) (s : State), Runs (.s64 0x38 o) s → o.aux.toNat % 256 = 0x21 → exec (.srd o) s = .next (s.scalarDone o (s.my).cychi)) ∧
  Split.empty.cychi = 0 ∧ ∀ core, State.reset.dev.cycle = (State.reset.core core).cycleBase
/-- R21, R22, R104, R110: SWR of each writable register of the group or split completes with the new value; a value that the
register does not take traps ILLEGAL_OPERAND and writes nothing. -/
def Sys2Proof.Machine.SystemRegisterWritesClaim : Prop :=
  ∀ r ∈ sysWriteRows, ∀ (o : S64) (s : State), Runs (.s64 0x39 o) s → o.aux.toNat % 256 = r.1 → (r.1 < 128 ∨ (s.my).trap = true) →
    (r.2.1 (s.srcA o) = true → exec (.swr o) s = .next ((r.2.2 s (s.srcA o)).advance 2)) ∧
    (r.2.1 (s.srcA o) = false → CanTrap s → ∃ t, exec (.swr o) s = .next t ∧ Enters s t (s.causeOf 0x02))
/-- R20: outside trap mode, SRD and SWR of a listed number of 0x80 or more trap PRIVILEGE. -/
def Sys2Proof.Machine.SystemRegisterPrivilegeClaim : Prop :=
  ∀ (o : S64) (s : State), (0x80 ≤ o.aux.toNat % 256 ∧ o.aux.toNat % 256 ≤ 0x86) ∨ (0x88 ≤ o.aux.toNat % 256 ∧ o.aux.toNat % 256 ≤ 0x8A) →
    CanTrap s →
    (Runs (.s64 0x38 o) s → ∃ t, exec (.srd o) s = .next t ∧ Enters s t (privCause s)) ∧
    (Runs (.s64 0x39 o) s → ∃ t, exec (.swr o) s = .next t ∧ Enters s t (privCause s))
/-- R20, R103, R104: a number that the table does not have traps ILLEGAL_OPERAND, read or written; so does a write of one that is only read. -/
def Sys2Proof.Machine.SystemRegisterNumbersClaim : Prop :=
  ∀ (o : S64) (s : State), CanTrap s →
    let n := o.aux.toNat % 256
    let absent := n = 0x03 ∨ (0x0C ≤ n ∧ n ≤ 0x0F) ∨ (0x25 ≤ n ∧ n ≤ 0x27) ∨ (0x2A ≤ n ∧ n ≤ 0x2F) ∨ n = 0x31 ∨ (0x35 ≤ n ∧ n ≤ 0x7F) ∨
      n = 0x87 ∨ 0x8B ≤ n
    let readOnly := (0x04 ≤ n ∧ n ≤ 0x0B) ∨ (0x10 ≤ n ∧ n ≤ 0x24) ∨ n = 0x29 ∨ n = 0x30 ∨ (0x32 ≤ n ∧ n ≤ 0x34)
    (absent → Runs (.s64 0x38 o) s → ∃ t, exec (.srd o) s = .next t ∧ Enters s t (s.causeOf 0x02)) ∧
    (absent ∨ readOnly → Runs (.s64 0x39 o) s → ∃ t, exec (.swr o) s = .next t ∧ Enters s t (s.causeOf 0x02))
/-- R104, R222, R223: SWR of CARVE in trap mode starts a growth or a shrink, or keeps the size. -/
def Sys2Proof.Machine.CarveByProgramClaim : Prop :=
  ∀ (o : S64) (s : State), Runs (.s64 0x39 o) s → o.aux.toNat % 256 = 0x88 → (s.my).trap = true →
    let n := (s.srcA o).toNat % 8
    let c := s.cl (s.me).who.cluster
    2 ≤ n → n ≤ 6 → c.busy = false → c.pend = false →
    exec (.swr o) s = .next ((s.updCl (s.me).who.cluster fun _ =>
      if n = c.sps then c else if c.sps < n then { c with busy := true, oldSps := c.sps, sps := n }
      else { c with pend := true, oldSps := c.sps, sps := n }).advance 2)
/-- R20 to R22, R103, R104, R110, R222: SWR of each writable register, the privilege of numbers from 0x80, and the numbers that are not there. -/
def Obligations.SystemRegisterAccess : Prop :=
  SystemRegisterWritesClaim ∧ SystemRegisterPrivilegeClaim ∧ SystemRegisterNumbersClaim ∧ CarveByProgramClaim
/-- R222, R223, R399, R436, R392, R393: the writes of CARVE, CLKRATIO and CTXCTL by the management, with the end of a growth and of a
shrink of the scratchpad; a lowering of RATIO is reported as event kind 4. Two clauses are the model's: a write of CTXCTL with TARGET 3, for whose
ILLEGAL_OPERAND there is no split, changes nothing (DESIGN CHOICE, log 18), and a growth ends with the whole cluster cache empty, where R223
invalidates the converting ways (DEDUCED, log 15). -/
def Obligations.ClusterControlWrites : Prop :=
  (∀ (k : Nat) (v : Word) (s : State), (s.cl k).busy = false → (s.cl k).pend = false →
    exec (.carveWrite k v) s = .next (s.updCl k fun c =>
      if v.toNat % 8 < 2 ∨ 6 < v.toNat % 8 ∨ v.toNat % 8 = c.sps then c
      else if c.sps < v.toNat % 8 then { c with busy := true, oldSps := c.sps, sps := v.toNat % 8 }
      else { c with pend := true, oldSps := c.sps, sps := v.toNat % 8 })) ∧
  (∀ (k : Nat) (v : Word) (s : State), (s.cl k).busy = true ∨ (s.cl k).pend = true → exec (.carveWrite k v) s = .next s) ∧
  (∀ (k : Nat) (v : Word) (s : State), k < s.cores.length → (v.extractLsb' 12 2).toNat ≠ 3 → v.getLsbD 15 = false →
    exec (.ctxctlGo k v) s = .next (s.updCore k fun c => { c with target := (v.extractLsb' 12 2).toNat })) ∧
  (∀ (k : Nat) (v : Word) (s : State), (v.extractLsb' 12 2).toNat = 3 → exec (.ctxctlGo k v) s = .next s) ∧
  (∀ (k : Nat) (s : State), k < s.clusters.length → (s.cl k).busy = true → (∀ x ∈ (s.cl k).cache, x.2.dirty = 0) →
    ∃ t, exec (.carveGrowthDone k) s = .next t ∧ (t.cl k).busy = false ∧ (t.cl k).sps = (s.cl k).sps ∧ (t.cl k).cache = [] ∧
      t.mem = s.mem ∧ t.groups = s.groups ∧
      ∀ a, a < (s.cl k).oldSps * 524288 → getB (t.cl k).sram a = getB (s.cl k).sram a) ∧
  (∀ (k : Nat) (s : State), k < s.clusters.length → (s.cl k).pend = true →
    (∀ b ∈ s.blocks, b.live = true → b.saved = false → b.cluster = k → b.scrLen = 0 ∨ (b.scrOff + b.scrLen) * 4096 ≤ (s.cl k).sps * 524288) →
    ∃ t, exec (.carveShrinkDone k) s = .next t ∧ (t.cl k).pend = false ∧ (t.cl k).sps = (s.cl k).sps ∧ t.mem = s.mem ∧
      ∀ a, a < (s.cl k).sps * 524288 → getB (t.cl k).sram a = getB (s.cl k).sram a) ∧
  (∀ (k : Nat) (v : Word) (s : State),
    let n := v.toNat % 32
    let u := s.updCl k fun c => { c with ratio := n, ratioNext := c.ratioNext ++ [(n, s.dev.cycle + 64)] }
    let told := u.event u.deviceQueue 0xFFFFFFFF 4 [BitVec.ofNat 32 s.dev.fstep, BitVec.ofNat 32 n]
    exec (.clkratioWrite k v) s =
      .next (if 4 ≤ n ∧ n ≤ 16 then (if n < (s.cl k).ratio then told else u) else s)) ∧
  ∀ (k : Nat) (v : Word) (s : State), (v.extractLsb' 12 2).toNat ≠ 3 → (s.core k).busy = false →
    (s.core k).slotSt.getD (v.extractLsb' 12 2).toNat 0 = 1 → k < s.cores.length → v.getLsbD 15 = true →
    ∃ t, exec (.ctxctlGo k v) s = .next t ∧ (t.core k).active = (v.extractLsb' 12 2).toNat ∧ (t.core k).scache = [] ∧
      (t.core k).l1 = (s.core k).l1 ∧ t.groups = s.groups ∧ ∀ j, j ≠ k → t.core j = s.core j
/-- VACQ has passed: its flag, where enabled, says whether the block is mapped; the split no longer waits for a block. -/
def Sys2Proof.Machine.AcquireEnds (s t : State) (o : S64) (mapped : Bool) : Prop :=
  t.my = { s.pastSplit 2 with c := (t.my).c } ∧
    (∀ n, n < 4 → (t.my).c.getLsbD n = if o.cf.getLsbD 2 = true ∧ n = o.cf.toNat % 4 then mapped else (s.my).c.getLsbD n) ∧
    t = { s with groups := t.groups, cores := t.cores } ∧ (∀ r : SplitRef, r ≠ s.cur → t.spl r = s.spl r) ∧ MemorySame s t
/-- R201: VACQ of a mapped block keeps it; of an unmapped one, with a physical block free and no earlier waiter of its partition, it maps the
lowest free one, whose registers read 0; with none, `.nb` gives 0, and the blocking form is held and queues behind the earlier ones. VREL unmaps.
Both are held while an instruction in flight reads or writes the block, and trap ILLEGAL_OPERAND on a number above 15. -/
def Obligations.RegisterBlocks : Prop :=
  (∀ (o : S64) (s : State) (k : Nat), Runs (.s64 0x3C o) s → s.blockNo o = k →
    let nb := o.aux.toNat % 2 = 1
    let queue := (s.core (s.me).coreIx).vacqs
    let first := nb ∨ ∀ v, (queue.find? fun v => (s.grp v.1.group).part == (s.me).part) = some v → v.1 = s.cur
    (15 < k → CanTrap s → ∃ t, exec (.vacq o) s = .next t ∧ Enters s t (s.causeOf 0x02)) ∧
    (k < 16 → s.blockBusy s.cur.group k = true → ∃ t, exec (.vacq o) s = .next t ∧ HeldAtIssue s t) ∧
    (k < 16 → s.blockBusy s.cur.group k = false → (s.me).regs.phys.length = 16 →
      (∀ p, (s.me).regs.phys.getD k none = some p → ∃ t, exec (.vacq o) s = .next t ∧ AcquireEnds s t o true ∧ (t.me).regs = (s.me).regs) ∧
      (∀ p, (s.me).regs.phys.getD k none = none → s.physFree (s.me).coreIx (s.me).part = some p → first →
        ∃ t, exec (.vacq o) s = .next t ∧ AcquireEnds s t o true ∧ (t.me).regs.phys = (s.me).regs.phys.set k (some p) ∧
          (∀ r l, r / 16 = k → l < 32 → (t.me).readV r l = 0) ∧ (∀ r l, r / 16 ≠ k → l < 32 → (t.me).readV r l = (s.me).readV r l)) ∧
      ((s.me).regs.phys.getD k none = none → (s.physFree (s.me).coreIx (s.me).part = none ∨ ¬ first) →
        ∃ t, exec (.vacq o) s = .next t ∧ (t.me).regs = (s.me).regs ∧ if nb then AcquireEnds s t o false else
          t.my = { s.my with held := true } ∧ t = { s with groups := t.groups, cores := t.cores } ∧
            ((s.me).coreIx < s.cores.length → (t.core (s.me).coreIx).vacqs =
              if queue.any (fun v => v.1 == s.cur) then queue else queue ++ [(s.cur, k)])))) ∧
  ∀ (o : S64) (s : State) (k : Nat), Runs (.s64 0x3D o) s → s.blockNo o = k →
    (15 < k → CanTrap s → ∃ t, exec (.vrel o) s = .next t ∧ Enters s t (s.causeOf 0x02)) ∧
    (k < 16 → s.blockBusy s.cur.group k = true → ∃ t, exec (.vrel o) s = .next t ∧ HeldAtIssue s t) ∧
    (k < 16 → s.blockBusy s.cur.group k = false → ∃ t, exec (.vrel o) s = .next t ∧ t.my = s.pastSplit 2 ∧
      (t.me).regs.phys = (s.me).regs.phys.set k none ∧ (t.me).vmapped (16 * k) = false ∧
      (∀ r l, r / 16 ≠ k → l < 32 → (t.me).readV r l = (s.me).readV r l) ∧ SplitOnly s t ∧ MemorySame s t)
/-- A new SWAITG takes no answer to a window read of an earlier one (R203). -/
def Sys2Proof.Machine.State.newAwait (s : State) : State :=
  { s with winReqs := s.winReqs.filter fun q => !(q.group == s.cur.group && q.use == .await s.cur.split) }
/-- R203, R245: WAITA on a word of the scratchpad and SWAITG on a word of device memory complete at once when the condition holds,
and else enter WAIT; of a word of the weight store, SWAITG does so where the store is readable, and waits where it is not (R226 speaks of requests
of memory instructions; that SWAITG waits is DEDUCED, log 29), and of a word behind a window it sends the read and waits; the poll of an
awaited word does the same for a waiting split, and a word that does not end the wait is read again within 4,096 cycles. A record that does not
reach its word traps. -/
def Obligations.WaitsOnAWord : Prop :=
  (∀ (o : S64) (s : State) (r : BufRec) (code : Nat), CanTrap s →
    let a := r.addr 0 0
    (Runs (.s64 0x45 o) s → (s.recAt o.sa.toNat = (r, some code) ∨ s.recAt o.sa.toNat = (r, none) ∧
        ((2 < r.kind ∧ r.kind ≠ 15 ∧ code = 0x02) ∨
         ((r.kind ≤ 2 ∨ r.kind = 15) ∧ (r.inBounds 0 0 4 = false ∨ a < 0 ∨ (s.blk (s.blockOf s.me)).scratch < a + 4) ∧ code = 0x12) ∨
         (r.kind ≤ 2 ∧ r.inBounds 0 0 4 = true ∧ 0 ≤ a ∧ a + 4 ≤ (s.blk (s.blockOf s.me)).scratch ∧ a % 4 ≠ 0 ∧ code = 0x13))) →
      ∃ t, exec (.waita o) s = .next t ∧ Enters s t (s.causeOf code)) ∧
    (Runs (.s64 0x3F o) s → (s.recAt o.sa.toNat = (r, some code) ∨ s.recAt o.sa.toNat = (r, none) ∧
        ((r.inBounds 0 0 4 = false ∧ code = 0x12) ∨ (r.inBounds 0 0 4 = true ∧ a % 4 ≠ 0 ∧ code = 0x13) ∨
         (r.inBounds 0 0 4 = true ∧ a % 4 = 0 ∧ (a < 0 ∨ 2 ^ 56 ≤ a) ∧ code = 0x11))) →
      ∃ t, exec (.swaitg o) s = .next t ∧ Enters s t (s.causeOf code))) ∧
  (∀ (o : S64) (s : State) (r : BufRec), Runs (.s64 0x3F o) s → s.recAt o.sa.toNat = (r, none) → r.inBounds 0 0 4 = true →
    0 ≤ r.addr 0 0 → r.addr 0 0 < 2 ^ 56 → r.addr 0 0 % 4 = 0 →
    let a := (r.addr 0 0).toNat
    let wait : WaitKind := .swaitg r.kind a (s.srcB o) (o.aux.getLsbD 3) (o.aux.toNat % 8) o.sd.toNat o.cf
    let u := s.newAwait
    (r.kind = 6 → (s.ctx (s.me).who.ctx).granted a 4 = true →
      (s.wsReadable a 4 = false → exec (.swaitg o) s = .next (u.enterWait wait)) ∧
      (s.wsReadable a 4 = true → s.dev.wsPoison.contains (a / 64) = false →
        let v : Word := BitVec.ofNat 32 (leNat (getBs s.ws a 4))
        exec (.swaitg o) s = .next (if (v - s.srcB o).toNat < 2 ^ 31 then u.waitEnds (o.aux.toNat % 8) o.sd.toNat o.cf v else u.enterWait wait))) ∧
    ∀ w, (r.kind = 3 ∨ r.kind = 4) → (s.ctx (s.me).who.ctx).window r.kind a .r = some w → (∀ q ∈ s.winReqs, q.group ≠ s.cur.group) →
      ∃ t, exec (.swaitg o) s = .next t ∧ (t.my).st = .wait ∧ (t.my).wait = wait ∧ (t.my).pc = (s.my).pc ∧ (t.me).regs = (s.me).regs ∧
        t.winReqs.length = s.winReqs.length + 1 ∧ (∀ q, t.winReqs.getLast? = some q → q.use = .await s.cur.split ∧ q.q = w.q ∧
          q.remote = w.remote + (a - w.va)) ∧ t.mem = s.mem ∧ ∀ x : SplitRef, x ≠ s.cur → t.spl x = s.spl x) ∧
  (∀ (o : S64) (s : State) (r : BufRec) (x : Nat), s.recAt o.sa.toNat = (r, none) → r.kind ≤ 2 → r.inBounds 0 0 4 = true →
    0 ≤ r.addr 0 0 → r.addr 0 0 + 4 ≤ (s.blk (s.blockOf s.me)).scratch → r.addr 0 0 % 4 = 0 →
    s.scrRead (s.me).who.cluster (s.scrBase s.cur.group + (r.addr 0 0).toNat) 4 = (x, false) → Runs (.s64 0x45 o) s →
    let v : Word := BitVec.ofNat 32 x
    let holds := if o.aux.getLsbD 3 then v = s.srcB o else (v - s.srcB o).toNat < 2 ^ 31
    (holds → exec (.waita o) s = .next (s.waitEnds (o.aux.toNat % 8) o.sd.toNat o.cf v)) ∧
    (¬ holds → exec (.waita o) s = .next
      (s.enterWait (.waita (r.addr 0 0).toNat (s.srcB o) (o.aux.getLsbD 3) (o.aux.toNat % 8) o.sd.toNat o.cf)))) ∧
  (∀ (o : S64) (s : State) (r : BufRec) (b : List Byte), s.recAt o.sa.toNat = (r, none) → r.kind ≤ 2 → r.inBounds 0 0 4 = true →
    0 ≤ r.addr 0 0 → r.addr 0 0 < 2 ^ 56 → r.addr 0 0 % 4 = 0 →
    s.pathRead (s.me).who.ctx (r.addr 0 0).toNat 4 = .ok (b, false) → Runs (.s64 0x3F o) s →
    let v : Word := BitVec.ofNat 32 (leNat b)
    let holds := (v - s.srcB o).toNat < 2 ^ 31
    (holds → exec (.swaitg o) s = .next (s.newAwait.waitEnds (o.aux.toNat % 8) o.sd.toNat o.cf v)) ∧
    (¬ holds → exec (.swaitg o) s = .next
      (s.newAwait.enterWait (.swaitg r.kind (r.addr 0 0).toNat (s.srcB o) (o.aux.getLsbD 3) (o.aux.toNat % 8) o.sd.toNat o.cf)))) ∧
  (∀ (who : SplitRef) (s : State) (a : Nat) (g : Word) (eq : Bool) (scope sd : Nat) (cf : BitVec 3) (x : Nat),
    s.resident who = .wait → (s.spl who).wait = .waita a g eq scope sd cf →
    s.scrRead (s.grp who.group).who.cluster (s.scrBase who.group + a) 4 = (x, false) →
    let v : Word := BitVec.ofNat 32 x
    let holds := if eq then v = g else (v - g).toNat < 2 ^ 31
    exec (.waitaPoll who) s = .next (if holds then { ({ s with cur := who }).waitEnds scope sd cf v with cur := s.cur } else s)) ∧
  ∀ (who : SplitRef) (s : State) (kind a : Nat) (g : Word) (save : Bool) (scope sd : Nat) (cf : BitVec 3),
    s.resident who = .wait → (s.spl who).wait = .swaitg kind a g save scope sd cf →
    let again := s.updS who fun sp => { sp with pollBy := s.dev.cycle + 4096 }
    let reads (b : List Byte) : Prop := exec (.swaitgPoll who) s = .next
      (if ((BitVec.ofNat 32 (leNat b) : Word) - g).toNat < 2 ^ 31 then
        { ({ s with cur := who }).waitEnds scope sd cf (BitVec.ofNat 32 (leNat b)) with cur := s.cur } else again)
    (kind ≤ 2 → ∀ b, s.pathRead (s.grp who.group).who.ctx a 4 = .ok (b, false) → reads b) ∧
    (kind = 6 → (s.ctx (s.grp who.group).who.ctx).granted a 4 = true →
      (s.wsReadable a 4 = false → exec (.swaitgPoll who) s = .next again) ∧
      (s.wsReadable a 4 = true → s.dev.wsPoison.contains (a / 64) = false → reads (getBs s.ws a 4)))
/-- R249, R252, R253: SACQ and SREL of the implicit object make the acquire or the release at their scope; of an object in memory they act at its
own scope on its regions. SACQ also drops what the caches hold of the copy that MAP names, captures MAP and returns RSEQ; SREL raises RSEQ by 1
after the release. Both are held until the memory counters are 0, and an object that is not aligned to 16 bytes traps MISALIGNED_ACCESS without an
address. -/
def Sys2Proof.Machine.SyncObjectsClaim : Prop :=
  (∀ (o : S64) (s : State), (s.my).memIdle = false →
    (Runs (.s64 0x46 o) s → ∃ t, exec (.sacq o) s = .next t ∧ HeldAtIssue s t) ∧
    (Runs (.s64 0x47 o) s → ∃ t, exec (.srel o) s = .next t ∧ HeldAtIssue s t)) ∧
  (∀ (o : S64) (s : State), (s.my).memIdle = true → o.aux.getLsbD 3 = false → s.readAddr s.cur o.sa.toNat % 16 ≠ 0 → CanTrap s →
    (Runs (.s64 0x46 o) s → ∃ t, exec (.sacq o) s = .next t ∧ Enters s t (s.causeOf 0x13)) ∧
    (Runs (.s64 0x47 o) s → ∃ t, exec (.srel o) s = .next t ∧ Enters s t (s.causeOf 0x13))) ∧
  (∀ (o : S64) (s : State), Runs (.s64 0x46 o) s → (s.my).memIdle = true → o.aux.getLsbD 3 = true →
    exec (.sacq o) s = .next ((s.acquireActs (s.me).coreIx (s.me).who.ctx (o.aux.toNat % 8) none).syncEnds o 0)) ∧
  (∀ (o : S64) (s u : State) (x : SyncObj), Runs (.s64 0x46 o) s → (s.my).memIdle = true → o.aux.getLsbD 3 = false →
    s.syncObj (s.me).who.ctx (s.readAddr s.cur o.sa.toNat) = (u, .ok x) → u.cur = s.cur → u.groups = s.groups →
    let obj := s.readAddr s.cur o.sa.toNat
    let v := (u.acquireActs (s.me).coreIx (s.me).who.ctx x.scope (some obj)).acquireCopy (s.me).coreIx (s.me).who.ctx obj x.map
    exec (.sacq o) s = .next ((v.updG s.cur.group fun g => g.capture obj x.map).syncEnds o x.rseq)) ∧
  (∀ (o : S64) (s u : State), Runs (.s64 0x47 o) s → (s.my).memIdle = true → o.aux.getLsbD 3 = true →
    s.releaseActs (s.me).coreIx (s.me).who.ctx (o.aux.toNat % 8) none = (u, []) → exec (.srel o) s = .next (u.advance 2)) ∧
  ∀ (o : S64) (s u v w : State) (x : SyncObj), Runs (.s64 0x47 o) s → (s.my).memIdle = true → o.aux.getLsbD 3 = false →
    s.syncObj (s.me).who.ctx (s.readAddr s.cur o.sa.toNat) = (u, .ok x) → u.cur = s.cur → u.groups = s.groups →
    u.releaseActs (s.me).coreIx (s.me).who.ctx x.scope (some (s.readAddr s.cur o.sa.toNat)) = (v, []) → v.cur = s.cur →
    v.groups = s.groups →
    v.writeHomeVA (s.me).who.ctx (s.readAddr s.cur o.sa.toNat) (leBytes 4 (x.rseq + 1).toNat) = some w → w.cur = s.cur →
    exec (.srel o) s = .next (w.homeAtomic.syncEnds o (x.rseq + 1))
/-- R250, R251: SOBIND binds a region unless a condition stands against it, and returns the highest such condition; SOUNBIND removes
the binding of a base and returns whether there was one. -/
def Sys2Proof.Machine.BindingsClaim : Prop :=
  (∀ (o : S64) (s : State), Runs (.s64 0x48 o) s →
    let c := s.ctx (s.me).who.ctx
    let obj := s.readAddr s.cur o.sa.toNat
    let base := s.readAddr s.cur o.sb.toNat
    let len := (s.srcC o).toNat
    let overlap := ∃ b ∈ c.binds, b.base < base + len ∧ base < b.base + b.len
    (obj % 16 = 0 → base % 256 = 0 → len % 256 = 0 → len ≠ 0 → base + len ≤ 2 ^ 56 → ¬ overlap → c.binds.length < 4096 →
      exec (.sobind o) s = .next ((s.updC (s.me).who.ctx fun c => { c with binds := c.binds ++ [{ obj := obj, base := base, len := len }] }).syncEnds o 0)) ∧
    (obj % 16 = 0 → base % 256 = 0 → len % 256 = 0 → len ≠ 0 → base + len ≤ 2 ^ 56 → ¬ overlap → 4096 ≤ c.binds.length →
      exec (.sobind o) s = .next (s.syncEnds o 1)) ∧
    (obj % 16 ≠ 0 → exec (.sobind o) s = .next (s.syncEnds o 4)) ∧
    (obj % 16 = 0 → base % 256 ≠ 0 ∨ len % 256 ≠ 0 ∨ len = 0 ∨ 2 ^ 56 < base + len → exec (.sobind o) s = .next (s.syncEnds o 3)) ∧
    (obj % 16 = 0 → base % 256 = 0 → len % 256 = 0 → len ≠ 0 → base + len ≤ 2 ^ 56 → overlap → exec (.sobind o) s = .next (s.syncEnds o 2))) ∧
  ∀ (o : S64) (s : State), Runs (.s64 0x49 o) s →
    let c := (s.me).who.ctx
    let base := s.readAddr s.cur o.sa.toNat
    exec (.sounbind o) s = .next ((s.updC c fun x => { x with binds := x.binds.filter fun b => b.base != base }).syncEnds o
      (if (s.ctx c).binds.any (fun b => b.base == base) then 0 else 5))
/-- R249 to R256, R271 to R273: synchronization objects and their bindings. -/
def Obligations.SyncObjectsAndBindings : Prop := SyncObjectsClaim ∧ BindingsClaim
/-- What a fence does after its release actions (R268): the acquire actions of the vector memory path, the sampler cache, and for the sampler at
device scope and wider the cluster cache's clean bytes. -/
def Sys2Proof.Machine.State.fenceEnds (s : State) (o : C32) (acq : Bool) : State :=
  let scope := (o.f.extractLsb' 21 3).toNat
  let s1 := if acq = true ∧ o.f.getLsbD 15 = true then s.acquireActs (s.me).coreIx (s.me).who.ctx scope none else s
  let s2 := if o.f.getLsbD 17 then s1.emptySampler (s.me).coreIx else s1
  (if acq = true ∧ o.f.getLsbD 17 = true ∧ 4 ≤ scope then s2.acquireCluster (s.me).coreIx (s.me).who.ctx else s2).advance 1
/-- R267, R268: a fence, issued with the memory counters at 0 and, on the engines' path, XC at 0, makes the release actions, the acquire
actions or both on the paths it names, at its scope, and device scope for the engines, then moves on; with such a counter above 0 it is held. -/
def Obligations.MemoryFences : Prop :=
  (∀ (o : C32) (s : State), Runs (.c32 0x0F o) s → ((s.my).memIdle = false ∨ (o.f.getLsbD 18 = true ∧ (s.my).xc ≠ 0)) →
    ∀ i ∈ [Instr.fenceRel o, .fenceAcq o, .fenceFull o], ∃ t, exec i s = .next t ∧ HeldAtIssue s t) ∧
  ∀ (o : C32) (s u v : State), (s.my).memIdle = true → (o.f.getLsbD 18 = true → (s.my).xc = 0) →
    (if o.f.getLsbD 15 then s.releaseActs (s.me).coreIx (s.me).who.ctx (o.f.extractLsb' 21 3).toNat none else (s, [])) = (u, []) →
    (if o.f.getLsbD 18 then u.releaseActs (s.me).coreIx (s.me).who.ctx 4 none else (u, [])) = (v, []) →
    v.cur = s.cur → v.groups = s.groups → Runs (.c32 0x0F o) s →
    exec (.fenceRel o) s = .next (v.fenceEnds o false) ∧ exec (.fenceAcq o) s = .next (s.fenceEnds o true) ∧
      exec (.fenceFull o) s = .next (v.fenceEnds o true)

namespace Sys2Proof.Machine

/-! ## Vector results (R114 to R147) -/

/-- An instruction of R115 with a vector result has been performed: the lanes of its execution mask, each computed from its sources and
its random state at issue. -/
def State.vectorDone (s : State) (op : Nat) (o : V96) (g : VSig) (f : LaneFn) : State :=
  s.vWrite op o (s.vmask o) (g.dst == VDst.v64) (s.lanes g o (s.vmask o) f)
/-- A number as an n-bit signed integer. -/
def asI (n x : Nat) : Int := (BitVec.ofNat n x).toInt
/-- An integer narrowed to n bits. -/
def lowBits (n : Nat) (x : Int) : Nat := (BitVec.ofInt n x).toNat
/-- Saturation to the range of In or Nn (R31). -/
def satTo (signed : Bool) (n : Nat) (x : Int) : Int :=
  if signed then max (-2 ^ (n - 1)) (min (2 ^ (n - 1) - 1) x) else max 0 (min (2 ^ n - 1) x)
/-- The integer results of R122 to R128: what each instruction computes from its sources; e maps the elements of R116, at the width n. -/
def intRow (f : V96 → LaneSrc → Nat) (o : V96) (_ : State) : LaneFn := fun _ x r => { val := f o x, fl := 0, rng := r }
def elemRow (f : Nat → Nat → Nat → Nat) (o : V96) (_ : State) : LaneFn :=
  fun _ x r => { val := elems2 (vn o) (f (vn o)) x.a x.b, fl := 0, rng := r }
/-- The sum of C and the four products of bytes of A and B, each byte read by f (R127). -/
def dotOf (f : Nat → Int) (x : LaneSrc) : Int :=
  x.c + f x.a * f x.b + f (x.a / 256) * f (x.b / 256) + f (x.a / 65536) * f (x.b / 65536) + f (x.a / 16777216) * f (x.b / 16777216)
/-- A row: the constructor and what it computes. -/
abbrev LaneRow := (V96 → Instr) × (V96 → State → LaneFn)
/-- Integer rows of R122 to R127: sums and products. -/
noncomputable def intSumRows : List LaneRow :=
  [(.vaddI32, elemRow fun _ a b => a + b),
   (.vsubI32, elemRow fun n a b => a + 2 ^ n - b),
   (.vmulloI32, elemRow fun _ a b => a * b),
   (.vmulhiI32, intRow fun _ x => lowBits 32 (asI 32 x.a * asI 32 x.b / 2 ^ 32)),
   (.vmulhiN32, intRow fun _ x => (x.a % 2 ^ 32) * (x.b % 2 ^ 32) / 2 ^ 32),
   (.vmadI32, intRow fun _ x => (x.a * x.b + x.c) % 2 ^ 32)]
/-- Integer rows of R122 to R127: differences, minima and maxima. -/
noncomputable def intOrderRows : List LaneRow :=
  [(.vabsdiffN32, elemRow fun _ a b => max a b - min a b),
   (.vminI32, elemRow fun n a b => if asI n a ≤ asI n b then a else b),
   (.vmaxI32, elemRow fun n a b => if asI n a ≤ asI n b then b else a),
   (.vminN32, elemRow fun _ a b => min a b),
   (.vmaxN32, elemRow fun _ a b => max a b)]
/-- Integer rows of R122 to R127: bitwise operations and the select. -/
noncomputable def intLogicRows : List LaneRow :=
  [(.vand, intRow fun _ x => x.a &&& x.b),
   (.vor, intRow fun _ x => x.a ||| x.b),
   (.vxor, intRow fun _ x => x.a ^^^ x.b),
   (.vandn, intRow fun _ x => x.a &&& (x.b ^^^ (2 ^ 32 - 1))),
   (.vbrev, intRow fun _ x => (BitVec.ofNat 32 x.a).reverse.toNat),
   (.vsel, intRow fun _ x => if x.c ≠ 0 then x.a else x.b)]
/-- Integer rows of R122 to R127: shifts and rotations. -/
noncomputable def intShiftRows : List LaneRow :=
  [(.vshl, elemRow fun n a b => if n ≤ b then 0 else a * 2 ^ b),
   (.vshr, elemRow fun n a b => if n ≤ b then 0 else a / 2 ^ b),
   (.vsra, elemRow fun n a b => lowBits n (if n ≤ b then (if asI n a < 0 then -1 else 0) else asI n a / 2 ^ b)),
   (.vrotl, intRow fun _ x => ((BitVec.ofNat 32 x.a).rotateLeft (x.b % 32)).toNat)]
/-- Integer rows of R122 to R127: bit fields and counts. -/
noncomputable def intFieldRows : List LaneRow :=
  [(.vbfeN, intRow fun _ x => fieldOf (BitVec.ofNat 32 x.a) (BitVec.ofNat 32 x.b)),
   (.vbfeI, intRow fun _ x => let y := fieldOf (BitVec.ofNat 32 x.a) (BitVec.ofNat 32 x.b); let k := ctlK (BitVec.ofNat 32 x.b)
     lowBits 32 (if k ≠ 0 ∧ 2 ^ (k - 1) ≤ y then (y : Int) - 2 ^ k else y)),
   (.vbfi, intRow fun _ x => (bfi (BitVec.ofNat 32 x.a) (BitVec.ofNat 32 x.b) (BitVec.ofNat 32 x.c)).toNat),
   (.vpopc, intRow fun _ x => (onesOf (BitVec.ofNat 32 x.a)).length),
   (.vclz, intRow fun _ x => if x.a % 2 ^ 32 = 0 then 32 else 31 - (onesOf (BitVec.ofNat 32 x.a)).getLastD 0)]
/-- Integer rows of R122 to R127: saturating sums, and the byte dot products. -/
noncomputable def intSatRows : List LaneRow :=
  [(.vaddsatI32, elemRow fun n a b => lowBits n (satTo true n (asI n a + asI n b))),
   (.vaddsatN32, elemRow fun n a b => lowBits n (satTo false n ((a : Int) + b))),
   (.vsubsatI32, elemRow fun n a b => lowBits n (satTo true n (asI n a - asI n b))),
   (.vsubsatN32, elemRow fun n a b => lowBits n (satTo false n ((a : Int) - b))),
   (.vdot4I8, intRow fun _ x => lowBits 32 (dotOf (asI 8) x)),
   (.vdot4N8, intRow fun _ x => (dotOf (fun b => (b % 256 : Nat)) x).toNat % 2 ^ 32)]
/-- The integer rows. -/
noncomputable def vectorIntRows : List LaneRow :=
  intSumRows ++ (intOrderRows ++ (intLogicRows ++ (intShiftRows ++ (intFieldRows ++ intSatRows))))
/-- The pair instructions of R128, the byte shuffle and the funnel shift of R146 and R147, and moves of R204. -/
noncomputable def vectorWideRows : List LaneRow :=
  [(.vaddI64, intRow fun _ x => (x.a + x.b) % 2 ^ 64), (.vsubI64, intRow fun _ x => (x.a + (2 ^ 64 - x.b)) % 2 ^ 64),
   (.vmulloI64, intRow fun _ x => x.a * x.b % 2 ^ 64), (.vmulhiI64, intRow fun _ x => lowBits 64 (asI 64 x.a * asI 64 x.b / 2 ^ 64)),
   (.vmulhiN64, intRow fun _ x => x.a * x.b / 2 ^ 64), (.vminI64, intRow fun _ x => if asI 64 x.a ≤ asI 64 x.b then x.a else x.b),
   (.vmaxI64, intRow fun _ x => if asI 64 x.a ≤ asI 64 x.b then x.b else x.a),
   (.vminN64, intRow fun _ x => if x.a % 2 ^ 64 ≤ x.b % 2 ^ 64 then x.a else x.b),
   (.vmaxN64, intRow fun _ x => if x.a % 2 ^ 64 ≤ x.b % 2 ^ 64 then x.b else x.a),
   (.vshlB64, intRow fun _ x => if 64 ≤ x.b then 0 else x.a * 2 ^ x.b % 2 ^ 64),
   (.vshrB64, intRow fun _ x => if 64 ≤ x.b then 0 else x.a / 2 ^ x.b),
   (.vsraI64, intRow fun _ x => lowBits 64 (if 64 ≤ x.b then (if asI 64 x.a < 0 then -1 else 0) else asI 64 x.a / 2 ^ x.b)),
   (.vmulwI32, intRow fun _ x => lowBits 64 (asI 32 x.a * asI 32 x.b)), (.vmulwN32, intRow fun _ x => x.a % 2 ^ 32 * (x.b % 2 ^ 32)),
   (.vmadwI32, intRow fun _ x => lowBits 64 (asI 32 x.a * asI 32 x.b + x.c)),
   (.vmadwN32, intRow fun _ x => (x.a % 2 ^ 32 * (x.b % 2 ^ 32) + x.c) % 2 ^ 64),
   (.vfunnel, intRow fun _ x => (x.b * 2 ^ 32 + x.a) / 2 ^ (x.c % 32) % 2 ^ 32), (.vmov, intRow fun _ x => x.a),
   (.vbshuf, intRow fun _ x => byteShuffle x.a x.b x.c)]
/-- A float result: what f gives under the rounding and flush controls of R117 and R118. -/
def floatRow (f : V96 → State → LaneSrc → Word → FRes) (o : V96) (s : State) : LaneFn := fun _ x r => ofFRes (f o s x r)
/-- Two results in one pair or word, in the order of R117. -/
def twoRow (w : Nat) (f h : V96 → State → LaneSrc → Word → FRes) (o : V96) (s : State) : LaneFn :=
  fun _ x r => twoParts w (f o s x) (h o s x) r
/-- Element k of a 16-bit source in a format, under FZ16. -/
def halfOf (f : FFmt) (s : State) (x k : Nat) : FVal := f.decodeFz s.fz16 (field x (16 * k + 15) (16 * k))
/-- Both halves of a packed 16-bit operation (R135). -/
def halfRow (h : REnv → State → LaneSrc → Nat → Word → FRes) : V96 → State → LaneFn :=
  twoRow 16 (fun o s x => h (s.env16 o) s x 0) (fun o s x => h (s.env16 o) s x 1)
/-- The float results of R131 to R134. -/
noncomputable def vectorFloatRows : List LaneRow :=
  [(.vfadd, floatRow fun o s x => fF32.add (s.env32 o) (s.f32Lo x.a) (s.f32Lo x.b)),
   (.vfsub, floatRow fun o s x => fF32.add (s.env32 o) (s.f32Lo x.a) (s.f32Lo x.b).flip),
   (.vfmul, floatRow fun o s x => fF32.mul (s.env32 o) (s.f32Lo x.a) (s.f32Lo x.b)),
   (.vffma, floatRow fun o s x => fF32.fma (s.env32 o) (s.f32Lo x.a) (s.f32Lo x.b) (s.f32Lo x.c)),
   (.vfmin, floatRow fun _ s x => fF32.minmax false false (s.f32Lo x.a) (s.f32Lo x.b)),
   (.vfmax, floatRow fun _ s x => fF32.minmax true false (s.f32Lo x.a) (s.f32Lo x.b)),
   (.vfminx, floatRow fun _ s x => fF32.minmax false true (s.f32Lo x.a) (s.f32Lo x.b)),
   (.vfmaxx, floatRow fun _ s x => fF32.minmax true true (s.f32Lo x.a) (s.f32Lo x.b)),
   (.vffloor, floatRow fun _ s x => toIntegral 4 (s.f32Lo x.a)), (.vfceil, floatRow fun _ s x => toIntegral 3 (s.f32Lo x.a)),
   (.vftrunc, floatRow fun _ s x => toIntegral 2 (s.f32Lo x.a)),
   (.vfrint, floatRow fun o s x => rint (s.modeOf o.rnd.toNat) (s.f32Lo x.a)),
   (.vffract, floatRow fun _ s x => fract s.fz32 (s.f32Lo x.a)),
   (.vfldexp, floatRow fun o s x => ldexp (s.env32 o) (s.f32Lo x.a) (asI 32 x.b)), (.vfsat, floatRow fun _ s x => fsat (s.f32Lo x.a))]
/-- The packed 16-bit, mixed and complex results of R135 to R137. -/
noncomputable def vectorHalfRows : List LaneRow :=
  [(.vhaddF16, halfRow fun e s x k => fF16.add e (halfOf fF16 s x.a k) (halfOf fF16 s x.b k)),
   (.vhmulF16, halfRow fun e s x k => fF16.mul e (halfOf fF16 s x.a k) (halfOf fF16 s x.b k)),
   (.vhfmaF16, halfRow fun e s x k => fF16.fma e (halfOf fF16 s x.a k) (halfOf fF16 s x.b k) (halfOf fF16 s x.c k)),
   (.vhminF16, halfRow fun _ s x k => fF16.minmax false false (halfOf fF16 s x.a k) (halfOf fF16 s x.b k)),
   (.vhmaxF16, halfRow fun _ s x k => fF16.minmax true false (halfOf fF16 s x.a k) (halfOf fF16 s x.b k)),
   (.vhaddBf16, halfRow fun e s x k => fBF16.add e (halfOf fBF16 s x.a k) (halfOf fBF16 s x.b k)),
   (.vhmulBf16, halfRow fun e s x k => fBF16.mul e (halfOf fBF16 s x.a k) (halfOf fBF16 s x.b k)),
   (.vhfmaBf16, halfRow fun e s x k => fBF16.fma e (halfOf fBF16 s x.a k) (halfOf fBF16 s x.b k) (halfOf fBF16 s x.c k)),
   (.vfmixF16, floatRow fun o s x => dotMix fF16 1 (s.env32 o) s.fz16 x.a x.b (s.f32Lo x.c)),
   (.vdot2F16, floatRow fun o s x => dotMix fF16 2 (s.env32 o) s.fz16 x.a x.b (s.f32Lo x.c)),
   (.vdot2Bf16, floatRow fun o s x => dotMix fBF16 2 (s.env32 o) s.fz16 x.a x.b (s.f32Lo x.c))]
/-- The complex results of R137: each part is one rounding of the sum of its addends, the real part first. -/
noncomputable def vectorComplexRows : List LaneRow :=
  let part (o : V96) (s : State) (l : List (Option FVal)) : Word → FRes := fF32.sum (s.env32 o) (l.filterMap id) l
  let lo (s : State) (x : Nat) : FVal := s.f32Lo x
  let hi (s : State) (x : Nat) : FVal := s.f32Hi x
  [(.vcadd, twoRow 32 (fun o s x => part o s [some (lo s x.a), some (lo s x.b)]) (fun o s x => part o s [some (hi s x.a), some (hi s x.b)])),
   (.vcsub, twoRow 32 (fun o s x => part o s [some (lo s x.a), some (lo s x.b).flip])
     (fun o s x => part o s [some (hi s x.a), some (hi s x.b).flip])),
   (.vcmul, twoRow 32 (fun o s x => part o s [fmulExact (lo s x.a) (lo s x.b), nmul (hi s x.a) (hi s x.b)])
     (fun o s x => part o s [fmulExact (lo s x.a) (hi s x.b), fmulExact (hi s x.a) (lo s x.b)])),
   (.vcfma, twoRow 32 (fun o s x => part o s [fmulExact (lo s x.a) (lo s x.b), nmul (hi s x.a) (hi s x.b), some (lo s x.c)])
     (fun o s x => part o s [fmulExact (lo s x.a) (hi s x.b), fmulExact (hi s x.a) (lo s x.b), some (hi s x.c)])),
   (.vcmulj, twoRow 32 (fun o s x => part o s [fmulExact (lo s x.a) (lo s x.b), fmulExact (hi s x.a) (hi s x.b)])
     (fun o s x => part o s [fmulExact (hi s x.a) (lo s x.b), nmul (lo s x.a) (hi s x.b)])),
   (.vcfmaj, twoRow 32 (fun o s x => part o s [fmulExact (lo s x.a) (lo s x.b), fmulExact (hi s x.a) (hi s x.b), some (lo s x.c)])
     (fun o s x => part o s [fmulExact (hi s x.a) (lo s x.b), nmul (lo s x.a) (hi s x.b), some (hi s x.c)])),
   (.vcscl, twoRow 32 (fun o s x => fF32.mul (s.env32 o) (lo s x.a) (lo s x.b)) (fun o s x => fF32.mul (s.env32 o) (hi s x.a) (lo s x.b))),
   (.vcabs2, floatRow fun o s x => fF32.sum (s.env32 o) [lo s x.a, hi s x.a]
     [fmulExact (lo s x.a) (lo s x.a), fmulExact (hi s x.a) (hi s x.a)])]
/-- The special functions of R138 and R139, and the conversions of R140 and R141. -/
noncomputable def vectorSpecialRows : List LaneRow :=
  let sf (op : Nat) : V96 → State → LaneSrc → Word → FRes := fun _ s x => sfu op s.fz32 (BitVec.ofNat 32 x.a) (s.f32Lo x.a)
  let wide (f : FFmt) : V96 → State → LaneFn := fun _ s _ x r =>
    { val := (widen16 f s.fz16 s.fz32 (x.a % 65536)).1, fl := (widen16 f s.fz16 s.fz32 (x.a % 65536)).2, rng := r }
  let pack (f : FFmt) (y : LaneSrc → Nat) : V96 → State → LaneSrc → Word → FRes :=
    fun o s x => narrow16 f (s.modeOf o.rnd.toNat) s.fz32 s.fz16 (y x)
  [(.vrcp, floatRow (sf 0x70)), (.vrsq, floatRow (sf 0x71)), (.vexp2, floatRow (sf 0x73)), (.vlog2, floatRow (sf 0x74)),
   (.vsinpi, floatRow (sf 0x75)), (.vcospi, floatRow (sf 0x76)), (.vtanh, floatRow (sf 0x79)), (.vsincospi, twoRow 32 (sf 0x75) (sf 0x76)),
   (.vsqrt, floatRow fun o s x => fF32.sqrt (s.env32 o) (s.f32Lo x.a)),
   (.vdiv, floatRow fun o s x => fF32.div (s.env32 o) (s.f32Lo x.a) (s.f32Lo x.b)),
   (.vcvtF32I32, floatRow fun o s x => fF32.ofInt (s.env32 o) (asI 32 x.a)), (.vcvtF32N32, floatRow fun o s x => fF32.ofInt (s.env32 o) x.a),
   (.vcvtI32F32, floatRow fun o s x => toIntRes true 32 (s.modeOf o.rnd.toNat) (s.f32Lo x.a)),
   (.vcvtN32F32, floatRow fun o s x => toIntRes false 32 (s.modeOf o.rnd.toNat) (s.f32Lo x.a)),
   (.vcvtF32I64, floatRow fun o s x => fF32.ofInt (s.env32 o) (asI 64 x.a)),
   (.vcvtI64F32, floatRow fun o s x => toIntRes true 64 (s.modeOf o.rnd.toNat) (s.f32Lo x.a)),
   (.vcvtF32F16, wide fF16), (.vcvtF32Bf16, wide fBF16),
   (.vpackF16, twoRow 16 (pack fF16 (·.a)) (pack fF16 (·.b))), (.vpackBf16, twoRow 16 (pack fBF16 (·.a)) (pack fBF16 (·.b)))]
/-- The instructions with a format word in B (R142 to R144), given the format. VCVTN.TO merges into the old vd, of which the spec does not say
what it holds where no block is mapped and nw is set: a free value of each lane (log 24). -/
noncomputable def vectorFormatRows : List ((V96 → Instr) × (V96 → State → FmtWord → LaneFn)) :=
  [(.vcvtnTo, fun o s f l x r =>
     let q := f.slotBits
     let k := x.c % 2 ^ 32 % (32 / q)
     let y := encodeNarrow f (s.modeOf o.rnd.toNat) (s.f32Lo x.a) r
     let m : Word := BitVec.ofNat 32 ((2 ^ q - 1) * 2 ^ (q * k))
     let old : Word := if (s.me).vmapped o.vd.toNat then (s.me).readV o.vd.toNat l else BitVec.ofNat 32 (Config.freeNat (s.fresh + l))
     { val := ((old &&& ~~~m) ||| BitVec.ofNat 32 (y.bits * 2 ^ (q * k))).toNat, fl := y.flags, rng := y.rng }),
   (.vcvtnFrom, fun _ _ f _ x r =>
     let q := f.slotBits
     let k := x.c % 2 ^ 32 % (32 / q)
     { val := fF32.exactBits (formatValue f (field x.a (q * k + q - 1) (q * k))), fl := 0, rng := r }),
   (.vmxscale, fun _ s f _ x r => { val := (mxScale f (s.f32Lo x.a)).1, fl := (mxScale f (s.f32Lo x.a)).2, rng := r })]
/-- Every row of the vector tables. -/
noncomputable def vectorRows : List LaneRow :=
  vectorIntRows ++ (vectorWideRows ++ (vectorFloatRows ++ (vectorHalfRows ++ (vectorComplexRows ++ vectorSpecialRows))))
/-- A lane's outcome in the compares of R129 and in VCLASS, which reads the raw bits of its source (R130), with its flags. -/
noncomputable def compareOutcomes : List ((V96 → Instr) × (V96 → State → VSig → Nat → LaneSrc → Bool × Fl)) :=
  let i (n : Nat) : V96 → State → VSig → Nat → LaneSrc → Bool × Fl := fun o _ _ _ x => (icond o.rnd.toNat (asI n x.a) (asI n x.b), 0)
  let n (n : Nat) : V96 → State → VSig → Nat → LaneSrc → Bool × Fl :=
    fun o _ _ _ x => (icond o.rnd.toNat (x.a % 2 ^ n : Nat) (x.b % 2 ^ n : Nat), 0)
  let f (d : State → Nat → FVal) : V96 → State → VSig → Nat → LaneSrc → Bool × Fl :=
    fun o s _ _ x => (fcond o.rnd.toNat (d s x.a) (d s x.b), fcondFlags o.rnd.toNat (d s x.a) (d s x.b))
  [(.vcmpI32, i 32), (.vcmpN32, n 32), (.vcmpI64, i 64), (.vcmpN64, n 64), (.vcmpF32, f State.f32Lo),
   (.vcmpF16, f fun s x => halfOf fF16 s x 0), (.vclassF32, fun o s g l x => (x.b.testBit (classOf (s.classSrc g o l)), 0))]

end Sys2Proof.Machine

/-- R115 to R141, R146, R147, R204: every listed instruction completes with the listed result in each lane of its execution mask. -/
def Obligations.VectorResults : Prop :=
  ∀ r ∈ vectorRows, ∀ (o : V96) (s : State) (op : Nat) (g : VSig), toIWord (r.1 o) = .v96 op o → vsig op = some g →
    Runs (.v96 op o) s → exec (r.1 o) s = .next (s.vectorDone op o g (r.2 o s))
/-- R142 to R144: VCVTN.TO, VCVTN.FROM and VMXSCALE complete so when the format word in B is valid; with an invalid word and a lane active they
trap MATRIX_FORMAT, code 0x1B. -/
def Obligations.VectorFormatResults : Prop :=
  ∀ r ∈ vectorFormatRows, ∀ (o : V96) (s : State) (op : Nat) (g : VSig), toIWord (r.1 o) = .v96 op o → vsig op = some g →
    Runs (.v96 op o) s → let w := s.readS s.cur (o.b.sel.toNat - 512)
    (fmtValid w = true → exec (r.1 o) s = .next { s.vectorDone op o g (r.2 o s (FmtWord.ofWord w)) with
      fresh := if op = 0x8A ∧ (s.me).vmapped o.vd.toNat = false then s.fresh + 32 else s.fresh }) ∧
    (fmtValid w = false → s.vmask o ≠ 0 → CanTrap s → ∃ t, exec (r.1 o) s = .next t ∧ Enters s t (s.causeOf 0x1B))
/-- R121, R160, R386: the registers of a group after an instruction that read `src` and left `out`, where another has made them `now`. What it has
changed is its own, word by word, predicate bit by predicate bit and lane by lane of the random states; FLAGS gathers both; the per-group scalar
that it names as its destination is its own whole. -/
def Sys2Proof.Machine.JoinedRegistersClaim : Prop :=
  ∀ (dest : Option Nat) (now src out : GroupRegs), let r := GroupRegs.join dest now src out
    (∀ k, sget 0 r.v k = if sget 0 out.v k = sget 0 src.v k then sget 0 now.v k else sget 0 out.v k) ∧
    (∀ n i, n < 8 → i < 32 → (r.p.getD n 0).getLsbD i =
      if (out.p.getD n 0).getLsbD i = (src.p.getD n 0).getLsbD i then (now.p.getD n 0).getLsbD i else (out.p.getD n 0).getLsbD i) ∧
    (∀ l, l < 32 → r.rng.getD l 0 = if out.rng.getD l 0 = src.rng.getD l 0 then now.rng.getD l 0 else out.rng.getD l 0) ∧
    (∀ n, sget 0 r.s n = if dest = some n then sget 0 out.s n else if sget 0 out.s n = sget 0 src.s n then sget 0 now.s n else sget 0 out.s n) ∧
    r.flags = now.flags ||| out.flags ∧ r.phys = now.phys ∧ r.segw = now.segw ∧ r.rmode = now.rmode ∧ r.viewset = now.viewset
/-- R115, R119, R120, R167: what the write of vector results changes: vd and, for 64 bits, vd + 1 in the active lanes unless nw is set, the
latch of lat, FLAGS, the random states of active lanes and the PC; the other latches grow older or are killed; every other register, the rest
of the split and of the group, and every other split, group and byte stay. -/
def Sys2Proof.Machine.VectorDoneChangesClaim : Prop :=
  ∀ (s : State) (op : Nat) (o : V96) (g : VSig) (f : LaneFn), s.curOk = true →
    let em := s.vmask o
    let res (l : Nat) : LaneRes := f l (s.laneSrc g o l) ((s.me).rngOf l)
    let t := s.vectorDone op o g f
    (t.my).pc = (s.my).pc + 12 ∧
    (∀ r l, l < 32 → (t.me).readV r l =
      if o.nw = false ∧ inMask em l = true ∧ g.dst = VDst.v64 ∧ r = o.vd.toNat + 1 then BitVec.ofNat 32 ((res l).val / 2 ^ 32)
      else if o.nw = false ∧ inMask em l = true ∧ r = o.vd.toNat then BitVec.ofNat 32 (res l).val else (s.me).readV r l) ∧
    (4 ≤ o.lat.toNat → em ≠ 0 → (s.my).latches.length = 4 → let b := (t.my).latches.getD (o.lat.toNat - 4) default
      b.live = true ∧ b.lanes = em ∧ ∀ l, inMask em l = true → sget 0 b.vals l = BitVec.ofNat 32 (res l).val) ∧
    (∀ l, l < 32 → l < (s.me).regs.rng.length → (t.me).rngOf l = if inMask em l = true then (res l).rng else (s.me).rngOf l) ∧
    (t.me).regs.flags = (lanesOf em).foldl (fun a l => a ||| ((res l).fl ||| (s.laneSrc g o l).fl)) 0 ||| (s.me).regs.flags ∧
    ((s.my).latches.length = 4 → ∀ n, n < 4 → (4 ≤ o.lat.toNat ∧ em ≠ 0 → n ≠ o.lat.toNat - 4) →
      (t.my).latches.getD n default =
        if em ≠ 0 ∧ (n, true) ∈ v96Latches op o then Latch.dead else ((s.my).latches.getD n default).aged) ∧
    (∀ n, n < 384 → t.readS s.cur n = s.readS s.cur n) ∧
    t.my = { s.pastSplit 3 with latches := (t.my).latches } ∧
    t.me = { s.me with splits := (t.me).splits,
                       regs := { (s.me).regs with v := (t.me).regs.v, vpoison := (t.me).regs.vpoison, rng := (t.me).regs.rng,
                                                  flags := (t.me).regs.flags } } ∧
    SplitOnly s t ∧ MemorySame s t
/-- R115, R119 to R121, R160, R167: what the write of vector results changes, and how the writes of instructions that share a cycle join. -/
def Obligations.VectorWriteFrame : Prop := VectorDoneChangesClaim ∧ JoinedRegistersClaim
/-- R129, R130: a vector compare writes the outcomes of the active lanes to a predicate, whose other bits stay, or to a whole scalar,
whose other bits are 0; it writes no v-register. -/
def Obligations.VectorCompareResults : Prop :=
  ∀ r ∈ compareOutcomes, ∀ (o : V96) (s : State) (op : Nat) (g : VSig), toIWord (r.1 o) = .v96 op o → vsig op = some g →
    Runs (.v96 op o) s →
    let em := s.vmask o
    let out (l : Nat) : Bool := (r.2 o s g l (s.laneSrc g o l)).1
    ∃ t, exec (r.1 o) s = .next t ∧ (t.my).pc = (s.my).pc + 12 ∧ (∀ q l, (t.me).readV q l = (s.me).readV q l) ∧
      (o.cSel.toNat < 512 → em ≠ 0 → o.cSel.toNat - 264 < (s.me).regs.p.length → ∀ l, l < 32 →
        inMask ((t.me).readP (o.cSel.toNat - 264)) l = if inMask em l then out l else inMask ((s.me).readP (o.cSel.toNat - 264)) l) ∧
      (512 ≤ o.cSel.toNat → o.cSel.toNat < 896 → em ≠ 0 → ∀ l, l < 32 →
        inMask (t.readS s.cur (o.cSel.toNat - 512)) l = (inMask em l && out l)) ∧ SplitOnly s t ∧ MemorySame s t

namespace Sys2Proof.Machine

/-! ## Lanes and segments (R195, R204 to R207) -/

/-- The active lanes of a lane's segment with their values of source A, ascending (R205). -/
def inSegment (s : State) (g : VSig) (o : V96) (l : Nat) : List (Nat × Nat) :=
  ((lanesOf (s.vmask o)).filter fun j => j / (s.me).regs.segw == l / (s.me).regs.segw).map fun j => (j, (s.laneSrc g o j).a)
/-- The integer and bit collectives of R206 and R207: from the participants, the own value and the lane. -/
noncomputable def collectiveRows : List ((V96 → Instr) × (List (Nat × Nat) → Nat → Nat → Nat)) :=
  let vals (ps : List (Nat × Nat)) : List Nat := ps.map (·.2)
  let bits (ps : List (Nat × Nat)) : Nat := ps.foldl (fun a p => a + 2 ^ p.1) 0
  [(.vredAddI32, fun ps _ _ => (vals ps).sum), (.vscanAddI32, fun ps _ l => (vals (ps.filter fun p => decide (p.1 ≤ l))).sum),
   (.vredMinI32, fun ps _ _ => foldVals (fun a b => if asI 32 a ≤ asI 32 b then a else b) (vals ps)),
   (.vredMaxI32, fun ps _ _ => foldVals (fun a b => if asI 32 a ≤ asI 32 b then b else a) (vals ps)),
   (.vredAnd, fun ps _ _ => foldVals (· &&& ·) (vals ps)), (.vredOr, fun ps _ _ => foldVals (· ||| ·) (vals ps)),
   (.vballot, fun ps _ _ => bits (ps.filter fun p => p.2 != 0)), (.vmatch, fun ps x _ => bits (ps.filter fun p => p.2 == x)),
   (.vbrank, fun ps _ l => (ps.filter fun p => decide (p.1 < l) && p.2 != 0).length),
   (.vfirst, fun ps _ _ => ((ps.find? fun p => p.2 != 0).map (·.1)).getD 0xFFFFFFFF)]
/-- The float collectives: a fold in ascending lane order with one rounding a step (R206). -/
noncomputable def floatCollectiveRows : List ((V96 → Instr) × (V96 → State → List (Nat × Nat) → Nat → Nat × Fl)) :=
  let add (o : V96) (s : State) (ps : List (Nat × Nat)) : Nat × Fl :=
    foldF32 s.fz32 (fun a b => fF32.add (s.foldEnv o) a b 1) (ps.map (·.2))
  let mm (max : Bool) (s : State) (ps : List (Nat × Nat)) : Nat × Fl := foldF32 s.fz32 (fun a b => fF32.minmax max false a b 1) (ps.map (·.2))
  [(.vredAddF32, fun o s ps _ => add o s ps), (.vscanAddF32, fun o s ps l => add o s (ps.filter fun p => decide (p.1 ≤ l))),
   (.vredMinF32, fun _ s ps _ => mm false s ps), (.vredMaxF32, fun _ s ps _ => mm true s ps)]
/-- vd of the active lanes has been written, unless nw is set, with a word for each lane; no other lane of a v-register has changed. -/
def WritesLanes (s t : State) (o : V96) (em : Mask) (f : Nat → Word) : Prop :=
  ∀ r l, l < 32 → (t.me).readV r l = if o.nw = false ∧ inMask em l = true ∧ r = o.vd.toNat then f l else (s.me).readV r l
/-- An instruction of three words has passed; scalars, predicates, the other splits and memory stay. -/
def PastVector (s t : State) : Prop :=
  (t.my).pc = (s.my).pc + 12 ∧ (∀ n, n < 384 → t.readS s.cur n = s.readS s.cur n) ∧ (t.me).regs.p = (s.me).regs.p ∧ SplitOnly s t ∧
    MemorySame s t

end Sys2Proof.Machine

/-- R205 to R207: each collective gives every active lane the combination of its segment's active lanes. -/
def Sys2Proof.Machine.CollectiveResultsClaim : Prop :=
  (∀ r ∈ collectiveRows, ∀ (o : V96) (s : State) (op : Nat) (g : VSig), toIWord (r.1 o) = .v96 op o → vsig op = some g →
    Runs (.v96 op o) s → ∃ t, exec (r.1 o) s = .next t ∧ PastVector s t ∧
      WritesLanes s t o (s.vmask o) fun l => BitVec.ofNat 32 (r.2 (inSegment s g o l) (s.laneSrc g o l).a l)) ∧
  ∀ r ∈ floatCollectiveRows, ∀ (o : V96) (s : State) (op : Nat) (g : VSig), toIWord (r.1 o) = .v96 op o → vsig op = some g →
    Runs (.v96 op o) s → ∃ t, exec (r.1 o) s = .next t ∧ PastVector s t ∧
      WritesLanes s t o (s.vmask o) fun l => BitVec.ofNat 32 (r.2 o s (inSegment s g o l) l).1
/-- R207: a vote gives every active lane the bit that any, or every, active lane of its segment has a non-zero value. -/
def Sys2Proof.Machine.VoteResultsClaim : Prop :=
  ∀ (o : V96) (s : State) (g : VSig) (all : Bool), vsig (if all then 0xAB else 0xAA) = some g →
    Runs (.v96 (if all then 0xAB else 0xAA) o) s →
    let out (l : Nat) : Bool := if all then (inSegment s g o l).all (·.2 != 0) else (inSegment s g o l).any (·.2 != 0)
    ∃ t, exec (if all then .vvoteAll o else .vvoteAny o) s = .next t ∧ (t.my).pc = (s.my).pc + 12 ∧
      (∀ q l, (t.me).readV q l = (s.me).readV q l) ∧
      (o.cSel.toNat < 512 → s.vmask o ≠ 0 → o.cSel.toNat - 264 < (s.me).regs.p.length → ∀ l, l < 32 →
        inMask ((t.me).readP (o.cSel.toNat - 264)) l =
          if inMask (s.vmask o) l then out l else inMask ((s.me).readP (o.cSel.toNat - 264)) l) ∧
      (512 ≤ o.cSel.toNat → o.cSel.toNat < 896 → s.vmask o ≠ 0 → ∀ l, l < 32 →
        inMask (t.readS s.cur (o.cSel.toNat - 512)) l = (inMask (s.vmask o) l && out l)) ∧ SplitOnly s t ∧ MemorySame s t
/-- R163, R205 to R207: reductions, scans, votes and the other collectives over segments complete with their results. -/
def Obligations.CollectivesAndVotes : Prop := CollectiveResultsClaim ∧ VoteResultsClaim
/-- R204, R41: VLANEID, VRNGRD, VRNGWR, VRDLANE and VWRLANE. -/
def Obligations.LaneDataResults : Prop :=
  (∀ (o : V96) (s : State) (g : VSig), vsig 0x93 = some g → Runs (.v96 0x93 o) s → ∃ t, exec (.vlaneid o) s = .next t ∧ PastVector s t ∧
    WritesLanes s t o (s.vmask o) fun l => BitVec.ofNat 32 (match o.a.sel.toNat - 928 with
      | 0 => l | 1 => l % (s.me).regs.segw | 2 => l / (s.me).regs.segw | 3 => (s.me).laneIdx 7 l | 4 => (s.me).laneIdx 6 l
      | _ => (s.me).flatT l % 2 ^ 32)) ∧
  (∀ (o : V96) (s : State) (g : VSig), vsig 0x96 = some g → Runs (.v96 0x96 o) s → ∃ t, exec (.vrngrd o) s = .next t ∧ PastVector s t ∧
    WritesLanes s t o (s.vmask o) (fun l => if o.a.sel.toNat = 929 then rngStep ((s.me).rngOf l) else (s.me).rngOf l) ∧
    ∀ l, l < 32 → l < (s.me).regs.rng.length → (t.me).rngOf l =
      if inMask (s.vmask o) l = true ∧ o.a.sel.toNat = 929 then rngStep ((s.me).rngOf l) else (s.me).rngOf l) ∧
  (∀ (o : V96) (s : State) (g : VSig), vsig 0x97 = some g → Runs (.v96 0x97 o) s → ∃ t, exec (.vrngwr o) s = .next t ∧ PastVector s t ∧
    (∀ r l, (t.me).readV r l = (s.me).readV r l) ∧
    ∀ l, l < 32 → l < (s.me).regs.rng.length → (t.me).rngOf l =
      if inMask (s.vmask o) l then (let x : Word := BitVec.ofNat 32 (s.laneSrc g o l).a; if x = 0 then 1 else x) else (s.me).rngOf l) ∧
  (∀ (o : V96) (s : State) (f : Nat), Runs (.v96 0x91 o) s → lowestLane (s.vmask o) = some f → 512 ≤ o.cSel.toNat → o.cSel.toNat < 896 →
    let w := (s.me).regs.segw
    let x := (s.readAB { ty := .b, special := .vreg } 0 o.a (f - f % w + s.laneSel o % w)).1
    ∃ t, exec (.vrdlane o) s = .next t ∧ (t.my).pc = (s.my).pc + 12 ∧
      (∀ n, n < 384 → t.readS s.cur n = if n = o.cSel.toNat - 512 then BitVec.ofNat 32 x else s.readS s.cur n) ∧
      (∀ r l, (t.me).readV r l = (s.me).readV r l) ∧ SplitOnly s t ∧ MemorySame s t) ∧
  ∀ (o : V96) (s : State) (g : VSig), vsig 0x92 = some g → Runs (.v96 0x92 o) s → ∃ t, exec (.vwrlane o) s = .next t ∧ PastVector s t ∧
    ∀ r l, l < 32 → (t.me).readV r l =
      if o.nw = false ∧ inMask (s.vmask o) l = true ∧ r = o.vd.toNat ∧ l % (s.me).regs.segw = s.laneSel o % (s.me).regs.segw then
        BitVec.ofNat 32 (s.laneSrc g o l).a
      else (s.me).readV r l
/-- The target that a lane of VBRX names, the lanes that name a target, and the tag (R195). -/
def Sys2Proof.Machine.State.laneTarget (s : State) (o : V96) (l : Nat) : Nat :=
  (s.readAB { ty := .b, pair := true, zeroOnly := true, special := .target } 0 o.a l).1 % 2 ^ 56
def Sys2Proof.Machine.State.lanesTo (s : State) (o : V96) (d : Nat) : Mask :=
  maskOf fun l => inMask (s.vmask o) l && s.laneTarget o l == d
/-- A target passes R102 with a tag: aligned, in executable memory, its word the landing pad of the tag. -/
def Sys2Proof.Machine.PadPasses (s : State) (d tag : Nat) : Prop :=
  d % 4 = 0 ∧ ∃ p, s.xlate (s.me).who.ctx d .x = .ok p ∧ leNat (getBs s.mem p 4) = 0x0B000000 + tag % 65536
/-- A target fails R102 with a code: MISALIGNED_PC, PROTECTION or CFI_TAG. -/
def Sys2Proof.Machine.PadFails (s : State) (d tag code : Nat) : Prop :=
  (d % 4 ≠ 0 ∧ code = 0x08) ∨
  (d % 4 = 0 ∧ (s.xlate (s.me).who.ctx d .x = .refused ∨ s.xlate (s.me).who.ctx d .x = .readOnly) ∧ code = 0x11) ∨
  (d % 4 = 0 ∧ code = 0x07 ∧ ∃ p, s.xlate (s.me).who.ctx d .x = .ok p ∧ leNat (getBs s.mem p 4) ≠ 0x0B000000 + tag % 65536)
/-- R159, R195: VBRX moves the split to a passing target that all its active lanes name, or in trap mode the lowest one; its latches die. -/
def Sys2Proof.Machine.VectorBranchMovesClaim : Prop :=
  ∀ (o : V96) (s : State) (first : Nat), Runs (.v96 0x98 o) s → lowestLane (s.vmask o) = some first →
    ((s.my).trap = false → ∀ l, l < 32 → inMask (s.vmask o) l = true → s.laneTarget o l = s.laneTarget o first) →
    PadPasses s (s.laneTarget o first) (s.laneSel o) →
    ∃ t, exec (.vbrx o) s = .next t ∧
      t.my = { s.my with pc := BitVec.ofNat 56 (s.laneTarget o first), latches := deadLatches, replay := (s.my).keptReplay,
                         replayNow := false } ∧
      t.me = { s.me with splits := (t.me).splits } ∧ SplitOnly s t ∧ MemorySame s t
/-- R102, R195: of the targets, in the order of each one's lowest lane, the first that fails is trapped, with its lanes and its address. -/
def Sys2Proof.Machine.VectorBranchFailsClaim : Prop :=
  ∀ (o : V96) (s : State) (l code : Nat), Runs (.v96 0x98 o) s → CanTrap s → l < 32 → inMask (s.vmask o) l = true →
    PadFails s (s.laneTarget o l) (s.laneSel o) code →
    (∀ j, j < l → inMask (s.vmask o) j = true → PadPasses s (s.laneTarget o j) (s.laneSel o)) →
    ∃ t, exec (.vbrx o) s = .next t ∧
      Enters s t { s.causeOf code with mask := s.lanesTo o (s.laneTarget o l), addr := BitVec.ofNat 56 (s.laneTarget o l) }
/-- R154, R156, R195: outside trap mode VBRX whose targets all pass and differ divides the split as BRD does: it goes on at the target of its
lowest active lane with that target's lanes and the inactive ones; the other targets' lanes are new splits, in the order of their lowest lanes.
With one other target and a FREE entry the new split stands in the lowest such entry, with copies of the banked scalars, flags and counters. -/
def Sys2Proof.Machine.VectorBranchDividesClaim : Prop :=
  ∀ (o : V96) (s : State) (d0 d1 : Nat) (ds : List Nat), Runs (.v96 0x98 o) s → (s.my).trap = false →
    ((lanesOf (s.vmask o)).map (s.laneTarget o)).eraseDups = d0 :: d1 :: ds →
    (∀ l, l < 32 → inMask (s.vmask o) l = true → PadPasses s (s.laneTarget o l) (s.laneSel o)) →
    let moved := maskOf fun l => inMask (s.vmask o) l && s.laneTarget o l != d0
    exec (.vbrx o) s = .next (s.divide ((s.my).mask &&& ~~~moved) (BitVec.ofNat 56 d0)
      ((d1 :: ds).map fun d => (s.lanesTo o d, BitVec.ofNat 56 d))) ∧
    ∀ i, ds = [] → (s.me).freeEntry = some i → ∃ t, exec (.vbrx o) s = .next t ∧
      t.my = { s.my with pc := BitVec.ofNat 56 d0, mask := (s.my).mask &&& ~~~moved, latches := deadLatches,
                         replay := (s.my).keptReplay, replayNow := false } ∧
      t.spl { group := s.cur.group, split := i } = childOf s.my (s.lanesTo o d1) (BitVec.ofNat 56 d1) ∧
      (∀ r : SplitRef, r ≠ s.cur → r ≠ { group := s.cur.group, split := i } → t.spl r = s.spl r) ∧
      (t.me).regs = (s.me).regs ∧ GroupOnly s t ∧ MemorySame s t
/-- R102, R154, R159, R195: VBRX moves the split to one target, divides it among several, or traps at the first target that fails. -/
def Obligations.VectorIndirectBranch : Prop := VectorBranchMovesClaim ∧ VectorBranchFailsClaim ∧ VectorBranchDividesClaim

namespace Sys2Proof.Machine

/-! ## Memory (R209 to R220, R231 to R248) -/

/-- What a vector memory instruction does, from its operand fields; whether it uses the scratchpad, and whether it is VLDW. -/
def vecMemRows : List ((EMem → Instr) × (EMem → AccKind) × Bool × Bool) :=
  [(.vld, fun _ => .load, false, false), (.vst, fun _ => .store, false, false), (.vatom, fun o => .atom o.sub.toNat, false, false),
   (.vsld, fun _ => .load, true, false), (.vsst, fun _ => .store, true, false), (.vsatom, fun o => .atom o.sub.toNat, true, false),
   (.vldw, fun _ => .load, false, true)]
/-- The same of the scalar memory instructions. -/
def scalarMemRows : List ((S64 → Instr) × (S64 → AccKind) × Bool) :=
  [(.sld, fun _ => .load, false), (.sst, fun _ => .store, false), (.satom, fun o => .atom (S64Rules.msub o), false),
   (.ssld, fun _ => .load, true), (.ssst, fun _ => .store, true)]
/-- A record that an access may use at its own address: of kind 0, 1 or 2, or for a load outside the scratchpad of the weight store. -/
def Plain (scr : Bool) (r : BufRec) (k : AccKind) : Prop :=
  (r.kind ≤ 2 ∨ (r.kind = 6 ∧ scr = false ∧ k.isLoad = true)) ∧ (r.rdonly = true → k.isLoad = true)
/-- The limit of a scratchpad access (R243). -/
def State.limitOf (s : State) (scr : Bool) : Option Nat := if scr then some (s.blk (s.blockOf s.me)).scratch else none
/-- An access has acted and counts: its served lanes' results wait in the last counted operation of the group, whose counter has
risen by 1; the PC has moved past the instruction; registers are as before. -/
def Counted (s t : State) (acc : Access) (v : Served) (em oob : Mask) : Prop :=
  (t.my).pc = (v.s.my).pc + BitVec.ofNat 56 (4 * acc.len) ∧ (t.my).ctr acc.ctr = (v.s.my).ctr acc.ctr + 1 ∧
    (t.me).regs = (v.s.me).regs ∧ t.mem = v.s.mem ∧ t.cores = v.s.cores ∧ t.clusters = v.s.clusters ∧
    ∃ op : PendOp, (t.me).ops = (v.s.me).ops ++ [op] ∧ op.kind = .memory ∧ op.ctr = acc.ctr ∧ op.holders = [s.cur.split] ∧
      op.lanes = em ∧ op.flags = (v.fl ||| flIf (decide (oob ≠ 0)) flOOB) ∧
      op.vwrites = acc.vwrites (v.done ++ (lanesOf oob).map fun l => (l, 0)) ∧
      op.swrites = acc.swrites (v.done ++ (lanesOf oob).map fun l => (l, 0))

end Sys2Proof.Machine

/-- R30, R209, R236, R238, R239, R241, R244, R247: a memory instruction whose record and lanes pass their checks, whose lines
translate and hold no poison acts on memory, raises its counter and moves on; a vector one without an active lane only moves on. -/
def Sys2Proof.Machine.MemoryInstructionsCompleteClaim : Prop :=
  (∀ e ∈ vecMemRows, ∀ (o : EMem) (s : State) (r : BufRec) (reqs : List LaneReq) (oob : Mask), Runs (toIWord (e.1 o)) s →
    let k := e.2.1 o
    let w := if e.2.2.2 then 64 else 2 ^ o.width.toNat
    let acc : Access := { memAccess o k (if e.2.2.1 then scrKind else r.kind) w with lanes := reqs }
    (s.my).ctr acc.ctr < 63 →
    (s.mmask o = 0 → exec (e.1 o) s = .next (s.advance 3)) ∧
    (s.mmask o ≠ 0 → s.memRec o = (s, r, none) → Plain e.2.2.1 r k → (e.2.2.2 = true → r.linear = true) →
      checkLanes r w (sextN 24 o.off.toNat) (s.limitOf e.2.2.1) ((s.me).cands o k r w (s.mmask o)) = .ok reqs oob →
      let v := s.serve s.cur.group acc
      v.poison = 0 → v.pend = [] → v.refused = [] →
      ∃ t, exec (e.1 o) s = .next t ∧ Counted s t acc v (s.mmask o) oob)) ∧
  ∀ e ∈ scalarMemRows, ∀ (o : S64) (s : State) (r : BufRec) (reqs : List LaneReq) (oob : Mask), Runs (toIWord (e.1 o)) s →
    let k := e.2.1 o
    let acc : Access := { scalarAccess o k (if e.2.2 then scrKind else r.kind) with lanes := reqs }
    s.recAt o.sa.toNat = (r, none) → Plain e.2.2 r k → (s.my).ctr acc.ctr < 63 →
    checkLanes r acc.width 0 (s.limitOf e.2.2)
      [{ lane := 0, i := (s.srcB o).toNat, data := if k.isLoad then 0 else s.scalarData o.sc.toNat acc.width,
         cmp := if k = .atom 0xA then s.scalarData o.sd.toNat acc.width else 0 }] = .ok reqs oob →
    let v := s.serve s.cur.group acc
    v.poison = 0 → v.pend = [] → v.refused = [] →
    ∃ t, exec (e.1 o) s = .next t ∧ Counted s t acc v (s.my).mask oob
/-- R108, R236: with its counter at 63 a memory instruction is held, whether or not a lane is active. -/
def Sys2Proof.Machine.MemoryInstructionsHoldClaim : Prop :=
  ∀ e ∈ vecMemRows, ∀ (o : EMem) (s : State) (r : BufRec) (reqs : List LaneReq) (oob : Mask), Runs (toIWord (e.1 o)) s →
    let k := e.2.1 o
    let w := if e.2.2.2 then 64 else 2 ^ o.width.toNat
    63 ≤ (s.my).ctr (memAccess o k 0 w).ctr →
    (s.mmask o = 0 ∨ (s.memRec o = (s, r, none) ∧ Plain e.2.2.1 r k ∧ (e.2.2.2 = true → r.linear = true) ∧
      checkLanes r w (sextN 24 o.off.toNat) (s.limitOf e.2.2.1) ((s.me).cands o k r w (s.mmask o)) = .ok reqs oob)) →
    ∃ t, exec (e.1 o) s = .next t ∧ HeldAtIssue s t
/-- R219, R273, R420, R421: an access through an object's record acts at the mapped addresses; one through a window record whose lines all lie
in windows sends one request for each line, or for each location of an atomic, and is counted until they are acknowledged. -/
def Sys2Proof.Machine.MappedAndWindowAccessesClaim : Prop :=
  ∀ e ∈ vecMemRows, ∀ (o : EMem) (s : State) (r : BufRec) (reqs : List LaneReq) (oob : Mask), Runs (toIWord (e.1 o)) s →
    let k := e.2.1 o
    let w := if e.2.2.2 then 64 else 2 ^ o.width.toNat
    e.2.2.1 = false → (s.my).ctr (memAccess o k 0 w).ctr < 63 → s.mmask o ≠ 0 → s.memRec o = (s, r, none) →
    (r.rdonly = true → k.isLoad = true) →
    checkLanes r w (sextN 24 o.off.toNat) none ((s.me).cands o k r w (s.mmask o)) = .ok reqs oob →
    (∀ (u : State) (mapped : List LaneReq), r.kind = 5 →
      s.map5All s.cur.group (if w = 64 then 64 else min w 16) reqs = (u, .ok mapped) → u.cur = s.cur →
      let acc : Access := { memAccess o k 0 w with lanes := mapped }
      let v := u.serve s.cur.group acc
      v.poison = 0 → v.pend = [] → v.refused = [] → ∃ t, exec (e.1 o) s = .next t ∧ Counted s t acc v (s.mmask o) oob) ∧
    ((r.kind = 3 ∨ r.kind = 4) → reqs ≠ [] → (∀ q ∈ reqs, ((s.ctx (s.me).who.ctx).window r.kind q.va k.want).isSome = true) →
      (k.isAtom = true → r.kind = 4 → w = 8 ∧ (o.sub.toNat = 0 ∨ o.sub.toNat = 0xA)) →
      let acc : Access := { memAccess o k r.kind w with lanes := reqs }
      ∃ t op sent, exec (e.1 o) s = .next t ∧ (t.my).pc = (s.my).pc + 12 ∧ (t.my).ctr acc.ctr = (s.my).ctr acc.ctr + 1 ∧
        (t.me).regs = (s.me).regs ∧ MemorySame s t ∧ (t.me).ops = (s.me).ops ++ [op] ∧ op.kind = .window (sent.map fun q => q.id) ∧
        op.ctr = acc.ctr ∧ op.lanes = s.mmask o ∧ op.vwrites = acc.vwrites ((lanesOf oob).map fun l => (l, 0)) ∧
        t.winReqs = s.winReqs ++ sent ∧ sent.map (fun q => q.acc.lanes) = windowPieces acc ∧
        (∀ q ∈ sent, q.group = s.cur.group ∧ q.use = .lanes op.id ∧ q.failed = none) ∧ ∀ x : SplitRef, x ≠ s.cur → t.spl x = s.spl x)
/-- R27, R30, R226, R377: a store or atomic through an RDONLY record traps PROTECTION, one to the weight store WEIGHT_STORE_WRITE, and
lanes that fail R30 trap with their cause and TRAPMASK holding exactly those lanes; nothing is stored. -/
def Sys2Proof.Machine.MemoryChecksTrapClaim : Prop :=
  ∀ e ∈ vecMemRows, ∀ (o : EMem) (s : State) (r : BufRec), Runs (toIWord (e.1 o)) s → CanTrap s → s.mmask o ≠ 0 →
    s.memRec o = (s, r, none) → e.2.2.1 = false → e.2.2.2 = false →
    let k := e.2.1 o
    (k.isLoad = false → r.kind = 6 → ∃ t, exec (e.1 o) s = .next t ∧ Enters s t (s.causeOf 0x1C)) ∧
    (k.isLoad = false → r.kind ≤ 2 → r.rdonly = true → ∃ t, exec (e.1 o) s = .next t ∧ Enters s t (s.causeOf 0x11)) ∧
    ∀ (code : Nat) (m : Mask), Plain false r k →
      checkLanes r (2 ^ o.width.toNat) (sextN 24 o.off.toNat) none ((s.me).cands o k r (2 ^ o.width.toNat) (s.mmask o)) = .trap code m →
      ∃ t, exec (e.1 o) s = .next t ∧ Enters s t { s.causeOf code with mask := m }
/-- R27, R239, R244, R420, R434: the other causes of a vector memory instruction: a record of a kind that the scratchpad forms or VLDW do not
take, an atomic that a window of kind 4 does not carry, lanes outside every window, and poisoned bytes. Nothing is stored or sent. -/
def Sys2Proof.Machine.MemoryTrapsMoreClaim : Prop :=
  ∀ e ∈ vecMemRows, ∀ (o : EMem) (s : State) (r : BufRec), Runs (toIWord (e.1 o)) s → CanTrap s → s.mmask o ≠ 0 → s.memRec o = (s, r, none) →
    let k := e.2.1 o
    let w := if e.2.2.2 then 64 else 2 ^ o.width.toNat
    ((e.2.2.1 = true ∧ 2 < r.kind ∧ r.kind ≠ 15) ∨ (e.2.2.2 = true ∧ (r.linear = false ∨ r.kind = 15)) →
      ∃ t, exec (e.1 o) s = .next t ∧ Enters s t (s.causeOf 0x02)) ∧
    (e.2.2.1 = false → e.2.2.2 = false → k.isAtom = true → r.kind = 4 → r.rdonly = false → ¬ (w = 8 ∧ (o.sub.toNat = 0 ∨ o.sub.toNat = 0xA)) →
      ∃ t, exec (e.1 o) s = .next t ∧ Enters s t (s.causeOf 0x02)) ∧
    ∀ (reqs : List LaneReq) (oob : Mask),
      checkLanes r w (sextN 24 o.off.toNat) (s.limitOf e.2.2.1) ((s.me).cands o k r w (s.mmask o)) = .ok reqs oob →
      (s.my).ctr (memAccess o k 0 w).ctr < 63 → (e.2.2.2 = true → r.linear = true) → (r.rdonly = true → k.isLoad = true) →
      (e.2.2.1 = false → (r.kind = 3 ∨ r.kind = 4) → k.isAtom = false → ∀ q rest,
        (reqs.filter fun q => ((s.ctx (s.me).who.ctx).window r.kind q.va k.want).isNone) = q :: rest →
        ∃ t, exec (e.1 o) s = .next t ∧
          Enters s t { s.causeOf 0x11 with mask := reqMask (q :: rest), addr := BitVec.ofNat 56 (q.va / 256 * 256) }) ∧
      (Plain e.2.2.1 r k →
        let v := s.serve s.cur.group { memAccess o k (if e.2.2.1 then scrKind else r.kind) w with lanes := reqs }
        v.poison ≠ 0 → ∃ t, exec (e.1 o) s = .next t ∧ Enters s t { s.causeOf 0x14 with mask := v.poison, addr := BitVec.ofNat 56 v.paddr })
/-- R27, R30, R226, R246, R247: the causes of a scalar memory instruction, with the split's mask. -/
def Sys2Proof.Machine.ScalarMemoryTrapsClaim : Prop :=
  ∀ e ∈ scalarMemRows, ∀ (o : S64) (s : State) (r : BufRec), Runs (toIWord (e.1 o)) s → CanTrap s →
    let k := e.2.1 o
    (∀ code, s.recAt o.sa.toNat = (r, some code) → ∃ t, exec (e.1 o) s = .next t ∧ Enters s t (s.causeOf code)) ∧
    (s.recAt o.sa.toNat = (r, none) →
      (e.2.2 = true → 2 < r.kind → r.kind ≠ 15 → ∃ t, exec (e.1 o) s = .next t ∧ Enters s t (s.causeOf 0x02)) ∧
      (e.2.2 = false → k.isLoad = false → r.kind = 6 → ∃ t, exec (e.1 o) s = .next t ∧ Enters s t (s.causeOf 0x1C)) ∧
      (k.isLoad = false → r.kind ≤ 2 → r.rdonly = true → ∃ t, exec (e.1 o) s = .next t ∧ Enters s t (s.causeOf 0x11)) ∧
      ∀ (code : Nat) (m : Mask), Plain e.2.2 r k →
        checkLanes r (scalarAccess o k 0).width 0 (s.limitOf e.2.2)
          [{ lane := 0, i := (s.srcB o).toNat, data := if k.isLoad then 0 else s.scalarData o.sc.toNat (scalarAccess o k 0).width,
             cmp := if k = .atom 0xA then s.scalarData o.sd.toNat (scalarAccess o k 0).width else 0 }] = .trap code m →
        ∃ t, exec (e.1 o) s = .next t ∧ Enters s t (s.causeOf code))
/-- R29, R30: which lanes are out of bounds for a linear record, that OOBTRAP makes them trap, that else they make no request, and
that a request stands at base + offset and is aligned. -/
def Sys2Proof.Machine.LinearRecordBoundsClaim : Prop :=
  ∀ (r : BufRec) (w : Nat) (off : Int) (cs : List Cand), r.kind = 0 → w ∈ [1, 2, 4, 8, 16] →
    let inside (c : Cand) : Prop := 0 ≤ (BitVec.ofNat 32 c.i).toInt + off ∧ (BitVec.ofNat 32 c.i).toInt + off + w ≤ r.extent
    (∀ (code : Nat) (m : Mask), checkLanes r w off none cs = .trap code m → code = 0x12 ∨ code = 0x13 ∨ code = 0x11) ∧
    (r.oobtrap = true → (∃ c ∈ cs, c.lane < 32 ∧ ¬ inside c) → ∃ m, checkLanes r w off none cs = .trap 0x12 m ∧
      ∀ l, l < 32 → (inMask m l = true ↔ ∃ c ∈ cs, c.lane = l ∧ ¬ inside c)) ∧
    ∀ (reqs : List LaneReq) (oob : Mask), checkLanes r w off none cs = .ok reqs oob →
      (∀ l, l < 32 → (inMask oob l = true ↔ ∃ c ∈ cs, c.lane = l ∧ ¬ inside c)) ∧
      (∀ q ∈ reqs, q.va < 2 ^ 56 ∧ q.va % w = 0) ∧
      ∀ q, q ∈ reqs ↔ ∃ c ∈ cs, inside c ∧ q = { lane := c.lane, va := (r.base + ((BitVec.ofNat 32 c.i).toInt + off)).toNat,
                                                 data := c.data, cmp := c.cmp }
/-- R27 to R30: the checks of a memory instruction and the bounds of a linear record. -/
def Obligations.MemoryChecks : Prop :=
  MemoryChecksTrapClaim ∧ MemoryTrapsMoreClaim ∧ ScalarMemoryTrapsClaim ∧ LinearRecordBoundsClaim
/-- R213 to R215: a store at a scope up to core with a policy other than bypass is seen by every later load of that core, at any
scope and policy; it makes those bytes valid and dirty in the core's L1 and changes nothing else. -/
def Sys2Proof.Machine.StoreIsSeenByItsCoreClaim : Prop :=
  ∀ (s : State) (core k : Nat) (mask : BitVec 64) (data : BitVec 512) (scope policy : Nat), core < s.cores.length → scope ≤ 2 →
    policy ≠ 2 →
    let t := (s.storeSector core k mask data scope policy).1
    (s.storeSector core k mask data scope policy).2 = true ∧ t = { s with cores := t.cores } ∧
    (t.l1At core k).valid = (s.l1At core k).valid ||| mask ∧ (t.l1At core k).dirty = (s.l1At core k).dirty ||| mask ∧
    (∀ c q, c ≠ core ∨ q ≠ k → t.l1At c q = s.l1At c q) ∧
    (∀ i, i < 64 → mask.getLsbD i = false → sectorBytes (t.l1At core k).data i 1 = sectorBytes (s.l1At core k).data i 1) ∧
    ∀ (need : BitVec 64) (lscope lpolicy : Nat) (ws : Bool) (i : Nat), i < 64 → mask.getLsbD i = true →
      sectorBytes (t.loadSector core k need lscope lpolicy ws).2.1 i 1 = sectorBytes data i 1
/-- R217, R218, R241: a store at device scope reaches the home slice, and an integer atomic returns the old value there and leaves the
new one, whichever copies the core and its cluster held. Afterwards neither cache holds the sector; its other bytes at home are those that
a load at device scope would have seen before, every other sector of the caches and every other byte of the home memory stay. -/
def Sys2Proof.Machine.DeviceStoresAndAtomicsActAtHomeClaim : Prop :=
  (∀ (s : State) (core c va : Nat) (mask : BitVec 64) (data : BitVec 512) (policy : Nat), core < s.cores.length →
    core / 4 < s.clusters.length → c < 2 ^ 40 → c < s.ctxs.length → va < 2 ^ 56 → va % 64 = 0 →
    let t := s.storeSector core (vkey c va) mask data 4 policy
    (t.2 = true → ∀ i, i < 64 → mask.getLsbD i = true → sectorBytes (t.1.homeSector (vkey c va)).1 i 1 = sectorBytes data i 1) ∧
    ∀ p, s.xlate c va .w = .ok p → (cacheWays (s.cl (core / 4)) = true ∨ s.ccAt (core / 4) (vkey c va) = noSector) →
      t.2 = true ∧ t.1.l1At core (vkey c va) = noSector ∧ t.1.ccAt (core / 4) (vkey c va) = noSector ∧
      (∀ i, i < 64 → mask.getLsbD i = false → sectorBytes (t.1.homeSector (vkey c va)).1 i 1 =
        sectorBytes (s.loadSector core (vkey c va) allBytes 4 0 false).2.1 i 1) ∧
      (∀ a, a < p ∨ p + 64 ≤ a → getB t.1.mem a = getB s.mem a) ∧
      (∀ d q, d ≠ core ∨ q ≠ vkey c va → t.1.l1At d q = s.l1At d q) ∧ ∀ d q, d ≠ core / 4 ∨ q ≠ vkey c va → t.1.ccAt d q = s.ccAt d q) ∧
  ∀ (s : State) (gi sub w : Nat) (acc : Access) (r : LaneReq), gi < s.groups.length → (s.grp gi).coreIx < s.cores.length →
    (s.grp gi).coreIx / 4 < s.clusters.length → (s.grp gi).who.ctx < 2 ^ 40 → (s.grp gi).who.ctx < s.ctxs.length → r.va < 2 ^ 56 →
    w ∈ [4, 8] → r.va % w = 0 → r.data < 2 ^ (8 * w) → r.cmp < 2 ^ (8 * w) → atomIsFloat sub = false →
    acc.kind = .atom sub → acc.rkind ≤ 2 → acc.width = w → acc.lanes = [r] → s.placeOf (s.grp gi).who.ctx acc r.va = .ok →
    s.placeOf (s.grp gi).who.ctx acc (r.va / 64 * 64) = .ok →
    let k := vkey (s.grp gi).who.ctx r.va
    let u := s.evictForAtomic (s.grp gi).coreIx k
    let old := sectorBytes (u.homeSector k).1 (r.va % 64) w
    let v := s.serve gi acc
    v.done = [(r.lane, old)] ∧ sectorBytes (v.s.homeSector k).1 (r.va % 64) w = atomInt sub (8 * w) old r.data r.cmp ∧
      v.s.l1At (s.grp gi).coreIx k = noSector ∧ v.s.ccAt ((s.grp gi).coreIx / 4) k = noSector ∧
      (∀ i, i < 64 → i < r.va % 64 ∨ r.va % 64 + w ≤ i → sectorBytes (v.s.homeSector k).1 i 1 = sectorBytes (u.homeSector k).1 i 1) ∧
      (∀ p, s.xlate (s.grp gi).who.ctx (r.va / 64 * 64) .w = .ok p → ∀ a, a < p ∨ p + 64 ≤ a → getB v.s.mem a = getB s.mem a) ∧
      (∀ d q, d ≠ (s.grp gi).coreIx ∨ q ≠ k → v.s.l1At d q = s.l1At d q) ∧
      ∀ d q, d ≠ (s.grp gi).coreIx / 4 ∨ q ≠ k → v.s.ccAt d q = s.ccAt d q
/-- R209, R213 to R215, R221, R225: what lanes whose lines translate are given, lane after lane. A load lane gets the bytes at its address, in
the scratchpad at the block's base, else of its sector as the access's scope and policy load it; the lanes that store into one 64-byte word
store together, a later lane over an earlier one. Where no cache holds the sector, a load gets the bytes of the home memory or of the weight
store. -/
def Sys2Proof.Machine.LanesAreServedClaim : Prop :=
  (∀ (s : State) (gi : Nat) (acc : Access), acc.lanes = [] → (s.serve gi acc).s = s ∧ (s.serve gi acc).done = []) ∧
  (∀ (s : State) (gi : Nat) (acc : Access) (l : List LaneReq) (r : LaneReq), acc.kind = .load → acc.lanes = l ++ [r] →
    (∀ q ∈ acc.lanes, s.placeOf (s.grp gi).who.ctx acc q.va = .ok) →
    let v := s.serve gi { acc with lanes := l }
    let w := s.serve gi acc
    let g := v.s.grp gi
    (acc.rkind = scrKind → w.s = v.s ∧
      w.done = v.done ++ [(r.lane, leNat (getBs (v.s.cl g.who.cluster).sram (v.s.scrBase gi + r.va) acc.width))]) ∧
    (acc.rkind ≠ scrKind →
      let k := if acc.rkind = 6 then wkey r.va else vkey g.who.ctx r.va
      let x := v.s.loadSector g.coreIx k (byteMask (r.va % 64) acc.width) acc.scope acc.policy (acc.rkind == 6)
      w.s = x.1.markLine g.coreIx k (if acc.scope ≤ 2 then acc.policy else 0) false ∧
        w.done = v.done ++ [(r.lane, sectorBytes x.2.1 (r.va % 64) acc.width)])) ∧
  (∀ (s : State) (gi q : Nat) (acc : Access) (l m : List LaneReq), acc.kind = .store → acc.lanes = l ++ m → m ≠ [] →
    acc.width ∈ [1, 2, 4, 8, 16] → (∀ r ∈ m, r.va / 64 = q ∧ r.va % acc.width = 0) → (∀ r ∈ l, r.va / 64 ≠ q) →
    (∀ r ∈ acc.lanes, s.placeOf (s.grp gi).who.ctx acc r.va = .ok) →
    let v := s.serve gi { acc with lanes := l }
    let w := s.serve gi acc
    let g := v.s.grp gi
    let d := mergedStore acc.width m
    w.done = v.done ++ m.map (fun r => (r.lane, 0)) ∧
    (acc.rkind = scrKind → g.who.cluster < v.s.clusters.length → w.s.mem = v.s.mem ∧
      let base := v.s.scrBase gi + 64 * q
      ∀ a, (getB (w.s.cl g.who.cluster).sram a).toNat = if base ≤ a ∧ a < base + 64 ∧ d.1.getLsbD (a - base) = true then
          sectorBytes d.2 (a - base) 1 else (getB (v.s.cl g.who.cluster).sram a).toNat) ∧
    (acc.rkind ≠ scrKind → w.s =
      ((v.s.storeSector g.coreIx (vkey g.who.ctx (64 * q)) d.1 d.2 acc.scope acc.policy).1).markLine g.coreIx
        (vkey g.who.ctx (64 * q)) acc.policy true)) ∧
  (∀ (w i : Nat) (l : List LaneReq) (r : LaneReq), w ∈ [1, 2, 4, 8, 16] → r.va % w = 0 → i < 64 →
    let here : Bool := decide (r.va % 64 ≤ i) && decide (i < r.va % 64 + w)
    (mergedStore w (l ++ [r])).1.getLsbD i = (here || (mergedStore w l).1.getLsbD i) ∧
      sectorBytes (mergedStore w (l ++ [r])).2 i 1 =
        if here then r.data / 256 ^ (i - r.va % 64) % 256 else sectorBytes (mergedStore w l).2 i 1) ∧
  ∀ (s : State) (core c va w scope policy : Nat), w ∈ [1, 2, 4, 8, 16] → va % w = 0 → c < 2 ^ 40 → va < 2 ^ 56 →
    (∀ p, s.xlate c (va / 64 * 64) .r = .ok p → s.l1At core (vkey c va) = noSector → s.ccAt (core / 4) (vkey c va) = noSector →
      sectorBytes (s.loadSector core (vkey c va) (byteMask (va % 64) w) scope policy false).2.1 (va % 64) w =
        leNat (getBs s.mem (p + va % 64) w)) ∧
    (s.l1At core (wkey va) = noSector → s.ccAt (core / 4) (wkey va) = noSector →
      sectorBytes (s.loadSector core (wkey va) (byteMask (va % 64) w) scope policy true).2.1 (va % 64) w = leNat (getBs s.ws va w))
/-- R209, R213 to R221, R225: lanes are served at their addresses, a store is seen by its core, and stores and atomics at device scope act
at the home slice. -/
def Obligations.StoresReachTheirLevel : Prop :=
  LanesAreServedClaim ∧ StoreIsSeenByItsCoreClaim ∧ DeviceStoresAndAtomicsActAtHomeClaim
/-- R240: VPREF moves on, writes no register, counts nothing and changes no byte of the home memory. -/
def Sys2Proof.Machine.PrefetchOnlyMovesOnClaim : Prop :=
  ∀ (o : EMem) (s : State) (r : BufRec), Runs (.mem 0x06 o) s → s.memRec o = (s, r, none) → r.kind ≠ 5 →
    ∃ t, exec (.vpref o) s = .next t ∧ t.my = s.pastSplit 3 ∧ t.me = { s.me with splits := (t.me).splits } ∧ t.mem = s.mem ∧
      (∀ r : SplitRef, r ≠ s.cur → t.spl r = s.spl r)
/-- R108, R209, R219, R236, R238 to R247: memory instructions complete with what State.serve gives (the first claim of StoresReachTheirLevel says
what that is), or are held, and a prefetch only moves on. -/
def Obligations.MemoryInstructions : Prop :=
  MemoryInstructionsCompleteClaim ∧ MemoryInstructionsHoldClaim ∧ MappedAndWindowAccessesClaim ∧ PrefetchOnlyMovesOnClaim

namespace Sys2Proof.Machine

/-! ## Events of splits and of the memory unit (R55, R106, R152 to R158, R214, R236, R382 to R388) -/

/-- The words that a list of v-register writes leaves, where no two write one lane; all other lanes of a group stay. -/
def LanesWritten (g h : Group) (l : List (Nat × Nat × Word)) : Prop :=
  (∀ w ∈ l, (∀ x ∈ l, x.1 = w.1 → x.2.1 = w.2.1 → x = w) → h.readV w.1 w.2.1 = w.2.2) ∧
    ∀ r n, n < 32 → (∀ x ∈ l, ¬ (x.1 = r ∧ x.2.1 = n)) → h.readV r n = g.readV r n
/-- One split has become x; nothing else has changed. -/
def SplitTo (who : SplitRef) (s t : State) (x : Split) : Prop :=
  t = { s with groups := t.groups } ∧ t.spl who = x ∧ (∀ r, r ≠ who → t.spl r = s.spl r) ∧
    ∀ g, t.grp g = { s.grp g with splits := (t.grp g).splits }
/-- The cause with which a pending asynchronous cause enters the handler of the current split (R382). -/
def asyncCause (s : State) (a : AsyncCause) : Cause :=
  { code := a.cause, info := 0, mask := (s.my).mask, addr := a.addr, pc := (s.my).pc, async := true, replay := none,
    resume := if (s.my).st = .wait ∨ (s.my).st = .join then some (s.my).st else none }
/-- The completions that only finish a counted operation, with the kind of operation each finishes. -/
def completionRows : List ((Nat → Nat → Instr) × PendKind) :=
  [(.memoryCompletion, .memory), (.textureCompletion, .texture), (.rasterWalkCompletion, .raster), (.lresCompletion, .lres)]
/-- A counted operation has ended: destinations and flags written, the counter of each holder down by 1, the operation gone. -/
def Finishes (s t : State) (group : Nat) (p : PendOp) : Prop :=
  t = { s with groups := t.groups } ∧ (∀ g, g ≠ group → t.grp g = s.grp g) ∧ LanesWritten (s.grp group) (t.grp group) p.vwrites ∧
    (t.grp group).regs.flags = (s.grp group).regs.flags ||| p.flags ∧ (t.grp group).regs.p = (s.grp group).regs.p ∧
    (∀ w ∈ p.swrites, (∀ x ∈ p.swrites, x.1 = w.1 → x = w) →
      if w.1 < 32 then ∀ h ∈ p.holders, h < (s.grp group).splits.length → sget 0 (t.spl { group := group, split := h }).s w.1 = w.2
      else sget 0 (t.grp group).regs.s w.1 = w.2) ∧
    (∀ n, 32 ≤ n → (∀ x ∈ p.swrites, x.1 ≠ n) → sget 0 (t.grp group).regs.s n = sget 0 (s.grp group).regs.s n) ∧
    (p.holders.Nodup → ∀ i, (t.spl { group := group, split := i }).ctr p.ctr =
      (s.spl { group := group, split := i }).ctr p.ctr - if i ∈ p.holders ∧ i < (s.grp group).splits.length then 1 else 0) ∧
    t.findOp group p.id = none

end Sys2Proof.Machine

/-- R155, R236: the completion of a counted memory, texture, raster or reconstruction operation writes its destinations and flags and
lowers the counter of every split that holds it by 1, a read of the weight store once its regions are outside their refresh windows (R227);
so does RAY_RESULT once no lane of the operation is RUNNING for it. -/
def Obligations.CountedOperationCompletes : Prop :=
  (∀ e ∈ completionRows, ∀ (group op : Nat) (s : State) (p : PendOp), group < s.groups.length → s.findOp group op = some p →
    p.kind = e.2 → s.outsideWindows p = true → (∀ w ∈ p.vwrites, w.2.1 < 32) → ∃ t, exec (e.1 group op) s = .next t ∧ Finishes s t group p) ∧
  ∀ (group op : Nat) (s : State) (p : PendOp), group < s.groups.length → s.findOp group op = some p → p.kind = .ray →
    (s.grp group).saved = false → s.mustWait (s.grp group).who.ctx = false → (∀ w ∈ p.vwrites, w.2.1 < 32) →
    (∀ l, l < 32 → inMask p.lanes l = true → ((s.grp group).ray l).st = .running → ((s.grp group).ray l).op ≠ p.id) →
    ∃ t, exec (.rayResult group op) s = .next t ∧ Finishes s t group p
/-- R106, R152, R193, R196, R197: the end of a SLEEP, of a JOIN by its limit or because the split holds every unexited lane, of a
YIELD from the cycle after its issue, and of a wait at a barrier whose phase is complete: READY, past the instruction. -/
def Obligations.WaitsEnd : Prop :=
  (∀ (who : SplitRef) (s : State), s.resident who = .sleep → (s.spl who).wake ≤ s.dev.cycle →
    ∃ t, exec (.sleepExpiry who) s = .next t ∧ SplitTo who s t { s.spl who with st := .ready, wake := 0 }) ∧
  ∀ (who : SplitRef) (s : State),
    let sp := s.spl who
    let past : Split := { sp with st := .ready, wake := 0, pc := sp.pc + 4, replay := sp.keptReplay, replayNow := false }
    (s.resident who = .join → sp.wake ≤ s.dev.cycle → ∃ t, exec (.joinLimit who) s = .next t ∧ SplitTo who s t past) ∧
    (s.resident who = .join → sp.mask ||| (s.grp who.group).exited = BitVec.allOnes 32 →
      ∃ t, exec (.waitConditionHolds who) s = .next t ∧ SplitTo who s t past) ∧
    (s.resident who = .wait → sp.wait = .yield → sp.wake ≤ s.dev.cycle →
      ∃ t, exec (.waitConditionHolds who) s = .next t ∧ SplitTo who s t past) ∧
    ∀ (id ph : Nat), s.resident who = .wait → sp.wait = .barrier id ph →
      ph < ((s.blk (s.blockOf (s.grp who.group))).barriers.getD id default).phase →
      ∃ t, exec (.waitConditionHolds who) s = .next t ∧ SplitTo who s t past
/-- The lanes in which a split issues its next instruction: those of its replay mask where one applies (R381). -/
def Sys2Proof.Machine.issueLanes (sp : Split) : Mask := if sp.replayNow then sp.replay.getD sp.mask else sp.mask
/-- R158: two READY splits at one PC become one with both masks and the sums of their counters, in the lower entry, when neither is in
trap mode or has a live latch and the sums fit. That a lane which a replay mask leaves out stays left out, and that a place among the blocking
VACQs becomes the merged split's, are the model's reading of R158, R201 and R381 (DEDUCED, log 30). Splits at different PCs do not merge. -/
def Sys2Proof.Machine.SplitsMergeClaim : Prop :=
  ∀ (group : Nat) (s : State) (a b : Split), (s.grp group).live? = true → (s.grp group).deferred = [] →
    (s.grp group).splits = [a, b, Split.empty, Split.empty] → a.st = .ready → b.st = .ready →
    (a.pc ≠ b.pc → exec (.splitMerge group) s = .next s) ∧
    (a.pc = b.pc → a.trap = false → b.trap = false → a.hasLatch = false → b.hasLatch = false → a.vmc + b.vmc ≤ 63 →
      a.vsc + b.vsc ≤ 63 → a.smc + b.smc ≤ 63 → a.xc + b.xc ≤ 63 →
      ∃ t, exec (.splitMerge group) s = .next t ∧ t = { s with groups := t.groups, cores := t.cores } ∧
        t.cores = (s.updCore (s.grp group).coreIx fun c =>
          { c with vacqs := requeue c.vacqs { group := group, split := 1 } { group := group, split := 0 } }).cores ∧
        (t.grp group).splits = [{ a with mask := a.mask ||| b.mask, vmc := a.vmc + b.vmc, vsc := a.vsc + b.vsc, smc := a.smc + b.smc,
                                         xc := a.xc + b.xc, replayNow := a.replayNow || b.replayNow,
                                         replay := if a.replayNow = true ∨ b.replayNow = true then some (issueLanes a ||| issueLanes b)
                                           else a.replay }, Split.empty, Split.empty, Split.empty] ∧
        (t.grp group).regs = (s.grp group).regs ∧ ∀ g, g ≠ group → t.grp g = s.grp g)
/-- R156, R157: the one split that may move onto the deferred list, in a cycle whose merges and exits have freed fewer entries than the list
held, exchanges with the oldest entry of the list: it goes to the end of the list with its banked scalars, flags and wait, and the oldest
entry takes its place; what a window has been asked for its wait is no longer awaited. Where merges and exits have freed as many, no split moves.
What the cycle's merges and exits have freed is counted as log 30 reads R157 (DEDUCED). -/
def Sys2Proof.Machine.DeferralExchangesClaim : Prop :=
  ∀ (group i : Nat) (s : State) (d : Deferred) (rest : List Deferred), (s.grp group).live? = true →
    (s.grp group).moved ≠ s.dev.cycle + 1 → (s.grp group).deferred = d :: rest → i < (s.grp group).splits.length →
    (∀ j, j < (s.grp group).splits.length → ((s.grp group).movable s.dev.cycle j = true ↔ j = i)) →
    (∀ sp ∈ (s.grp group).splits, sp.st ≠ .free) → d.st ≠ .free →
    ((s.grp group).listed ≤ (s.grp group).freed → ∃ t, exec (.splitDeferral group) s = .next t ∧
      (t.grp group).splits = (s.grp group).splits ∧ (t.grp group).deferred = (s.grp group).deferred) ∧
    ((s.grp group).freed < (s.grp group).listed → ∃ t, exec (.splitDeferral group) s = .next t ∧
      t = { s with groups := t.groups
                   winReqs := s.winReqs.filter fun q => !(q.group == group && q.use == .await i) } ∧
      (t.grp group).splits = (s.grp group).splits.set i d.revived ∧
      (t.grp group).deferred = rest ++ [(s.spl { group := group, split := i }).toDeferred (s.grp group).seq] ∧
      (t.grp group).regs = (s.grp group).regs ∧ (d.st = .ready → d.revived.st = .ready ∧ d.revived.pc = d.pc) ∧
      d.revived.mask = d.mask ∧ d.revived.s = d.s ∧ d.revived.c = d.c)
/-- R156 to R158: merging of two READY splits (replay masks and VACQ places as log 30 has them), and the exchange with the deferred list. -/
def Obligations.SplitsMergeAndDefer : Prop := SplitsMergeClaim ∧ DeferralExchangesClaim
/-- R55, R382, R393: an unassigned opcode traps ILLEGAL_OPCODE; a pending asynchronous cause of a context that is active on its core enters
the handler of the split that holds its lane, and leaves a resume mark where the split waited; of a context that is not active it stays pending.
That the trap reports the mask of the split that takes it is the model's reading (DEDUCED, log 27; R379 speaks of the lanes that caused it). -/
def Obligations.IllegalOpcodeAndAsyncTraps : Prop :=
  (∀ (w : Word) (s : State), s.curOk = true → CanTrap s → ∃ t, exec (.illegalOpcode w) s = .next t ∧ Enters s t (s.causeOf 0x01)) ∧
  ∀ (group i : Nat) (s : State) (a : AsyncCause), (s.grp group).async = [a] → (s.grp group).asyncTarget a = some i →
    (s.grp group).live? = true → (s.grp group).asyncReady i = true → (s.ctx (s.grp group).who.ctx).trapBase ≠ 0 →
    let u : State := { s with cur := { group := group, split := i } }
    ((s.core (s.grp group).coreIx).active = (s.grp group).who.cslot →
      ∃ t, exec (.asyncTrapDelivery group) s = .next t ∧ (t.grp group).async = [] ∧ t.cur = s.cur ∧
        Enters u { t with cur := u.cur } (asyncCause u a)) ∧
    ((s.core (s.grp group).coreIx).active ≠ (s.grp group).who.cslot → exec (.asyncTrapDelivery group) s = .next s)
/-- R385, R387, R434: the service of the oldest unanswered record of a parked split whose turn it is: with a free frame an absent page becomes
resident with its backed bytes and poison marks and the record is resolved; a line that the mapping does not allow for what its request does (an
atomic reads and writes) is refused; nothing else changes. -/
def Sys2Proof.Machine.PageFaultIsServedClaim : Prop :=
  ∀ (who : SplitRef) (s : State) (p : Parked) (f : FaultRec), (s.spl who).parked = some p → p.acc.rkind ≠ 6 →
    s.openRecord who = some (p, f) → s.servedNext who = true →
    let c := (s.grp who.group).who.ctx
    let wants (w : Want) : Prop := (w = .r ∧ f.read = true) ∨ (w = .w ∧ f.write = true)
    let page := f.line / 65536
    (f.read = true ∨ f.write = true) →
    (∀ (fr : Nat) (u : State), (∀ w, wants w → s.xlate c f.line w = .absent) → s.takeFrames 1 false = some (fr, u) →
      Memory.wf (s.ctx c).backing = true →
      ∃ t, exec (.pageFaultService who.group who.split) s = .next t ∧
        (∀ w, wants w → t.xlate c f.line w = .ok (fr * 65536 + f.line % 65536)) ∧
        (t.spl who).parked = some (p.answer f.line false) ∧ (∀ r, r ≠ who → t.spl r = s.spl r) ∧ t.ws = s.ws ∧
        t.dev = { u.dev with servedCtx := c, poison := t.dev.poison } ∧
        (∀ q, q ∈ t.dev.poison ↔
          if q / 1024 = fr then page * 1024 + q % 1024 ∈ (s.ctx c).backPoison else q ∈ s.dev.poison) ∧
        (∀ i, i < 65536 → getB t.mem (fr * 65536 + i) = getB (s.ctx c).backing (page * 65536 + i)) ∧
        ∀ a, a / 65536 ≠ fr → getB t.mem a = getB s.mem a) ∧
    ((f.read = true ∧ s.xlate c f.line .r = .refused) ∨
        (f.write = true ∧ (f.read = true → ∃ q, s.xlate c f.line .r = .ok q) ∧
          (s.xlate c f.line .w = .refused ∨ s.xlate c f.line .w = .readOnly)) →
      ∃ t, exec (.pageFaultService who.group who.split) s = .next t ∧
        SplitTo who { s with dev := { s.dev with servedCtx := c } } t { s.spl who with parked := some (p.answer f.line true) })
/-- An access has parked its split at the instruction (R385, R386): the lanes that are left wait with one fault record for each of their lines, the
others have acted, with their results and flags written, and outside trap mode, where an entry is FREE, form a split of their own past the
instruction; the access counts. -/
def Sys2Proof.Machine.Parks (s t : State) (acc : Access) (v : Served) (rest : List LaneReq) (em oob : Mask) : Prop :=
  let fin := em &&& ~~~reqMask rest
  let divides := acc.scalar = false ∧ fin ≠ 0 ∧ (s.my).trap = false
  (t.my).st = .parked ∧ (t.my).pc = (s.my).pc ∧ (t.my).ctr acc.ctr = (s.my).ctr acc.ctr + 1 ∧
    (∃ p, (t.my).parked = some p ∧ p.acc.lanes = rest ∧ p.faults.map (fun f => f.line) = reqLines rest ∧
      ∀ f ∈ p.faults, f.resolved = false ∧ f.refused = false ∧ f.write = !acc.kind.isLoad ∧
        f.read = (acc.kind.isLoad || acc.kind.isAtom)) ∧
    t.mem = v.s.mem ∧ t.cores = v.s.cores ∧ t.clusters = v.s.clusters ∧
    (t.me).regs.flags = (s.me).regs.flags ||| (v.fl ||| flIf (decide (oob ≠ 0)) flOOB) ∧
    LanesWritten s.me t.me (acc.vwrites (v.done ++ (lanesOf oob).map fun l => (l, 0))) ∧
    (divides → ∀ i, (s.me).freeEntry = some i → (t.my).mask = (s.my).mask &&& ~~~fin ∧
      t.spl { group := s.cur.group, split := i } = childOf s.my fin ((s.my).pc + BitVec.ofNat 56 (4 * acc.len))) ∧
    (¬ divides ∨ (s.me).freeEntry = none → (t.my).mask = (s.my).mask)
/-- R210, R211, R385, R386: a memory instruction some of whose lines do not translate parks its split. -/
def Sys2Proof.Machine.AbsentPagesParkClaim : Prop :=
  (∀ e ∈ vecMemRows, ∀ (o : EMem) (s : State) (r : BufRec) (reqs : List LaneReq) (oob : Mask), Runs (toIWord (e.1 o)) s →
    let k := e.2.1 o
    let w := if e.2.2.2 then 64 else 2 ^ o.width.toNat
    let acc : Access := { memAccess o k r.kind w with lanes := reqs }
    e.2.2.1 = false → (s.my).ctr acc.ctr < 63 → s.mmask o ≠ 0 → s.memRec o = (s, r, none) → Plain false r k → r.kind ≠ 6 →
    (e.2.2.2 = true → r.linear = true) →
    checkLanes r w (sextN 24 o.off.toNat) none ((s.me).cands o k r w (s.mmask o)) = .ok reqs oob →
    let v := s.serve s.cur.group acc
    let rest := reqs.filter fun q => (v.pend ++ v.refused).contains q
    v.poison = 0 → v.pend ++ v.refused ≠ [] → s.recordsFree (reqLines rest) = true →
    ∃ t, exec (e.1 o) s = .next t ∧ Parks s t acc v rest (s.mmask o) oob) ∧
  ∀ e ∈ scalarMemRows, ∀ (o : S64) (s : State) (r : BufRec) (reqs : List LaneReq) (oob : Mask), Runs (toIWord (e.1 o)) s →
    let k := e.2.1 o
    let acc : Access := { scalarAccess o k r.kind with lanes := reqs }
    e.2.2 = false → s.recAt o.sa.toNat = (r, none) → Plain false r k → r.kind ≠ 6 → (s.my).ctr acc.ctr < 63 →
    checkLanes r acc.width 0 none
      [{ lane := 0, i := (s.srcB o).toNat, data := if k.isLoad then 0 else s.scalarData o.sc.toNat acc.width,
         cmp := if k = .atom 0xA then s.scalarData o.sd.toNat acc.width else 0 }] = .ok reqs oob →
    let v := s.serve s.cur.group acc
    v.poison = 0 → v.pend ++ v.refused ≠ [] → s.recordsFree (reqLines reqs) = true →
    ∃ t, exec (e.1 o) s = .next t ∧ Parks s t acc v reqs (s.my).mask oob
/-- R386: once every record is resolved, the replay of a parked access whose lines all translate performs the remaining lanes, writes
what they return, lowers the counter and leaves the split READY past the instruction. -/
def Sys2Proof.Machine.ReplayResumesClaim : Prop :=
  ∀ (who : SplitRef) (s : State) (p : Parked) (op : PendOp), (s.spl who).parked = some p → (s.spl who).st = .parked → s.cur = who →
    p.acc.rkind ≤ 2 → p.acc.lanes ≠ [] → p.acc.scalar = false → (∀ q ∈ p.acc.lanes, q.lane < 32) →
    (∀ f ∈ p.faults, f.resolved = true ∧ f.refused = false) → s.findOp who.group p.op = some op → op.holders = [who.split] →
    op.vwrites = [] → op.swrites = [] → (s.ctx (s.grp who.group).who.ctx).drawer ≠ some who →
    let v := s.serve who.group p.acc
    v.poison = 0 → v.pend = [] → v.refused = [] →
    ∃ t, exec (.replay who) s = .next t ∧ (t.spl who).st = .ready ∧ (t.spl who).parked = none ∧
      (t.spl who).pc = (s.spl who).pc + 12 ∧ (t.spl who).mask = (s.spl who).mask ∧
      (t.spl who).ctr op.ctr = (s.spl who).ctr op.ctr - 1 ∧ t.mem = v.s.mem ∧ t.cores = v.s.cores ∧
      LanesWritten (s.grp who.group) (t.grp who.group) (p.acc.vwrites v.done) ∧ ∀ r, r ≠ who → t.spl r = s.spl r
/-- R210, R385 to R388: an absent page parks the split, the fault is served, and the parked instruction is replayed. -/
def Obligations.PageFaultsAreServed : Prop := AbsentPagesParkClaim ∧ PageFaultIsServedClaim ∧ ReplayResumesClaim
/-- R213 to R215: the eviction of bytes of an L1 sector. Where none of them is dirty they are only dropped; where one is, the sector's dirty
bytes are first put into the cluster cache, which changes there in those bytes alone. A sector of a line that `.keep` protects stays. -/
def Sys2Proof.Machine.EvictionFromL1Claim : Prop :=
  ∀ (core k : Nat) (bytes : BitVec 64) (s : State), core < s.cores.length → core / 4 < s.clusters.length →
    ((s.core core).protects k = true → exec (.cacheEviction (.l1 bytes) core k) s = .next s) ∧
    ((s.core core).protects k = false → cacheWays (s.cl (core / 4)) = true →
      let x := s.l1At core k
      let y := s.ccAt (core / 4) k
      ∃ t, exec (.cacheEviction (.l1 bytes) core k) s = .next t ∧ t.mem = s.mem ∧ t.groups = s.groups ∧
        (t.l1At core k).valid = x.valid &&& ~~~bytes ∧ (x.valid &&& ~~~bytes = 0 → t.l1At core k = noSector) ∧
        (x.valid &&& ~~~bytes ≠ 0 → (t.l1At core k).data = x.data) ∧
        (∀ c q, c ≠ core ∨ q ≠ k → t.l1At c q = s.l1At c q) ∧ (∀ c q, c ≠ core / 4 ∨ q ≠ k → t.ccAt c q = s.ccAt c q) ∧
        (x.dirty &&& bytes = 0 → t.ccAt (core / 4) k = y ∧ (x.valid &&& ~~~bytes ≠ 0 → (t.l1At core k).dirty = x.dirty)) ∧
        (x.dirty &&& bytes ≠ 0 → (t.l1At core k).dirty = 0 ∧ (t.ccAt (core / 4) k).valid = y.valid ||| x.dirty ∧
          (t.ccAt (core / 4) k).dirty = y.dirty ||| x.dirty ∧
          ∀ i, i < 64 → sectorBytes (t.ccAt (core / 4) k).data i 1 =
            if x.dirty.getLsbD i then sectorBytes x.data i 1 else sectorBytes y.data i 1))
/-- R217, R229: the eviction of bytes of a cluster-cache sector, of which a dirty one first takes the sector's dirty bytes to the home slice
and changes no other byte of the home memory; a sector of a sampler cache is only dropped. -/
def Sys2Proof.Machine.EvictionBelowL1Claim : Prop :=
  (∀ (cl k : Nat) (bytes : BitVec 64) (s : State), cl < s.clusters.length → (s.ccAt cl k).dirty &&& bytes = 0 →
    ∃ t, exec (.cacheEviction (.cluster bytes) cl k) s = .next t ∧ t = { s with clusters := t.clusters } ∧
      (t.ccAt cl k).valid = (s.ccAt cl k).valid &&& ~~~bytes ∧ ∀ c q, c ≠ cl ∨ q ≠ k → t.ccAt c q = s.ccAt c q) ∧
  (∀ (cl c va : Nat) (bytes : BitVec 64) (s u : State), cl < s.clusters.length → c < 2 ^ 40 → c < s.ctxs.length → va < 2 ^ 56 →
    va % 64 = 0 → (s.ccAt cl (vkey c va)).dirty &&& bytes ≠ 0 → s.flushCC cl (vkey c va) = (u, true) →
    let x := s.ccAt cl (vkey c va)
    ∃ t, exec (.cacheEviction (.cluster bytes) cl (vkey c va)) s = .next t ∧ t.groups = s.groups ∧ t.cores = s.cores ∧
      (t.ccAt cl (vkey c va)).valid = x.valid &&& ~~~bytes ∧ (t.ccAt cl (vkey c va)).dirty = 0 ∧
      (∀ d q, d ≠ cl ∨ q ≠ vkey c va → t.ccAt d q = s.ccAt d q) ∧
      (∀ i, i < 64 → x.dirty.getLsbD i = true → sectorBytes (t.homeSector (vkey c va)).1 i 1 = sectorBytes x.data i 1) ∧
      ∀ p, s.xlate c va .w = .ok p → ∀ a, (∀ i, i < 64 → x.dirty.getLsbD i = true → a ≠ p + i) → getB t.mem a = getB s.mem a) ∧
  ∀ (core k : Nat) (s : State), core < s.cores.length → ∃ t, exec (.cacheEviction .sampler core k) s = .next t ∧
    sget noSector (t.core core).scache k = noSector ∧ t = { s with cores := t.cores } ∧
    ∀ q, q ≠ k → sget noSector (t.core core).scache q = sget noSector (s.core core).scache q
/-- R213 to R217, R229: evictions from the caches. -/
def Obligations.EvictionWritesBack : Prop := EvictionFromL1Claim ∧ EvictionBelowL1Claim

namespace Sys2Proof.Machine

/-! ## Texture (R322 to R326) -/

/-- A counted operation has been issued from a state u: the PC is past the instruction, the operation's counter is up by 1, the
operation waits as the group's last; registers, home memory, tiles and the other splits are as in u. -/
def IssuesOp (u t : State) (len : Nat) (p : PendOp) : Prop :=
  t.cur = u.cur ∧ (t.my).pc = (u.my).pc + BitVec.ofNat 56 (4 * len) ∧ (t.my).ctr p.ctr = (u.my).ctr p.ctr + 1 ∧
    (t.me).regs = (u.me).regs ∧ t.mem = u.mem ∧ (∀ r, r ≠ u.cur → t.spl r = u.spl r) ∧
    (t.me).ops = (u.me).ops ++ [{ p with id := u.nextId, holders := [u.cur.split] }]
/-- What each lane of TSAMPLE or TGATHER4 asks for: its entry, its coordinates and its two free values (log 17). -/
def State.filterAsks (s : State) (o : EEng) (n : Nat) (lanes : List Nat) (ents : List (Nat × TexEntry)) : List (Nat × List Word) :=
  lanes.map fun l => (l, laneFilter (entryOf ents l) (s.texCoords o l ++
    [BitVec.ofNat 32 (Config.freeNat (n + 2 * l)), BitVec.ofNat 32 (Config.freeNat (n + (2 * l + 1)))]))
/-- The lanes of TFETCH on buffer entries, with their records and their x. -/
def State.fetchWords (s : State) (o : EEng) (em : Mask) (ents : List (Nat × TexEntry)) : List FetchWord :=
  ((lanesOf em).filter fun l => entryKind (entryOf ents l) == .buffer).map fun l =>
    { lane := l, r := (parseRec ((entryOf ents l).take 4)).1, x := ((s.me).readV o.va.toNat l).toNat }
/-- Every lane's entry is a texture or null. -/
def TexturesOrNull (ents : List (Nat × TexEntry)) : Prop := ∀ x ∈ ents, entryKind x.2.1 = .texture ∨ entryKind x.2.1 = .null

end Sys2Proof.Machine

/-- R276, R323 to R326: a texture instruction whose entries resolve and whose lines translate without poison is counted on XC and moves
on. TSAMPLE and TGATHER4 filter the texels of each lane; TFETCH gives the texel of each lane inside its level and zeros elsewhere, with
OOB; TQUERY gives the size of a level; TREC gives the entry's eight words; a null entry gives zeros, with OOB. -/
def Obligations.TextureInstructionsComplete : Prop :=
  (∀ (o : EEng) (s u : State) (ents : List (Nat × TexEntry)) (gather : Bool),
    let op := if gather then 0x12 else 0x10
    Runs (.eng op o) s → (s.my).xc < 63 → s.execMask o.pe o.pi.toNat o.pn ≠ 0 →
    s.texEntries (s.execMask o.pe o.pi.toNat o.pn) (s.texIndex o) = (u, ents, none) → TexturesOrNull ents →
    let em := s.execMask o.pe o.pi.toNat o.pn
    let nulls := nullLanes ents
    let w : State := { u with fresh := u.fresh + 64 }
    let v := w.texServe u.cur.group (texReq op o) (u.filterAsks o u.fresh ((lanesOf em).filter fun l => !nulls.contains l) ents)
    v.poison = 0 → v.pend = [] → v.refused = [] →
    ∃ t, exec (if gather then .tgather4 o else .tsample o) s = .next t ∧ IssuesOp v.s t 3
      (w.texOp .texture (texReq op o) o.d.toNat em (nulls.map (fun l => (l, [0, 0, 0, 0])) ++ v.done)
        (flIf (!nulls.isEmpty) flOOB) [])) ∧
  (∀ (o : EEng) (s u w : State) (ents : List (Nat × TexEntry)) (asks : List (Nat × List Word)), Runs (.eng 0x11 o) s → (s.my).xc < 63 →
    s.execMask o.pe o.pi.toNat o.pn ≠ 0 → s.texEntries (s.execMask o.pe o.pi.toNat o.pn) (s.texIndex o) = (u, ents, none) →
    u.texReject ents true = none →
    let em := s.execMask o.pe o.pi.toNat o.pn
    let tex (l : Nat) : Option (List Word) := fetchTexel (texReq 0x11 o) (entryOf ents l) (u.texCoords o l)
    let lanes := (lanesOf em).filter fun l => entryKind (entryOf ents l) == .texture
    let words := u.fetchWords o em ents
    (∀ l, l < 32 → inMask em l = true → entryKind (entryOf ents l) = .buffer → (parseRec ((entryOf ents l).take 4)).2 ≠ some 0x13) →
    (∀ code m, fetchChecks words = some (code, m) → CanTrap u → u.cur = s.cur →
      ∃ t, exec (.tfetch o) s = .next t ∧ Enters u t { u.causeOf code with mask := m }) ∧
    (fetchChecks words = none → u.fetchMap (words.filter (·.inside)) = (w, .ok asks) →
      (∀ x ∈ asks, wordAt x.2 3 ≠ 3 ∧ wordAt x.2 3 ≠ 4 ∧ (laneWs x.2 = true → w.dev.wsLoad = false)) →
      let zero := nullLanes ents ++ lanes.filter (fun l => (tex l).isNone) ++ (words.filter fun f => !f.inside).map (·.lane)
      let all := lanes.filterMap (fun l => (tex l).map fun a => (l, a)) ++ asks
      let v := w.texServe w.cur.group (texReq 0x11 o) all
      v.poison = 0 → v.pend = [] → v.refused = [] → ∃ t, exec (.tfetch o) s = .next t ∧ IssuesOp v.s t 3
        { w.texOp .texture (texReq 0x11 o) o.d.toNat em (zero.map (fun l => (l, [0, 0, 0, 0])) ++ v.done) (flIf (!zero.isEmpty) flOOB) [] with
          acc := wsLanes all })) ∧
  (∀ (o : EEng) (s u : State) (ents : List (Nat × TexEntry)), Runs (.eng 0x13 o) s → (s.my).xc < 63 →
    s.execMask o.pe o.pi.toNat o.pn ≠ 0 → s.texEntries (s.execMask o.pe o.pi.toNat o.pn) (s.texIndex o) = (u, ents, none) →
    TexturesOrNull ents →
    let em := s.execMask o.pe o.pi.toNat o.pn
    let m := (u.one o.sb.toNat).toInt
    let size (e : List Word) : List Word :=
      if entryKind e = .null ∨ m < 0 ∨ texLevels e < m then [0, 0, 0, 0]
      else [BitVec.ofNat 32 (max 1 ((wfield (wordAt e 2) 15 0 + 1) / 2 ^ m.toNat)),
            BitVec.ofNat 32 (max 1 ((wfield (wordAt e 2) 31 16 + 1) / 2 ^ m.toNat)),
            BitVec.ofNat 32 (wfield (wordAt e 3) 11 0 + 1), BitVec.ofNat 32 (wfield (wordAt e 3) 15 12 + 1)]
    (∀ l, l < 32 → inMask em l = true → entryKind (entryOf ents l) = .texture ∨ entryKind (entryOf ents l) = .null) →
    ∃ t, exec (.tquery o) s = .next t ∧ IssuesOp u t 3
      (u.texOp .texture (texReq 0x13 o) o.d.toNat em ((lanesOf em).map fun l => (l, size (entryOf ents l)))
        (flIf (!(nullLanes ents).isEmpty) flOOB) [])) ∧
  ∀ (o : EEng) (s u : State) (e : List Word), Runs (.eng 0x14 o) s → (s.my).xc < 63 →
    s.heapEntry (s.one o.sa.toNat).toNat = (u, e, none) →
    let null := wfield (wordAt e 7) 31 28 = 0
    ∃ t p, exec (.trec o) s = .next t ∧ IssuesOp u t 3 p ∧ p.kind = .texture ∧ p.ctr = .xc ∧ p.vwrites = [] ∧
      p.swrites = (List.range 8).map (fun k => (o.sb.toNat + k, if null then 0 else wordAt e k)) ∧
      p.flags = flIf (decide null) flOOB

namespace Sys2Proof.Machine

/-! ## The matrix engine (R277 to R299) -/

/-- A matrix command has been accepted: it is the last of the queue of the issuing cluster, a writer has raised TV by 1 modulo 2^16, its tile
is marked as having accepted a command in this cycle, and nothing else of the clusters, no register and no byte has changed. -/
def AcceptsMatrix (s t : State) (m : MatCmd) (writer : Bool) : Prop :=
  (t.my).pc = (s.my).pc + 12 ∧ (t.me).regs = (s.me).regs ∧ t.mem = s.mem ∧ t.cores = s.cores ∧
    (∀ r, r ≠ s.cur → t.spl r = s.spl r) ∧ (∀ k, k ≠ s.curCluster → t.cl k = s.cl k) ∧
    t.cl s.curCluster = { s.cl s.curCluster with
      matq := (s.cl s.curCluster).matq ++ [{ m with op := s.nextId }]
      tiles := (s.cl s.curCluster).tiles.set m.tile
        { s.tile s.curCluster m.tile with
          tv := if writer then ((s.tile s.curCluster m.tile).tv + 1) % 65536 else (s.tile s.curCluster m.tile).tv
          acceptAt := s.dev.cycle + 1 } }
/-- The version of a command's sequence word is the one that its tile takes next, the tile has accepted no command in this cycle, and the
queue has room (R279, R280). -/
abbrev SequenceMatches (s : State) (o : EEng) (tile : Nat) : Prop :=
  wfield (s.one o.sc.toNat) 31 16 = (s.tile s.curCluster tile).tv ∧ (s.tile s.curCluster tile).acceptAt ≠ s.dev.cycle + 1 ∧
    (s.cl s.curCluster).matq.length < 32 ∧
    tile < (s.cl s.curCluster).tiles.length ∧ s.curCluster < s.clusters.length
/-- No store or scalar access of the issuing split is outstanding. -/
abbrev StoresDone (s : State) : Prop := (s.my).vsc = 0 ∧ (s.my).smc = 0
/-- An operand of an MMA that lies in the scratchpad, read whole. -/
def scratchOperand (s : State) (k : Nat) (m : MatCmd) (type : Nat) (w : Word) (dir loc scl : Nat) : MatOperand :=
  let base := (s.blk m.block).scrOff * 4096
  { type := type, fmt := FmtWord.ofWord w, dir := dir, data := getBs (s.cl k).sram (base + loc * 4096) (operandBytes type w (fblockK m.fmt)),
    scales := getBs (s.cl k).sram (base + scl * 64) (scaleArray type w (fblockK m.fmt)) }
/-- The operands of an MMA lie within the scratchpad, or A within the weight store and the context's grant (R287, R288, R225). -/
def State.mmaPlaced (s : State) (o : EEng) (f : List Word) : Prop :=
  s.mmaInside f (nbit o.sub.toNat 2) (s.one o.sa.toNat).toNat (wfield (s.one o.sc.toNat) 15 0) = true ∧
    (nbit o.sub.toNat 2 = true → s.mmaGap f (s.one o.sa.toNat).toNat = none)
/-- The type of an MST is defined, its format word valid and unscaled, its payload placed, and its completion word within the scratchpad (R295). -/
def State.mstPlaced (s : State) (o : EEng) (a : Nat) : Prop :=
  let w := s.one o.sb.toNat
  s.tilePlace o (nbit o.sub.toNat 4) true (mstBytes (eSub o 2 0) w) = .ok a ∧
    (eSub o 2 0 = 4 → fmtValid w = true ∧ (FmtWord.ofWord w).blk = 0) ∧
    (nbit o.sub.toNat 5 = true → s.inScratch (wfield (s.one o.sc.toNat) 15 0 * 64) 4 = true)
/-- The payload of an MLD is placed, and its anchor in range (R296). -/
def State.mldPlaced (s : State) (o : EEng) (p : Nat) : Prop :=
  s.tilePlace o (nbit o.sub.toNat 2) false (if nbit o.sub.toNat 0 then 98304 else 16384) = .ok p ∧
    (nbit o.sub.toNat 3 = true → -1024 ≤ (s.one o.sb.toNat).toInt ∧ (s.one o.sb.toNat).toInt ≤ 1023)
/-- The commands with a sequence word: opcode, tile, lanes that a trap reports, and what must hold before the version is looked at (R291). -/
def matrixRows : List ((EEng → Instr) × Nat × (EEng → Nat) × (EEng → State → Mask) × (EEng → State → Prop)) :=
  let whole (_ : EEng) (s : State) : Mask := (s.my).mask
  let d (o : EEng) : Nat := o.d.toNat
  [(.mma, 0x20, d, whole, fun o s => let f := s.readSs s.cur o.sb.toNat 4; fblockOk f = true ∧ s.mmaPlaced o f ∧ (s.my).vsc = 0 ∧ (s.my).smc = 0),
   (.mzero, 0x21, d, whole, fun o s => if nbit o.sub.toNat 0 then fblockOk (s.readSs s.cur o.sb.toNat 4) = true
      else -1024 ≤ (s.one o.sb.toNat).toInt ∧ (s.one o.sb.toNat).toInt ≤ 1023),
   (.mrd, 0x22, fun o => eImm o 5 3, fun o s => s.execMask o.pe o.pi.toNat o.pn, fun o s =>
      eImm o 2 0 ≠ 7 ∧ (s.my).vmc < 63 ∧ s.execMask o.pe o.pi.toNat o.pn ≠ 0),
   (.mst, 0x23, d, whole, fun o s => (∃ a, s.mstPlaced o a) ∧ (s.my).vsc = 0 ∧ (s.my).smc = 0),
   (.mld, 0x24, d, whole, fun o s => (∃ p, s.mldPlaced o p) ∧ (s.my).vsc = 0 ∧ (s.my).smc = 0)]
/-- A tile as a writer leaves it, but for its elements: versions (R281). -/
def VersionDone (s t : State) (k : Nat) (m : MatCmd) : Prop :=
  (t.tile k m.tile).ver = (m.e + 1) % 65536 ∧ (t.tile k m.tile).tv = (s.tile k m.tile).tv ∧
    (t.tile k m.tile).owner = (s.tile k m.tile).owner ∧ (t.cl k).matq = ((s.cl k).matq).drop 1 ∧
    ∀ n, n ≠ m.tile → t.tile k n = s.tile k n

end Sys2Proof.Machine

/-- R279, R280, R289 to R298: MMA, MZERO, MRD, MST and MLD whose checks pass and whose sequence word matches are accepted; MVER returns
TV or the status word; MWAIT moves on once the version is reached and holds before. A command ahead of its version, of a tile that has accepted
one in this cycle or of a full queue is held; one behind it traps ENGINE_FAULT, and one of another context's tile PROTECTION. -/
def Obligations.MatrixCommandsAreAccepted : Prop :=
  (∀ (o : EEng) (s : State), Runs (.eng 0x20 o) s → let f := s.readSs s.cur o.sb.toNat 4
    s.ownsTile o.d.toNat = true → fblockOk f = true → s.mmaPlaced o f → StoresDone s →
    SequenceMatches s o o.d.toNat →
    ∃ t, exec (.mma o) s = .next t ∧
      AcceptsMatrix s t { s.matCmd .mma o.d.toNat o with fmt := f, locA := (s.one o.sa.toNat).toNat } true ∧ (t.me).ops = (s.me).ops) ∧
  (∀ (o : EEng) (s : State), Runs (.eng 0x21 o) s → s.ownsTile o.d.toNat = true → SequenceMatches s o o.d.toNat →
    let a := (s.one o.sb.toNat).toInt
    let f := s.readSs s.cur o.sb.toNat 4
    (nbit o.sub.toNat 0 = false → -1024 ≤ a → a ≤ 1023 → ∃ t, exec (.mzero o) s = .next t ∧
      AcceptsMatrix s t { s.matCmd .mzero o.d.toNat o with anchor := some a } true) ∧
    (nbit o.sub.toNat 0 = true → fblockOk f = true → ∃ t, exec (.mzero o) s = .next t ∧
      AcceptsMatrix s t { s.matCmd .mzero o.d.toNat o with anchor := some (fblockAnchor f) } true)) ∧
  (∀ (o : EEng) (s : State), Runs (.eng 0x22 o) s → let tile := eImm o 5 3
    s.ownsTile tile = true → eImm o 2 0 ≠ 7 → s.execMask o.pe o.pi.toNat o.pn ≠ 0 → (s.my).vmc < 63 → SequenceMatches s o tile →
    ∃ t, exec (.mrd o) s = .next t ∧ (t.my).vmc = (s.my).vmc + 1 ∧
      (t.cl s.curCluster).matq = (s.cl s.curCluster).matq ++
        [{ s.matCmd .mrd tile o with
            lanes := s.execMask o.pe o.pi.toNat o.pn, vd := o.d.toNat, index := (s.one o.sa.toNat).toNat % 128,
            mode := if eImm o 2 0 = 0 then (s.me).mode else eImm o 2 0, op := s.nextId }] ∧
      (t.my).pc = (s.my).pc + 12 ∧ (t.me).regs = (s.me).regs ∧ t.mem = s.mem ∧
      ∀ n, t.tile s.curCluster n =
        if n = tile then { s.tile s.curCluster n with acceptAt := s.dev.cycle + 1 } else s.tile s.curCluster n) ∧
  (∀ e ∈ matrixRows, ∀ (o : EEng) (s : State), Runs (.eng e.2.1 o) s → s.ownsTile (e.2.2.1 o) = true → e.2.2.2.2 o s →
    let x := s.tile s.curCluster (e.2.2.1 o)
    let d := (BitVec.ofNat 16 (wfield (s.one o.sc.toNat) 31 16) - BitVec.ofNat 16 x.tv).toNat
    x.tv < 65536 →
    (x.acceptAt = s.dev.cycle + 1 ∨ (0 < d ∧ d < 2 ^ 15) ∨ (d = 0 ∧ 32 ≤ (s.cl s.curCluster).matq.length) →
      ∃ t, exec (e.1 o) s = .next t ∧ HeldAtIssue s t) ∧
    (x.acceptAt ≠ s.dev.cycle + 1 → 2 ^ 15 ≤ d → CanTrap s → ∃ t, exec (e.1 o) s = .next t ∧
      Enters s t { s.causeOf 0x1A with mask := e.2.2.2.1 o s, addr := BitVec.ofNat 56 (x.tv + e.2.2.1 o * 65536) })) ∧
  (∀ e ∈ matrixRows, ∀ (o : EEng) (s : State), Runs (.eng e.2.1 o) s → s.ownsTile (e.2.2.1 o) = false → CanTrap s →
    ∃ t, exec (e.1 o) s = .next t ∧ Enters s t { s.causeOf 0x11 with addr := BitVec.ofNat 56 (e.2.2.1 o) }) ∧
  (∀ (o : EEng) (s : State) (a : Nat), Runs (.eng 0x23 o) s → s.ownsTile o.d.toNat = true → s.mstPlaced o a → StoresDone s →
    SequenceMatches s o o.d.toNat →
    ∃ t, exec (.mst o) s = .next t ∧
      AcceptsMatrix s t { s.matCmd .mst o.d.toNat o with
        addr := a, fmt := [s.one o.sb.toNat]
        cw := if nbit o.sub.toNat 5 then some (wfield (s.one o.sc.toNat) 15 0 * 64, o.imm) else none } false) ∧
  (∀ (o : EEng) (s : State) (p : Nat), Runs (.eng 0x24 o) s → s.ownsTile o.d.toNat = true → s.mldPlaced o p → StoresDone s →
    SequenceMatches s o o.d.toNat →
    ∃ t, exec (.mld o) s = .next t ∧ AcceptsMatrix s t { s.matCmd .mld o.d.toNat o with
      addr := p, anchor := if nbit o.sub.toNat 3 then some (s.one o.sb.toNat).toInt else none } true) ∧
  (∀ (o : EEng) (s : State), Runs (.eng 0x25 o) s → s.ownsTile o.d.toNat = true →
    let x := s.tile s.curCluster o.d.toNat
    x.ver < 65536 → x.tv < 65536 → -1024 ≤ x.anchor → x.anchor ≤ 1023 →
    ∃ w : Word, exec (.mver o) s = .next ((s.writeS s.cur o.sb.toNat w).advance 3) ∧
      (nbit o.sub.toNat 0 = true → w.toNat = x.tv) ∧
      (nbit o.sub.toNat 0 = false → wfield w 15 0 = x.ver ∧ (w.extractLsb' 16 11).toInt = x.anchor ∧ w.getLsbD 27 = x.nv ∧
        w.getLsbD 28 = x.loss ∧ w.getLsbD 29 = x.ovf ∧ w.getLsbD 30 = x.fault ∧
        (w.getLsbD 31 = true ↔ x.tv = x.ver ∧
          ∀ m ∈ (s.cl s.curCluster).matq, m.tile = o.d.toNat → m.kind ≠ .mst ∧ m.kind ≠ .mrd))) ∧
  ∀ (o : EEng) (s : State), Runs (.eng 0x26 o) s → s.ownsTile o.d.toNat = true →
    let d : BitVec 16 := BitVec.ofNat 16 (wfield (s.one o.sc.toNat) 31 16) - BitVec.ofNat 16 (s.tile s.curCluster o.d.toNat).ver
    (s.tile s.curCluster o.d.toNat).ver < 65536 →
    ((d.toNat = 0 ∨ 2 ^ 15 ≤ d.toNat) → exec (.mwait o) s = .next (s.advance 3)) ∧
    (0 < d.toNat → d.toNat < 2 ^ 15 → ∃ t, exec (.mwait o) s = .next t ∧ HeldAtIssue s t)
/-- R281, R292 to R296: the completion of the first command of a matrix queue. MZERO clears the tile at its anchor; MMA adds to each
element the products of its row and column; MRD gives each lane its element; MST writes the payload; MLD loads the elements. -/
def Obligations.MatrixCommandsPerform : Prop :=
  (∀ (k : Nat) (s : State) (m : MatCmd) (rest : List MatCmd) (a : Int), k < s.clusters.length → m.tile < (s.cl k).tiles.length →
    (s.cl k).matq = m :: rest → s.mustWait m.ctx = false → m.kind = .mzero → m.anchor = some a →
    ∃ t, exec (.matrixCommandCompletion k 0) s = .next t ∧ VersionDone s t k m ∧ (t.tile k m.tile).anchor = a ∧
      (∀ n, (t.tile k m.tile).elem n = 0) ∧ (t.tile k m.tile).nv = false ∧ (t.tile k m.tile).loss = false ∧
      (t.tile k m.tile).ovf = false ∧ (t.tile k m.tile).fault = false ∧ t.mem = s.mem) ∧
  (∀ (k : Nat) (s : State) (m : MatCmd) (rest : List MatCmd), k < s.clusters.length → m.tile < (s.cl k).tiles.length →
    (s.cl k).matq = m :: rest → s.mustWait m.ctx = false → m.kind = .mma → (s.cl k).spoison = [] →
    let stored := scratchOperand s k m (fblockA m.fmt) (wordAt m.fmt 0) (m.sub % 2) m.locA (wfield (wordAt m.fmt 3) 15 0)
    let n := operandBytes (fblockA m.fmt) (wordAt m.fmt 0) (fblockK m.fmt)
    (nbit m.sub 2 = true → s.wsReadable (m.locA * 4096) n = true ∧ s.dev.wsPoison = []) →
    let a := if nbit m.sub 2 then { stored with data := getBs s.ws (m.locA * 4096) n } else stored
    let b := scratchOperand s k m (fblockB m.fmt) (wordAt m.fmt 1) (m.sub / 2 % 2) m.locB (wfield (wordAt m.fmt 3) 31 16)
    let old := s.tile k m.tile
    let anchor := if nbit m.sub 3 then fblockAnchor m.fmt else old.anchor
    ∃ t, exec (.matrixCommandCompletion k 0) s = .next t ∧ VersionDone s t k m ∧ (t.tile k m.tile).anchor = anchor ∧ t.mem = s.mem ∧
      ∀ i j, i < 64 → j < 64 → (t.tile k m.tile).elem (64 * i + j) =
        (accAdd (if nbit m.sub 3 then 0 else old.elem (64 * i + j)) anchor ((List.range (fblockK m.fmt)).map fun q =>
          fmulNan (a.val (fblockK m.fmt) i q) (b.val (fblockK m.fmt) j q))).1) ∧
  (∀ (k : Nat) (s : State) (m : MatCmd) (rest : List MatCmd) (op : PendOp), k < s.clusters.length → (s.cl k).matq = m :: rest → s.mustWait m.ctx = false →
    m.kind = .mrd → m.snapshot = none → (s.grp m.group).live = true → m.group < s.groups.length →
    s.findOp m.group m.op = some op → op.vwrites = [] → op.swrites = [] → (s.tile k m.tile).poison = [] →
    let old := s.tile k m.tile
    let n (l : Nat) : Nat := let e := 32 * (m.index / 64) + l; if nbit m.sub 1 then 64 * e + m.index % 64 else 64 * (m.index % 64) + e
    ∃ t, exec (.matrixCommandCompletion k 0) s = .next t ∧ t.mem = s.mem ∧ (∀ x, t.tile k x = s.tile k x) ∧
      ∀ r l, l < 32 → (t.grp m.group).readV r l = if r = m.vd ∧ inMask m.lanes l = true then
          BitVec.ofNat 32 (accRound (old.elem (n l)) old.anchor (if nbit m.sub 0 then .i32 else .f32) m.mode
            ((s.grp m.group).regs.rng.getD l 0)).bits
        else (s.grp m.group).readV r l) ∧
  (∀ (k : Nat) (s : State) (m : MatCmd) (rest : List MatCmd), k < s.clusters.length → (s.cl k).matq = m :: rest → s.mustWait m.ctx = false → m.kind = .mst →
    m.snapshot = none → (s.tile k m.tile).poison = [] →
    let old := s.tile k m.tile
    let base := (s.blk m.block).scrOff * 4096
    let w := wordAt m.fmt 0
    let type := m.sub % 8
    let elem (e : Nat) : Int := old.elem (if nbit m.sub 3 then 64 * (e % 64) + e / 64 else e)
    let round (f : OutFmt) (e : Nat) : Nat := (accRound (elem e) old.anchor f (if m.mode = 6 then 1 else m.mode) 0).bits
    let n := mstBytes type w
    (nbit m.sub 4 = false → (∀ off v, m.cw = some (off, v) → off + 4 ≤ m.addr ∨ m.addr + n ≤ off) →
      ∃ t, exec (.matrixCommandCompletion k 0) s = .next t ∧ t.mem = s.mem ∧
        let at' (a l : Nat) : Nat := leNat (getBs (t.cl k).sram (base + m.addr + a) l)
        (∀ e, e < 4096 →
          (type = 0 → at' (4 * e) 4 = round .f32 e % 2 ^ 32) ∧ (type = 1 → at' (2 * e) 2 = round .f16 e % 2 ^ 16) ∧
          (type = 2 → at' (2 * e) 2 = round .bf16 e % 2 ^ 16) ∧ (type = 3 → at' (4 * e) 4 = round .i32 e % 2 ^ 32) ∧
          (type = 4 → (FmtWord.ofWord w).slotBits = 8 → at' e 1 = round (.word w) e % 2 ^ 8) ∧
          (type = 4 → (FmtWord.ofWord w).slotBits = 4 → at' (e / 2) 1 / 16 ^ (e % 2) % 16 = round (.word w) e % 16) ∧
          (type = 5 → at' (24 * e) 24 = (BitVec.ofInt 192 (elem e)).toNat)) ∧
        (∀ off v, m.cw = some (off, v) → leNat (getBs (t.cl k).sram (base + off) 4) = v.toNat) ∧
        ∀ x, (x < base + m.addr ∨ base + m.addr + n ≤ x) → (∀ off v, m.cw = some (off, v) → x < base + off ∨ base + off + 4 ≤ x) →
          getB (t.cl k).sram x = getB (s.cl k).sram x) ∧
    ∀ (u : State), nbit m.sub 4 = true →
      (s.matLeave k 0 m).engineWrite m.ctx m.addr (old.payload type w (nbit m.sub 3) m.mode).1 = (u, none) →
      ∃ t, exec (.matrixCommandCompletion k 0) s = .next t ∧ t.mem = u.mem ∧ t.cores = u.cores ∧ ∀ q, t.ccAt k q = u.ccAt k q) ∧
  ∀ (k : Nat) (s u : State) (m : MatCmd) (rest : List MatCmd) (data : List Byte), k < s.clusters.length → m.tile < (s.cl k).tiles.length →
    (s.cl k).matq = m :: rest → s.mustWait m.ctx = false → m.kind = .mld → (s.cl k).spoison = [] →
    let raw := nbit m.sub 0
    let n := if raw then 98304 else 16384
    (if nbit m.sub 2 then (s.matLeave k 0 m).engineRead m.ctx m.addr n
      else (s.matLeave k 0 m, getBs (s.cl k).sram ((s.blk m.block).scrOff * 4096 + m.addr) n, none)) = (u, data, none) →
    u.clusters = (s.matLeave k 0 m).clusters →
    let anchor := m.anchor.getD (s.tile k m.tile).anchor
    ∃ t, exec (.matrixCommandCompletion k 0) s = .next t ∧ VersionDone s t k m ∧ (t.tile k m.tile).anchor = anchor ∧ t.mem = u.mem ∧
      (t.tile k m.tile).poison = [] ∧
      ∀ e, e < 4096 → (t.tile k m.tile).elem (if nbit m.sub 1 then 64 * (e % 64) + e / 64 else e) =
        if raw then (BitVec.ofNat 192 (leNat ((data.drop (24 * e)).take 24))).toInt
        else (loadElem anchor (leNat ((data.drop (4 * e)).take 4))).1

namespace Sys2Proof.Machine

/-! ## The copy engine (R301 to R319) -/

/-- The copy instructions and their opcodes. -/
def copyRows : List ((EEng → Instr) × Nat) :=
  [(.cpy, 0x30), (.cpym, 0x31), (.cpub, 0x32), (.cpenc, 0x33), (.cpdec, 0x34), (.cprem, 0x35)]
/-- A command passes the checks of R306. -/
def CopyPasses (s : State) (m : CopyCmd) (src dst : BufRec) : Prop :=
  parseRec m.src = (src, none) ∧ parseRec m.dst = (dst, none) ∧ (m.opcode = 0x31 → s.ownsTile m.tile = true) ∧
    copyKinds m.opcode m.sub src dst = true ∧ copyGeometry m.opcode m.ctl = true ∧ dst.rdonly = false ∧ dst.kind ≠ 6 ∧
    (m.opcode = 0x31 → fblockOk (m.ctl.take 4) = true) ∧ s.copyInside m src dst = true ∧
    (copyReads m.opcode m.ctl).all src.aligned = true ∧ (copyWrites m.opcode m.ctl).all dst.aligned = true ∧
    (m.opcode = 0x32 → addr56 m.ctl 0 % 16 = 0) ∧ s.copyGap m src = none
/-- The first command of a copy queue, which may be performed, with its two records. -/
def CopyFirst (s : State) (k : Nat) (m : CopyCmd) (src dst : BufRec) : Prop :=
  k < s.clusters.length ∧ (∃ rest, (s.cl k).copyq = m :: rest) ∧ parseRec m.src = (src, none) ∧ parseRec m.dst = (dst, none) ∧
    s.copyReady k 0 m = true
/-- The payload has been read as rows and the outputs made from them have been written, with no line refused: the state is w. -/
def PayloadMoved (s w : State) (k : Nat) (m : CopyCmd) (src dst : BufRec) (rows : List (List Byte)) : Prop :=
  ∃ u, s.payReadAll k m src (copySsp m.opcode m.sub) (copyReads m.opcode m.ctl) = (u, rows, none) ∧
    u.payWrite k m dst (copyDsp m.opcode m.sub) (copyOutputs m.opcode m.ctl rows) = (w, none) ∧ k < w.clusters.length
/-- A command ends in the state w: it leaves the queue, its completion word is written, and nothing else changes. -/
def CopyEnds (w t : State) (k : Nat) (m : CopyCmd) : Prop :=
  (t.cl k).copyq = (w.cl k).copyq.filter (fun x => x.order != m.order) ∧ t.mem = w.mem ∧ t.ws = w.ws ∧ t.groups = w.groups ∧
    (∀ off, copyCw m.opcode m.sub m.ctl = some off → leNat (getBs (t.cl k).sram (w.cmdBase m.block + off) 4) = m.imm.toNat) ∧
    ∀ a, (∀ off, copyCw m.opcode m.sub m.ctl = some off → a < w.cmdBase m.block + off ∨ w.cmdBase m.block + off + 4 ≤ a) →
      getB (t.cl k).sram a = getB (w.cl k).sram a

end Sys2Proof.Machine

/-- R301, R305 to R307, R309, R310, R312 to R315, R317, R318: a copy instruction that passes its checks waits in its port and is counted on
XC; the command that enters next leaves the port, and XC falls. A CPY within the scratchpad copies its bytes and writes nothing else. The
pieces of a payload are read in the scratchpad, in the weight store, or in memory by engine reads, and written in memory by engine writes. The
outputs are the payload's units of 64 bytes for CPY, CPYM and CPUB; for CPENC each coded block at 16n and its bound in the side table; for CPDEC
the four rows of each decoded block. CPY, CPENC and CPDEC then end with their completion word. A CPYM joins the offers, or waits while 16 wait; the
first offer in the order of R279 is accepted with the completion word when its version matches, and refused when the version is behind. A CPUB then
writes RSEQ + 1, SCOPE and the destination's base to its object, or ends with ENGINE_FAULT. A CPREM asks for or sends each line of its window; it
ends when none is left. A refused or poisoned line ends a command without its word. -/
def Obligations.CopyCommands : Prop :=
  (∀ e ∈ copyRows, ∀ (o : EEng) (s : State) (src dst : BufRec), Runs (.eng e.2 o) s → CopyPasses s (s.copyCmd e.2 o) src dst →
    StoresDone s → (s.my).xc < 63 → s.curCluster < s.clusters.length →
    ∃ t p, exec (e.1 o) s = .next t ∧ IssuesOp s t 3 p ∧ p.ctr = .xc ∧ p.vwrites = [] ∧ p.swrites = [] ∧
      t.cl s.curCluster = { s.cl s.curCluster with
        ports := (s.cl s.curCluster).ports ++ [{ s.copyCmd e.2 o with op := s.nextId }] }) ∧
  (∀ (k i : Nat) (s : State) (m : CopyCmd) (p : PendOp), k < s.clusters.length → s.nextPort k = some m →
    (s.cl k).copyq.length < 16 → s.findOp m.group m.op = some p → p.holders = [i] → p.ctr = .xc → p.vwrites = [] → p.swrites = [] →
    m.group < s.groups.length →
    ∃ t, exec (.copyAcceptance k) s = .next t ∧
      t.cl k = { s.cl k with ports := (s.cl k).ports.filter (· != m), copyq := (s.cl k).copyq ++ [{ m with order := s.nextId }] } ∧
      (t.spl { group := m.group, split := i }).xc = (s.spl { group := m.group, split := i }).xc - 1 ∧ t.mem = s.mem) ∧
  (∀ (k : Nat) (s : State) (m : CopyCmd) (rest : List CopyCmd) (src dst : BufRec), k < s.clusters.length →
    (s.cl k).copyq = m :: rest → m.opcode = 0x30 → nbit m.sub 0 = true → nbit m.sub 1 = true → nbit m.sub 2 = false →
    parseRec m.src = (src, none) → parseRec m.dst = (dst, none) → src.kind = 0 → dst.kind = 0 → (s.cl k).spoison = [] →
    s.copyReady k 0 m = true →
    let n := copyLen 0x30 m.ctl
    let base := (s.blk m.block).scrOff * 4096
    ∃ t, exec (.copyCommandCompletion k 0) s = .next t ∧ t.mem = s.mem ∧ t.groups = s.groups ∧
      (t.cl k).copyq = rest.filter (fun x => x.order != m.order) ∧
      (∀ i, i < n → getB (t.cl k).sram (base + dst.base + i) = getB (s.cl k).sram (base + src.base + i)) ∧
      ∀ a, a < base + dst.base ∨ base + dst.base + n ≤ a → getB (t.cl k).sram a = getB (s.cl k).sram a) ∧
  ((∀ (s : State) (k : Nat) (m : CopyCmd) (r : BufRec) (x : Nat × Nat), (s.cl k).spoison = [] → s.payRead k m r true x =
      (s, (r.pieces x.1 x.2).flatMap (fun p => getBs (s.cl k).sram (s.cmdBase m.block + r.byteAt p.1) p.2), none)) ∧
    (∀ (s : State) (k : Nat) (m : CopyCmd) (r : BufRec) (x : Nat × Nat), r.kind = 6 → s.dev.wsPoison = [] → s.payRead k m r false x =
      (s, (r.pieces x.1 x.2).flatMap (fun p => getBs s.ws (r.byteAt p.1) p.2), none)) ∧
    (∀ (s : State) (k : Nat) (m : CopyCmd) (r : BufRec) (off n : Nat), r.linear = true → r.kind ≠ 6 → 0 < n →
      s.payRead k m r false (off, n) = s.engineRead m.ctx (r.base + off) n) ∧
    ∀ (s : State) (k : Nat) (m : CopyCmd) (r : BufRec) (outs : List (Nat × List Byte)), r.linear = true →
      s.payWrite k m r false outs = s.engineParts m.ctx (outs.flatMap fun x => lineParts (r.base + x.1) x.2)) ∧
  ((∀ (op : Nat) (ctl : List Word) (data : List Byte) (i : Nat), op = 0x30 ∨ op = 0x31 ∨ op = 0x32 → i < data.length / 64 →
      (copyOutputs op ctl [data])[i]? = some (64 * i, (data.drop (64 * i)).take 64)) ∧
    (∀ (ctl : List Word) (rows : List (List Byte)) (x y : Nat), rows.length = 4 * blockRows ctl → x < blockCols ctl → y < blockRows ctl →
      let n := y * blockCols ctl + x
      let v := (List.range 16).map fun j => leNat (((rows.getD (4 * y + j / 4) []).drop (2 * (4 * x + j % 4))).take 2)
      (16 * n, (encodeBlock v).1) ∈ copyOutputs 0x33 ctl rows ∧
        (sideOffset ctl + 2 * n, leBytes 2 (encodeBlock v).2) ∈ copyOutputs 0x33 ctl rows) ∧
    ∀ (ctl : List Word) (data : List Byte) (x y j : Nat), data.length = 16 * (blockRows ctl * blockCols ctl) → x < blockCols ctl →
      y < blockRows ctl → j < 4 →
      let v := decodeBlock ((data.drop (16 * (y * blockCols ctl + x))).take 16)
      ((4 * y + j) * imagePitch ctl + 2 * (4 * x), ((v.drop (4 * j)).take 4).flatMap (leBytes 2)) ∈ copyOutputs 0x34 ctl [data]) ∧
  (∀ (k : Nat) (s w : State) (m : CopyCmd) (src dst : BufRec) (rows : List (List Byte)), CopyFirst s k m src dst →
    PayloadMoved s w k m src dst rows →
    (m.opcode = 0x30 ∨ m.opcode = 0x33 ∨ m.opcode = 0x34 → ∃ t, exec (.copyCommandCompletion k 0) s = .next t ∧ CopyEnds w t k m) ∧
    (m.opcode = 0x31 → m.landed = false → ∃ t, exec (.copyCommandCompletion k 0) s = .next t ∧ t.mem = w.mem ∧ t.groups = w.groups ∧
      (t.cl k).sram = (w.cl k).sram ∧
      if (w.activeOffers k).length < 16 then
        (t.cl k).offers = (w.cl k).offers ++ [{ m with landed := true }] ∧
          (t.cl k).copyq = (w.cl k).copyq.filter (fun x => x.order != m.order)
      else (t.cl k).offers = (w.cl k).offers ∧
        (t.cl k).copyq = (w.cl k).copyq.map fun x => if x.order = m.order then { x with landed := true } else x) ∧
    (m.opcode = 0x32 →
      let obj := addr56 m.ctl 0
      ∀ (p : Nat) (y : State), w.xlateServed m.ctx obj .r = some (p, y) →
        (∀ (z v : State) (x : SyncObj), y.syncObj m.ctx obj = (z, .ok x) →
          z.writeXl m.ctx obj (leBytes 4 (x.rseq + 1).toNat ++ leBytes 4 x.scope ++ leBytes 8 dst.base) = .got () v → k < v.clusters.length →
          ∃ t, exec (.copyCommandCompletion k 0) s = .next t ∧ CopyEnds v t k m) ∧
        ∀ (z : State) (va : Nat), y.syncObj m.ctx obj = (z, .error (0x02, va)) →
          exec (.copyCommandCompletion k 0) s = .next (z.copyFail k m (0x1A, obj)))) ∧
  (∀ (k : Nat) (s w : State) (m : CopyCmd) (src dst : BufRec) (e : EngineFault), CopyFirst s k m src dst → m.opcode ≠ 0x35 →
    (m.opcode = 0x31 → m.landed = false) → s.copyPayload k m = (w, some e) → (w.grp m.group).live = true → e.1 ≠ faultCause →
      ∃ t, exec (.copyCommandCompletion k 0) s = .next t ∧ t.groups = (w.postAsync m.group m.splitMask e.1 e.2).groups ∧ t.mem = w.mem ∧
        (t.cl k).sram = (w.cl k).sram) ∧
  (∀ (k : Nat) (s : State) (m : CopyCmd) (src dst : BufRec), CopyFirst s k m src dst → m.opcode = 0x35 →
    (m.landed = true → (∀ q ∈ s.winReqs, q.use ≠ .copy k m.order) →
      ∃ t, exec (.copyCommandCompletion k 0) s = .next t ∧ CopyEnds s t k m) ∧
    (m.landed = true → (∃ q ∈ s.winReqs, q.use = .copy k m.order) →
      exec (.copyCommandCompletion k 0) s = .next s) ∧
    (m.landed = false → src.kind = 3 ∨ src.kind = 4 → dst.kind ≠ 3 → dst.kind ≠ 4 →
      let lines := windowLines src (copyLen 0x35 m.ctl)
      (∀ x ∈ lines, ((s.ctx m.ctx).window src.kind x.2.1 .r).isSome = true) →
      ∃ t, exec (.copyCommandCompletion k 0) s = .next t ∧ t.mem = s.mem ∧ (t.cl k).sram = (s.cl k).sram ∧
        (t.cl k).copyq = ((s.cl k).copyq.map fun x => if x.order = m.order then { x with landed := true } else x) ∧
        ∃ new, t.winReqs = s.winReqs ++ new ∧ new.length = lines.length ∧
          ∀ i, i < lines.length → ∀ w, (s.ctx m.ctx).window src.kind (lines.getD i default).2.1 .r = some w →
            let q := new.getD i default
            q.use = .copy k m.order ∧ q.q = w.q ∧ q.remote = w.remote + ((lines.getD i default).2.1 - w.va) ∧
              q.acc.kind = .load ∧ q.acc.width = (lines.getD i default).2.2) ∧
    ∀ (u : State) (data : List Byte), m.landed = false → dst.kind = 3 ∨ dst.kind = 4 →
      s.payReadAll k m src (copySsp m.opcode m.sub) [(0, copyLen 0x35 m.ctl)] = (u, [data], none) → data.length = copyLen 0x35 m.ctl →
      u.up = true →
      let lines := windowLines dst (copyLen 0x35 m.ctl)
      (∀ x ∈ lines, ((s.ctx m.ctx).window dst.kind x.2.1 .w).isSome = true) →
      ∃ t, exec (.copyCommandCompletion k 0) s = .next t ∧ t.mem = u.mem ∧
        ∃ new, t.winReqs = u.winReqs ++ new ∧ new.length = lines.length ∧
          ∀ i, i < lines.length → ∀ w, (s.ctx m.ctx).window dst.kind (lines.getD i default).2.1 .w = some w →
            let q := new.getD i default
            q.use = .copy k m.order ∧ q.q = w.q ∧ q.remote = w.remote + ((lines.getD i default).2.1 - w.va) ∧
              .rdmaWriteOut w.q q.id q.remote ((data.drop (lines.getD i default).1).take (lines.getD i default).2.2) ∈ t.outbox) ∧
  ∀ (k i : Nat) (s : State) (m : CopyCmd), k < s.clusters.length → (s.cl k).offers[i]? = some m →
    (s.offersNow k).head?.map (·.1) = some i → m.tile < (s.cl k).tiles.length →
    ((m.follow).e = (s.tile k m.tile).tv →
      ∃ t, exec (.followOnOffer k i) s = .next t ∧ (t.cl k).offers = (s.cl k).offers.eraseIdx i ∧
        (t.cl k).matq = (s.cl k).matq ++ [m.follow] ∧
        t.tile k m.tile = { s.tile k m.tile with tv := ((s.tile k m.tile).tv + 1) % 65536, acceptAt := s.dev.cycle + 1 } ∧ t.mem = s.mem ∧
        t.groups = s.groups ∧
        ∀ off, copyCw m.opcode m.sub m.ctl = some off → leNat (getBs (t.cl k).sram (s.cmdBase m.block + off) 4) = m.imm.toNat) ∧
    (s.offerDist k m ≠ 0 → (s.grp m.group).live = true → ∃ t, exec (.followOnOffer k i) s = .next t ∧
      (t.cl k).offers = (s.cl k).offers.eraseIdx i ∧ (t.cl k).matq = (s.cl k).matq ∧ t.tile k m.tile = s.tile k m.tile ∧ t.mem = s.mem ∧
      t.groups = (s.postAsync m.group m.splitMask 0x1A ((s.tile k m.tile).tv + m.tile * 65536)).groups)

namespace Sys2Proof.Machine

/-! ## Views, raster and display (R328 to R357) -/

/-- The issuing group's view set: bound to its context, with its number. -/
abbrev HasSet (s : State) (k : Nat) (v : ViewSet) : Prop :=
  (s.me).regs.viewset = k ∧ s.set k = v ∧ v.ctx = some s.curCtx ∧ k < s.sets.length
/-- A breakpoint pair of R334: floor and ceiling to 8 pixels of gaze ± fovea, within the display. -/
def breaksAt (g fov size : Nat) : Int × Int :=
  (max 0 (min size (8 * (((g : Int) - 16 * fov) / 128))), max 0 (min size (-(8 * (-((g : Int) + 16 * fov) / 128)))))
/-- The quads of the active lanes are written with four words each; every other lane of a v-register stays. -/
def QuadsWritten (s t : State) (d : Nat) (em : Mask) (f : Nat → List Word) : Prop :=
  ∀ r l, l < 32 → (t.me).readV r l = if inMask em l = true ∧ d ≤ r ∧ r < d + 4 then wordAt (f l) (r - d) else (s.me).readV r l
/-- A vector-family engine instruction has passed and changed v-registers and flags alone. -/
def PastEngine (s t : State) : Prop :=
  (t.my).pc = (s.my).pc + 12 ∧ (∀ n, n < 384 → t.readS s.cur n = s.readS s.cur n) ∧ t.sets = s.sets ∧ SplitOnly s t ∧ MemorySame s t

end Sys2Proof.Machine

/-- R334, R336 to R340, R343, R344: GZLATCH latches an IDLE strip with the breakpoints of each view's gaze, or reports 1; VWARP gives
projections, cell positions and the grid's shape; RTRI sets up a triangle and reports its status; RWALK is counted and gives only
covered cells, at most one for each lane. RWALK asks for no bound view set: "RWALK uses only what the slot captured"
(R340; DEDUCED, log 40). -/
def Obligations.ViewInstructionsComplete : Prop :=
  (∀ (o : EEng) (s : State) (k : Nat) (v : ViewSet) (n : Nat), Runs (.eng 0x40 o) s → HasSet s k v → (s.one o.sa.toNat).toNat = n →
    n < v.nstrip →
    ((v.strip n).st ≠ .idle → exec (.gzlatch o) s = .next ((s.writeS s.cur o.sb.toNat 1).advance 3)) ∧
    ((v.strip n).st = .idle → o.sb.toNat < 384 →
      let stale : Bool := v.seq.isNone || (v.gzage != 0 && decide (100 * v.gzage < s.dev.tick - v.arrival))
      let age : Nat := if v.seq.isNone then 65535 else min 65535 ((s.dev.tick - v.arrival) / 100)
      ∃ t, exec (.gzlatch o) s = .next t ∧ (t.my).pc = (s.my).pc + 12 ∧
        t.readS s.cur o.sb.toNat = BitVec.ofNat 32 (age * 65536 + stale.toNat * 4) ∧
        (let x := (t.set k).strip n
         x.st = .latched ∧ x.latch = s.dev.tick ∧ x.stale = stale ∧
           x.dl = (let d := wfield (s.me).lch.stripdl 19 0; if d = 0 then 1048575 else d) ∧
           ∀ i, i < v.nviews →
             let w := v.view i
             let g := if stale then (w.dgx, w.dgy) else w.gaze.getD (w.dgx, w.dgy)
             let a := (t.set k).warp n i
             (a.bx1 : Int) = (breaksAt g.1 w.fovx v.w).1 ∧ (a.bx2 : Int) = (breaksAt g.1 w.fovx v.w).2 ∧
               (a.by1 : Int) = (breaksAt g.2 w.fovy v.h).1 ∧ (a.by2 : Int) = (breaksAt g.2 w.fovy v.h).2 ∧ a.codes = w.codes) ∧
        (∀ j, j ≠ n → (t.set k).strip j = v.strip j) ∧ (∀ j, j ≠ k → t.set j = s.set j) ∧ MemorySame s t)) ∧
  (∀ (o : EEng) (s : State) (k : Nat) (v : ViewSet), Runs (.eng 0x41 o) s → HasSet s k v →
    let em := s.execMask o.pe o.pi.toNat o.pn
    let view := (s.one o.sa.toNat).toNat
    let strip := (s.one o.sb.toNat).toNat
    em ≠ 0 → view < v.nviews →
    (∃ t, exec (.vwarpProj o) s = .next t ∧ PastEngine s t ∧ (t.me).regs.flags = (s.me).regs.flags ∧
      QuadsWritten s t o.d.toNat em fun l => projectVertex (v.view view).m ((List.range 4).map fun j => (s.me).readV (o.va.toNat + j) l)) ∧
    (strip < v.nstrip →
      let a := v.warp strip view
      let out (l : Nat) : Option (List Word) :=
        let x := (s.me).readV o.va.toNat l
        match (a.rows strip)[wfield x 28 16]? with
        | some (y, c) => if wfield x 12 0 < a.nx then some [BitVec.ofNat 32 (a.colX (wfield x 12 0)).1, BitVec.ofNat 32 y,
            BitVec.ofNat 32 (2 ^ (a.colX (wfield x 12 0)).2), BitVec.ofNat 32 (2 ^ c)] else none
        | none => none
      (∃ t, exec (.vwarpPos o) s = .next t ∧ PastEngine s t ∧
        (t.me).regs.flags = (s.me).regs.flags ||| flIf ((lanesOf em).any fun l => (out l).isNone) flOOB ∧
        QuadsWritten s t o.d.toNat em fun l => (out l).getD [0x80000000, 0x80000000, 0, 0]) ∧
      ∃ t, exec (.vwarpGeom o) s = .next t ∧ PastEngine s t ∧ (t.me).regs.flags = (s.me).regs.flags ∧
        QuadsWritten s t o.d.toNat em fun _ =>
          [BitVec.ofNat 32 (a.nx + 65536 * (a.rows strip).length), BitVec.ofNat 32 (a.bx1 + 65536 * a.bx2),
           BitVec.ofNat 32 (a.by1 + 65536 * a.by2), BitVec.ofNat 32 (a.codes % 2 ^ 14 + 65536 * a.stale.toNat)])) ∧
  (∀ (o : EEng) (s : State) (k : Nat) (v : ViewSet) (view strip : Nat), Runs (.eng 0x42 o) s → HasSet s k v →
    let w := s.readSs s.cur o.sa.toNat 7
    v.viewStrip (wordAt w 6) = some (view, strip) → o.sb.toNat < 384 → o.d.toNat < (s.me).tris.length →
    let x (j : Nat) : Int := (wordAt w (2 * j)).toInt
    let y (j : Nat) : Int := (wordAt w (2 * j + 1)).toInt
    let area := (x 1 - x 0) * (y 2 - y 0) - (x 2 - x 0) * (y 1 - y 0)
    let large := ∃ j, j < 6 ∧ 2 ^ 27 ≤ (wordAt w j).toInt.natAbs
    let culled := (eSub o 1 0 = 1 ∧ area < 0) ∨ (eSub o 1 0 = 2 ∧ 0 < area)
    let meets (ps : List (Nat × Nat)) (f : Nat → Int) : Prop :=
      ∃ p ∈ ps, (∃ j, j < 3 ∧ f j ≤ (p.1 : Int)) ∧ ∃ j, j < 3 ∧ (p.1 : Int) ≤ f j
    let a := v.warp strip view
    let inside := meets a.cols x ∧ meets (a.rows strip) y
    ∃ t, exec (.rtri o) s = .next t ∧ (t.my).pc = (s.my).pc + 12 ∧ t.mem = s.mem ∧
      (∀ j, j ≠ o.d.toNat → (t.me).tris.getD j emptySlot = (s.me).tris.getD j emptySlot) ∧
      (large → t.readS s.cur o.sb.toNat = 3 ∧ ((t.me).tris.getD o.d.toNat emptySlot).ready = false) ∧
      (¬ large → area = 0 → t.readS s.cur o.sb.toNat = 1 ∧ ((t.me).tris.getD o.d.toNat emptySlot).ready = false) ∧
      (¬ large → culled → t.readS s.cur o.sb.toNat = 2 ∧ ((t.me).tris.getD o.d.toNat emptySlot).ready = false) ∧
      (¬ large → area ≠ 0 → ¬ culled → ¬ inside →
        t.readS s.cur o.sb.toNat = 4 ∧ ((t.me).tris.getD o.d.toNat emptySlot).ready = false) ∧
      (¬ large → area ≠ 0 → ¬ culled → inside → t.readS s.cur o.sb.toNat = 0 ∧
        (t.me).tris.getD o.d.toNat emptySlot =
          { ready := true, xs := if area < 0 then [x 0, x 2, x 1] else [x 0, x 1, x 2],
            ys := if area < 0 then [y 0, y 2, y 1] else [y 0, y 1, y 2], area := area.natAbs, swapped := decide (area < 0), view := view,
            strip := strip, warp := a })) ∧
  (∀ (o : EEng) (s : State), Runs (.eng 0x43 o) s →
    let em := s.execMask o.pe o.pi.toNat o.pn
    let token := s.one o.sa.toNat
    (s.my).xc < 63 → em ≠ 0 → wfield token 30 29 = 0 → wfield token 15 13 = 0 →
    let slot := (s.me).tris.getD (eSub o 1 0) emptySlot
    ∃ t p, exec (.rwalk o) s = .next t ∧ IssuesOp s t 3 p ∧ p.kind = .raster ∧ p.ctr = .xc ∧ p.flags = 0 ∧
      p.vwrites = texWrites o.d.toNat ((List.range (lanesOf em).length).map fun i =>
        ((lanesOf em).getD i 0, (slot.run token (lanesOf em).length).1.getD i [0xFFFFFFFF, 0, 0, 0])) ∧
      p.swrites = [(o.sb.toNat, (slot.run token (lanesOf em).length).2)]) ∧
  ∀ (x : TriSlot) (token : Word) (n : Nat), (x.run token n).1.length ≤ n ∧
    ∀ w ∈ (x.run token n).1, ∃ gx gy, wordAt w 0 = BitVec.ofNat 32 (gy * 65536 + gx) ∧
      x.covered ((x.warp.cols.getD gx default).1 : Nat) (((x.warp.rows x.strip).getD gy default).1 : Nat) = true
/-- R333, R349 to R354: LRES is counted and makes a LATCHED strip BUILDING; TEMIT hands a view over, or reports 1 or 2; the first waiting
transmission of a view is sent by its route as packets, and the next one then comes; an expired strip is FALLBACK, with a late transmission of
each missing view waiting; a gaze packet is taken by every loaded set that accepts it at its port, and counted as dropped by the others there. -/
def Obligations.StripsAndGaze : Prop :=
  (∀ (o : EEng) (s : State) (k : Nat) (v : ViewSet) (view strip : Nat) (r : BufRec), Runs (.eng 0x44 o) s → HasSet s k v →
    let em := s.execMask o.pe o.pi.toNat o.pn
    let ax := lresAxes v strip view (nbit o.sub.toNat 0)
    em ≠ 0 → (s.my).xc < 63 → s.recAt o.sa.toNat = (r, none) → v.viewStrip (s.one o.sb.toNat) = some (view, strip) →
    r.kind = 2 → r.esize = 3 → ax.1.length ≤ 2 ^ r.swzw → r.tileIn ax.2.length s.scrSize = true → (s.cl s.curCluster).spoison = [] →
    let lane (l : Nat) : List Word × Bool × Option Nat := s.lresLane v view r ax.1 ax.2 ((s.me).readV o.va.toNat l)
    ∃ t p, exec (.lres o) s = .next t ∧ IssuesOp s t 3 p ∧ p.kind = .lres ∧ p.ctr = .xc ∧ p.swrites = [] ∧
      p.vwrites = texWrites o.d.toNat ((lanesOf em).map fun l => (l, (lane l).1)) ∧
      p.flags = flIf ((lanesOf em).any fun l => (lane l).2.1) flOOB ∧
      ((t.set k).strip strip).st = (if (v.strip strip).st = .latched then .building else (v.strip strip).st)) ∧
  (∀ (o : EEng) (s : State) (k : Nat) (v : ViewSet) (view strip : Nat) (r : BufRec), Runs (.eng 0x45 o) s → HasSet s k v →
    s.recAt o.sa.toNat = (r, none) → v.viewStrip (s.one o.sb.toNat) = some (view, strip) → r.kind = 0 →
    v.w * v.sh * (if eSub o 1 0 = 2 then 8 else 4) ≤ r.extent → r.base % 256 = 0 → StoresDone s → o.sc.toNat < 384 →
    view < (v.strip strip).views.length →
    let x := v.strip strip
    let y := x.views.getD view default
    (x.st = .fallback → exec (.temit o) s = .next ((s.writeS s.cur o.sc.toNat 2).advance 3)) ∧
    (x.st = .idle ∨ x.st = .emitted ∨ y.emitted = true → x.st ≠ .fallback →
      exec (.temit o) s = .next ((s.writeS s.cur o.sc.toNat 1).advance 3)) ∧
    (x.st = .latched ∨ x.st = .building → y.emitted = false →
      ∃ t, exec (.temit o) s = .next t ∧ (t.my).pc = (s.my).pc + 12 ∧ t.readS s.cur o.sc.toNat = 0 ∧ MemorySame s t ∧
        (let x' := (t.set k).strip strip
         let y' := x'.views.getD view default
         y'.emitted = true ∧ y'.due = y.due ++ [{ late := false, fseq := y.fseq + 1, payload := y'.last }] ∧ y'.fseq = y.fseq + 1 ∧ (y'.last.map (·.base)) = some r.base ∧
           x'.st = (if ∀ i, i < x.views.length → i ≠ view → (x.views.getD i default).emitted = true then .emitted else .building)))) ∧
  (∀ (set strip view : Nat) (s : State) (d : Transmission) (rest : List Transmission),
    let v := s.set set
    let x := (v.strip strip).views.getD view default
    let r := (v.view view).route
    let port := s.subport (routePort r) (routeSub r)
    s.up = true → x.due = d :: rest → strip < v.nstrip → view < (v.strip strip).views.length → port.up = true →
    port.paused.getLsbD (routePcp r) = false → v.releasing = false → set < s.sets.length →
    let h : StripHead := { late := d.late, noref := false, stale := false, pfmt := 0, strip := strip, view := view, set := set,
                           fseq := d.fseq, orig := 0, sh := v.sh, w := v.w, gzseq := 0 }
    (d.payload = none → ∃ t, exec (.stripPacketTransmission set strip view) s = .next t ∧ t.mem = s.mem ∧
      t.outbox = s.outbox ++ [.strip (routePort r) (routeSub r) r (h.empty.bytes true 0 0 0)] ∧
      (((t.set set).strip strip).views.getD view default).due = rest) ∧
    ∀ (p : Payload) (u : State) (data : List Byte), d.payload = some p → s.mustWait p.ctx = false →
      let total := v.w * v.sh * (if p.pfmt = 2 then 8 else 4)
      s.engineRead p.ctx p.base total = (u, data, none) →
      ∃ t, exec (.stripPacketTransmission set strip view) s = .next t ∧
        t.outbox = s.outbox ++ (stripPackets { h with stale := p.stale, pfmt := p.pfmt, orig := p.fseq, gzseq := p.gzseq }
          (stripPmax port.mtu (routeV6 r)) total data true).map (.strip (routePort r) (routeSub r) r) ∧
        (((t.set set).strip strip).views.getD view default).due = rest) ∧
  (∀ (set strip : Nat) (s : State), set < s.sets.length → strip < (s.set set).strips.length →
    let x := (s.set set).strip strip
    (x.st = .latched ∨ x.st = .building) → x.latch + x.dl ≤ s.dev.tick →
    ∃ t, exec (.stripExpiry set strip) s = .next t ∧ t = { s with sets := t.sets } ∧ (∀ j, j ≠ set → t.set j = s.set j) ∧
      ((t.set set).strip strip).st = .fallback ∧
      ∀ i, i < x.views.length → (((t.set set).strip strip).views.getD i default).due =
        let y := x.views.getD i default
        if y.emitted then y.due else y.due ++ [{ late := true, fseq := y.fseq + 1, payload := y.last }]) ∧
  ∀ (port : BitVec 16) (payload : List Byte) (s : State), ∃ t, exec (.gazePacket port payload) s = .next t ∧ t = { s with sets := t.sets } ∧
    ∀ k, k < s.sets.length →
      let v := s.set k
      let w (i : Nat) : Nat := leNat ((payload.drop (4 * i)).take 4)
      ((v.ctx = none ∨ v.gzport ≠ port.toNat) → t.set k = v) ∧
      (v.ctx ≠ none → v.gzport = port.toNat → payload.length % 4 = 0 →
        let nv := w 0 / 2 ^ 24
        let ok := payload.length = 8 + 4 * nv ∧ w 0 % 2 ^ 24 = 0x01475A ∧ 1 ≤ nv ∧ nv ≤ v.nviews ∧
          (∀ q, v.seq = some q → 1 ≤ (BitVec.ofNat 32 (w 1) - BitVec.ofNat 32 q).toNat ∧
            (BitVec.ofNat 32 (w 1) - BitVec.ofNat 32 q).toNat < 2 ^ 31)
        (ok → (t.set k).seq = some (w 1) ∧ (t.set k).arrival = s.dev.tick ∧ (t.set k).drops = v.drops ∧
          ∀ i, i < nv → ((t.set k).view i).gaze = some (w (2 + i) % 65536, w (2 + i) / 65536)) ∧
        (¬ ok → t.set k = { v with drops := v.drops + 1 }))

namespace Sys2Proof.Machine

/-! ## Rays (R362 to R375) -/

/-- No operation of another instruction waits to push into a spawn queue. -/
def NoSpawnWaits (s : State) (but : Nat) : Prop :=
  ∀ gi, gi < s.groups.length → ∀ op ∈ (s.grp gi).ops, op.kind = .spawn → op.laneArgs ≠ [] → gi = but
/-- The nine words of a lane's ray. -/
def State.ray9 (s : State) (va l : Nat) : List Word := (List.range 9).map fun k => (s.me).readV (va + k) l

end Sys2Proof.Machine

/-- R362, R370 to R375: RTRACE starts a ray in each active lane, with `.pat` through the cell that the lane names, and is counted; while a ray of an
active lane is RUNNING the ray instructions are held; RNEXT resumes the rays at an EVENT; RCOMMIT records the
decision of a candidate; RSPAWN pushes valid records while there is room; RPOP takes the oldest of the deepest records that an earlier
cycle pushed; SPAWN_PUSH pushes a waiting record once there is room, and the operation ends. -/
def Obligations.RayInstructionsComplete : Prop :=
  (∀ (o : EEng) (s : State) (r p : BufRec), Runs (.eng 0x50 o) s →
    let em := s.execMask o.pe o.pi.toNat o.pn
    let spl := nbit o.sub.toNat 1
    em ≠ 0 → nbit o.sub.toNat 0 = false → s.recAt o.sa.toNat = (r, none) → (r.kind = 0 ∨ r.kind = 3 ∨ r.kind = 6) →
    (spl = true → s.recAt o.sc.toNat = (p, none) ∧ p.kind = 0 ∧ p.rdonly = false) → s.rayBusy em = false → (s.my).xc < 63 →
    (s.me).rays.length = 32 →
    ∃ t q, exec (.rtrace o) s = .next t ∧ IssuesOp s t 3 q ∧ q.kind = .ray ∧ q.ctr = .xc ∧ q.lanes = em ∧ q.vwrites = [] ∧
      ∀ l, l < 32 → (t.me).ray l = if inMask em l then
          newRay (some (s.ray9 o.va.toNat l)) o.imm (s.readSs s.cur o.sa.toNat 4)
            (if spl then some (s.readSs s.cur o.sc.toNat 4) else none) (s.me).lch.rbudget s.nextId
        else (s.me).ray l) ∧
  (∀ (o : EEng) (s : State) (r : BufRec) (k : Nat) (v : ViewSet) (view strip : Nat), Runs (.eng 0x50 o) s → HasSet s k v →
    let em := s.execMask o.pe o.pi.toNat o.pn
    em ≠ 0 → nbit o.sub.toNat 0 = true → nbit o.sub.toNat 1 = false → v.viewStrip (s.one o.sb.toNat) = some (view, strip) →
    s.recAt o.sa.toNat = (r, none) → (r.kind = 0 ∨ r.kind = 3 ∨ r.kind = 6) → s.rayBusy em = false → (s.my).xc < 63 →
    (s.me).rays.length = 32 →
    ∃ t q, exec (.rtrace o) s = .next t ∧ IssuesOp s t 3 q ∧ q.kind = .ray ∧ q.ctr = .xc ∧ q.lanes = em ∧
      ∀ l, l < 32 → (t.me).ray l = if inMask em l then
          newRay (cellRay (v.warp strip view) strip (v.view view).m ((s.me).readV o.va.toNat l)) o.imm (s.readSs s.cur o.sa.toNat 4) none
            (s.me).lch.rbudget s.nextId
        else (s.me).ray l) ∧
  (∀ (o : EEng) (s : State), let em := s.execMask o.pe o.pi.toNat o.pn
    em ≠ 0 → (s.rayBusy em = true ∨ 63 ≤ (s.my).xc) →
    (Runs (.eng 0x51 o) s → ∃ t, exec (.rnext o) s = .next t ∧ HeldAtIssue s t) ∧
    (s.rayBusy em = true → Runs (.eng 0x52 o) s → ∃ t, exec (.rcommit o) s = .next t ∧ HeldAtIssue s t)) ∧
  (∀ (o : EEng) (s : State), s.execMask o.pe o.pi.toNat o.pn = 0 → (s.my).xc < 63 →
    (Runs (.eng 0x50 o) s → exec (.rtrace o) s = .next (s.advance 3)) ∧ (Runs (.eng 0x51 o) s → exec (.rnext o) s = .next (s.advance 3))) ∧
  (∀ (o : EEng) (s : State), Runs (.eng 0x51 o) s →
    let em := s.execMask o.pe o.pi.toNat o.pn
    em ≠ 0 → s.rayBusy em = false → (s.my).xc < 63 → (s.me).rays.length = 32 →
    ∃ t q, exec (.rnext o) s = .next t ∧ IssuesOp s t 3 q ∧ q.kind = .ray ∧ q.ctr = .xc ∧
      (∀ l, l < 32 → (inMask q.lanes l = true ↔ inMask em l = true ∧ ((s.me).ray l).st = .event)) ∧
      ∀ l, l < 32 → (inMask q.lanes l = false → (t.me).ray l = (s.me).ray l) ∧
        (inMask q.lanes l = true → ((t.me).ray l).st = .running ∧ ((t.me).ray l).decision = 0 ∧ ((t.me).ray l).op = s.nextId ∧
          (((s.me).ray l).decision = 0 → ((t.me).ray l).hit = ((s.me).ray l).hit) ∧
          (∀ h, ((s.me).ray l).decision = 1 → ((s.me).ray l).cand = some h → ((t.me).ray l).hit = some h))) ∧
  (∀ (o : EEng) (s : State), Runs (.eng 0x52 o) s →
    let em := s.execMask o.pe o.pi.toNat o.pn
    s.rayBusy em = false → (s.me).rays.length = 32 →
    ∃ t, exec (.rcommit o) s = .next t ∧ (t.my).pc = (s.my).pc + 12 ∧ (t.me).regs = (s.me).regs ∧ SplitOnly s t ∧ MemorySame s t ∧
      ∀ l, l < 32 → (t.me).ray l = if inMask em l = true ∧ ((s.me).ray l).st = .event then
        { (s.me).ray l with decision := eSub o 1 0 } else (s.me).ray l) ∧
  (∀ (o : EEng) (s : State), Runs (.eng 0x53 o) s →
    let em := s.execMask o.pe o.pi.toNat o.pn
    let k := s.curCluster
    let valid := (lanesOf em).filter fun l => !rayInvalid (s.ray9 o.va.toNat l)
    em ≠ 0 → s.ownsSpawn = true → (s.my).xc < 63 → k < s.clusters.length →
    ((s.cl k).spawn.filter fun e => e.2.1 == 8).length + 32 ≤ 248 → NoSpawnWaits s s.groups.length →
    ∃ t p, exec (.rspawn o) s = .next t ∧ (t.my).pc = (s.my).pc + 12 ∧ (t.my).xc = (s.my).xc + 1 ∧ (t.me).regs = (s.me).regs ∧
      (t.cl k).spawn = (s.cl k).spawn ++ valid.map (fun l => (s.ray9 o.va.toNat l, 8, s.dev.cycle)) ∧
      (t.me).ops.getLast? = some p ∧ p.kind = .spawn ∧ p.laneArgs = [] ∧
      p.vwrites = ((lanesOf em).filter fun l => rayInvalid (s.ray9 o.va.toNat l)).map (fun l => (o.d.toNat, l, 2)) ++
        valid.map fun l => (o.d.toNat, l, 0)) ∧
  (∀ (o : EEng) (s : State) (l i : Nat) (e : List Word × Nat × Nat), Runs (.eng 0x54 o) s →
    lanesOf (s.execMask o.pe o.pi.toNat o.pn) = [l] → s.ownsSpawn = true → (s.my).xc < 63 → s.curCluster < s.clusters.length →
    NoSpawnWaits s s.groups.length →
    let q := (s.cl s.curCluster).spawn
    ((∀ x ∈ q, s.dev.cycle ≤ x.2.2) → ∃ t p, exec (.rpop o) s = .next t ∧ IssuesOp s t 3 p ∧ (t.cl s.curCluster).spawn = q ∧
      p.kind = .spawn ∧ p.laneArgs = [] ∧ p.swrites = [(o.sb.toNat, 0)] ∧
      p.vwrites = (List.range 9).map fun j => (o.d.toNat + j, l, if j = 8 then 0xFFFFFFFF else 0)) ∧
    (q[i]? = some e → e.2.2 < s.dev.cycle →
      (∀ (j : Nat) (x : List Word × Nat × Nat), q[j]? = some x → x.2.2 < s.dev.cycle →
        rayDepth x.1 ≤ rayDepth e.1 ∧ (j < i → rayDepth x.1 < rayDepth e.1)) →
      ∃ t p, exec (.rpop o) s = .next t ∧ IssuesOp s t 3 p ∧ (t.cl s.curCluster).spawn = q.eraseIdx i ∧
        p.kind = .spawn ∧ p.laneArgs = [] ∧ p.swrites = [(o.sb.toNat, 1)] ∧
        p.vwrites = (List.range 9).map fun j => (o.d.toNat + j, l, wordAt e.1 j))) ∧
  ∀ (group i l : Nat) (s : State) (p : PendOp) (w : List Word), (s.grp group).live? = true → (s.grp group).ops = [p] →
    p.kind = .spawn → p.ctr = .xc → p.laneArgs = [(l, w)] → p.holders = [i] → p.vwrites = [] → p.swrites = [] → l < 32 →
    NoSpawnWaits s group → (s.grp group).who.cluster < s.clusters.length →
    (((s.cl (s.grp group).who.cluster).spawn).filter fun e => e.2.1 == 8).length < 248 →
    ∃ t, exec (.spawnPush group p.id) s = .next t ∧ (t.grp group).ops = [] ∧
      (t.cl (s.grp group).who.cluster).spawn = (s.cl (s.grp group).who.cluster).spawn ++ [(w, 8, s.dev.cycle)] ∧
      (t.spl { group := group, split := i }).xc = (s.spl { group := group, split := i }).xc - 1 ∧
      (t.grp group).readV (wordAt p.args 0).toNat l = 0

namespace Sys2Proof.Machine

/-! ## Launches (R170 to R186, R202) -/

/-- The launch with a number is in a state, with so many blocks started and left. -/
def LaunchIs (s : State) (c id : Nat) (st : LaunchState) (started completed : Nat) : Prop :=
  (s.launch? c id).map (fun l => (l.state, l.started, l.completed)) = some (st, started, completed)
/-- LAUNCH with every memory counter of its split at 0 and a record that passes the checks: the record joins the queue of the group
with 1 in sd, or the full queue of 4 gives 0 with .nb and holds the blocking form; a record that fails enters the handler with LAUNCH_INVALID; a
record that only a reserve in use could bring in holds LAUNCH. -/
def LaunchQueues : Prop :=
  (∀ (o : S64) (s : State), Runs (.s64 0x3E o) s → (s.my).memIdle = false → ∃ t, exec (.launch o) s = .next t ∧ HeldAtIssue s t) ∧
  ∀ (o : S64) (s u : State), Runs (.s64 0x3E o) s → (s.my).memIdle = true → (s.releaseAll (s.me).coreIx (s.me).who.ctx).2 = [] →
    let v := (s.releaseAll (s.me).coreIx (s.me).who.ctx).1
    let read := v.readRecord (s.me).who.ctx (s.addrAt o.sa.toNat) (some (s.me).who.gen) 0
    (read = .wait → ∃ t, exec (.launch o) s = .next t ∧ HeldAtIssue v t) ∧
    (∀ e, read = .got (.error e) u → exec (.launch o) s = .next (u.trapNow 0x1D)) ∧
    ∀ r, read = .got (.ok r) u →
      ((u.me).queue.length < 4 → ∃ t, exec (.launch o) s = .next t ∧ (t.my).pc = (u.my).pc + 8 ∧
        (t.me).queue = (u.me).queue ++ [(r, s.addrAt o.sa.toNat, u.nextId)] ∧ t.readS s.cur o.sd.toNat = 1 ∧ MemorySame u t) ∧
      (4 ≤ (u.me).queue.length → nbit o.aux.toNat 0 = true → ∃ t, exec (.launch o) s = .next t ∧ (t.my).pc = (u.my).pc + 8 ∧
        (t.me).queue = (u.me).queue ∧ t.readS s.cur o.sd.toNat = 0 ∧ MemorySame u t) ∧
      (4 ≤ (u.me).queue.length → nbit o.aux.toNat 0 = false → ∃ t, exec (.launch o) s = .next t ∧ HeldAtIssue u t)
/-- The oldest pending launch of all groups becomes a launch of its context, one generation on. -/
def LaunchIsTaken : Prop :=
  ∀ (group : Nat) (s : State) (r : LaunchRec) (va n : Nat) (rest : List (LaunchRec × Nat × Nat)), (s.grp group).queue = (r, va, n) :: rest →
    (∀ h ∈ s.groups, ∀ m, h.queueHead = some m → n ≤ m) → (s.ctx (s.grp group).who.ctx).st = .running →
    ∃ t, exec (.launchTake group) s = .next t ∧ t.grp group = { s.grp group with queue := rest, taken := (s.grp group).taken + 1 } ∧
      (∀ g, g ≠ group → t.grp g = s.grp g) ∧
      (t.ctx (s.grp group).who.ctx).launches = (s.ctx (s.grp group).who.ctx).launches ++
        [{ id := (s.ctx (s.grp group).who.ctx).nextLaunch, gen := (s.grp group).who.gen + 1, rc := r, recAddr := va, state := .queued,
           started := 0, completed := 0, compFail := false, parent := some group }] ∧
      (t.ctx (s.grp group).who.ctx).nextLaunch = (s.ctx (s.grp group).who.ctx).nextLaunch + 1
/-- A bind record makes an EMPTY entry BOUND, with its context slot ACTIVE; a DONE entry is cleared. -/
def BindsEntries : Prop :=
  ∀ (core entry ctx : Nat) (s : State),
    (∀ b, ((s.core core).slots.getD entry default).st = .empty → entry < (s.core core).slots.length → s.bindable core ctx b = true →
      ∃ t, exec (.bindRecord core entry ctx (some b)) s = .next t ∧
        t = { s with cores := t.cores, nextId := s.nextId + 1 } ∧ (∀ k, k ≠ core → t.core k = s.core k) ∧
        t.core core = { s.core core with slots := (s.core core).slots.set entry { st := .bound, bind := b, order := s.nextId },
                                         ctxs := (s.core core).ctxs.set b.cslot (some ctx),
                                         slotSt := (s.core core).slotSt.set b.cslot
                                           (if (s.core core).slotSt.getD b.cslot 0 = 3 then 3 else 1) }) ∧
    (((s.core core).slots.getD entry default).st = .done → entry < (s.core core).slots.length →
      ∃ t, exec (.bindRecord core entry ctx none) s = .next t ∧ ((t.core core).slots.getD entry default).st = .empty ∧
        ∀ i, i ≠ entry → (t.core core).slots.getD i default = (s.core core).slots.getD i default)
/-- A block that is the next to start on its cluster starts: its groups, numbered from 0, are READY at the entry with the launched
lanes, its parts RUNNING, and the launch has started one more block. -/
def BlockStarts : Prop :=
  ∀ (ctx launch block : Nat) (s : State) (l : Launch) (h : Part) (rest : List Part), s.launch? ctx launch = some l →
    s.boundParts ctx launch block = h :: rest → s.startsNext (h.core / 4) ctx launch block = true → (s.cl (h.core / 4)).idle = false →
    ∃ t, exec (.blockStart ctx launch block) s = .next t ∧
      t.groups.length = s.groups.length + l.rc.ext 4 * l.rc.ext 5 ∧
      (∀ i, i < l.rc.ext 4 * l.rc.ext 5 → let g := t.grp (s.groups.length + i)
        g.live = true ∧ g.who.gid = i ∧ g.who.launch = launch ∧ g.who.block = block ∧ g.exited = ~~~l.rc.lanes ∧ g.regs.v = [] ∧
        g.splits = { Split.empty with st := .ready, pc := BitVec.ofNat 56 l.rc.entry, mask := l.rc.lanes } :: List.replicate 3 Split.empty ∧
        ∀ j, j < l.rc.args.length → sget 0 g.regs.s (32 + j) = wordAt l.rc.args j) ∧
      (∀ p ∈ h :: rest, ((t.core p.core).slots.getD p.entry default).st = .running) ∧
      LaunchIs t ctx launch .running (block + 1) l.completed ∧
      ∃ b, t.blocks = s.blocks ++ [b] ∧ b.live = true ∧ b.launch = launch ∧ b.block = block ∧ b.cluster = h.core / 4 ∧
        b.groups = (List.range (l.rc.ext 4 * l.rc.ext 5)).map (s.groups.length + ·) ∧ b.barriers = List.replicate 16 Barrier.reset
/-- A launch whose blocks have all left is COMPLETE, with 1 added to its counter where the context maps one it may read and write. -/
def LaunchCompletes : Prop :=
  ∀ (ctx launch : Nat) (s : State) (l : Launch), s.launch? ctx launch = some l → l.state = .running → l.completed = l.rc.blocks →
    (s.ctx ctx).st = .running → (l.rc.comp = 0 ∨ s.mustWait ctx = false) →
    (∃ t, exec (.launchCompletion ctx launch) s = .next t ∧ LaunchIs t ctx launch .complete l.started l.completed) ∧
    ∀ p, l.rc.comp ≠ 0 → l.rc.comp % 4 = 0 → s.xlate ctx l.rc.comp .r = .ok p → s.xlate ctx l.rc.comp .w = .ok p →
      p % 64 = l.rc.comp % 64 →
      ∃ t, exec (.launchCompletion ctx launch) s = .next t ∧
        leNat (getBs t.mem p 4) = (leNat (getBs s.mem p 4) + 1) % 2 ^ 32 ∧ ∀ a, a < p ∨ p + 4 ≤ a → getB t.mem a = getB s.mem a

/-! ## Saves, restores, migration (R203, R394 to R397, R405) -/

/-- A block that may be saved, in runs that the save area has, is saved with its groups, its registers as they are, its splits, of which those
in SLEEP become READY (R106), and its scratchpad; without room the save is refused and counted, and nothing else happens. -/
def BlocksAreSaved : Prop :=
  ∀ (block : Nat) (why : SaveWhy) (s : State), s.savable block = true → s.mayStream block why = true →
    let b := s.blk block
    let runs := takeRuns ((s.ctx b.ctx).saveLen / 65536) ((List.range b.cores.length).map fun p => s.partUnits block p) (s.ctx b.ctx).runs
    (∀ r, runs = some r → ∃ t, exec (.blockSave block why) s = .next t ∧
      (t.blk block).saved = true ∧ (t.blk block).runs = r.2 ∧ (t.ctx b.ctx).runs = r.1 ∧
      (∀ gi ∈ b.groups, gi < s.groups.length → (t.grp gi).saved = true ∧ (t.grp gi).regs = (s.grp gi).regs ∧
        (t.grp gi).splits = (s.grp gi).splits.map fun sp => if sp.st = .sleep then { sp with st := .ready, wake := 0 } else sp) ∧
      (t.blk block).image = ((s.cl b.cluster).sram.filter fun e =>
        decide (b.scrOff * 4096 ≤ e.1) && decide (e.1 < b.scrOff * 4096 + b.scratch)).map fun e => (e.1 - b.scrOff * 4096, e.2)) ∧
    (runs = none → exec (.blockSave block why) s =
      .next (s.updC b.ctx fun c => { c with savesRefused := c.savesRefused + 1 }))
/-- A saved block for which a place has room returns there: its groups keep registers, splits and list, and its scratchpad image lies in
the new range. -/
def BlocksAreRestored : Prop :=
  ∀ (block : Nat) (place : Place) (s : State), s.restorable block place = true → s.yieldOver block = true →
    placeCluster place < s.clusters.length →
    let b := s.blk block
    ∃ t, exec (.blockRestore block place) s = .next t ∧
      (t.blk block).saved = false ∧ (t.blk block).cluster = placeCluster place ∧ (t.blk block).cores = place.parts.map (·.1) ∧
      (t.blk block).scrOff = place.scrOff ∧
      (∀ gi ∈ b.groups, (t.grp gi).splits = (s.grp gi).splits ∧ (t.grp gi).deferred = (s.grp gi).deferred ∧
        (t.grp gi).regs.v = (s.grp gi).regs.v ∧ (t.grp gi).regs.s = (s.grp gi).regs.s ∧ (t.grp gi).regs.p = (s.grp gi).regs.p) ∧
      (Memory.wf b.image = true → (∀ e ∈ b.image, e.1 < b.scratch) →
        ∀ j, j < b.scratch → getB (t.cl (placeCluster place)).sram (place.scrOff * 4096 + j) = getB b.image j)
/-- The block that a hot cluster would move, where it would move it, is saved and restored there once it may be saved and no queued matrix command
names a tile that moves with it; a save without room is counted. -/
def BlocksMigrate : Prop :=
  ∀ (block : Nat) (place : Place) (s : State), s.chosenMove block (placeCluster place) = true →
    (s.savable block = false ∨ s.tilesIdle block (placeCluster place) = false → exec (.migration block place) s = .next s) ∧
    (s.tilesIdle block (placeCluster place) = true →
    (s.savable block = true → ∀ u, s.saveBlock block .preempt = some u → u.restorable block place = true → ∃ t, exec (.migration block place) s = .next t ∧
      (t.blk block).saved = false ∧ (t.blk block).cluster = placeCluster place ∧ (t.blk block).lastMove = some s.dev.cycle) ∧
    (s.savable block = true → s.saveBlock block .preempt = none → exec (.migration block place) s =
      .next (s.updC (s.blk block).ctx fun c => { c with savesRefused := c.savesRefused + 1 })))

end Sys2Proof.Machine

/-- R170 to R186, R202: LAUNCH queues a checked record, the oldest queued launch is taken, bind records fill and clear table entries,
a block that is next starts, and a launch whose blocks have left completes. -/
def Obligations.LaunchesRunToCompletion : Prop := LaunchQueues ∧ LaunchIsTaken ∧ BindsEntries ∧ BlockStarts ∧ LaunchCompletes
/-- R203, R394 to R397, R405: blocks are saved, restored and migrated; what they hold comes back. -/
def Obligations.BlocksMoveWhole : Prop := BlocksAreSaved ∧ BlocksAreRestored ∧ BlocksMigrate

namespace Sys2Proof.Machine

/-! ## Power and storage errors (R227, R399 to R407, R433 to R435) -/

/-- The words of the thermal event (R416): kind 4, FSTEP, RATIO. -/
def thermalSent (s : State) (fstep ratio : Nat) : Sent :=
  .message s.deviceQueue [0x40014A43, 0, 0xFFFFFFFF, 12, 4, BitVec.ofNat 32 fstep, BitVec.ofNat 32 ratio]
/-- The headroom of R400. -/
def thrOf (thot hot : Nat) : Int := max (-127) (min 127 ((thot : Int) - hot))
/-- The sensors read as given. One at 120 °C or more trips the hardware; else the sample that is due after 10 µs gives every cluster its
HOT, its headroom, its IHR of at most 100, and the limiter's GEN. -/
def SamplesAreTaken : Prop :=
  ∀ (readings : List (BitVec 8 × BitVec 8)) (s : State), ∃ t, exec (.thermhrSample readings) s = .next t ∧
    let sensor (k : Nat) : BitVec 8 × BitVec 8 := readings[k]?.getD (s.cl k).sensor
    let hot := ∃ k, k < s.clusters.length ∧ 120 ≤ (sensor k).1.toNat
    (hot → t.boot.tripped = true ∧ t.groups = [] ∧ t.ctxs = [] ∧ t.mem = []) ∧
    (¬ hot → t.dev.fstep = s.dev.fstep ∧ MemorySame s t ∧
      (s.dev.tick < s.dev.sampledAt + 1000 → t.dev = s.dev) ∧
      (s.dev.sampledAt + 1000 ≤ s.dev.tick → t.dev.sampledAt = s.dev.tick) ∧
      ∀ k, k < s.clusters.length → (t.cl k).sensor = sensor k ∧ (t.cl k).ratio = (s.cl k).ratio ∧
        (t.cl k).therm = if s.dev.tick < s.dev.sampledAt + 1000 then (s.cl k).therm else
          { hot := (sensor k).1, thr := thrOf s.dev.thot (sensor k).1.toNat, ihr := min 100 (sensor k).2.toNat, gen := s.dev.limiter.gen })
/-- The steps of the front-end clock and of a cluster's ratio. -/
def StepsFollowHeat : Prop :=
  (∀ s : State, s.up = true → s.allHot = true → s.dev.fstep < 6 → s.dev.fstepAt + 10000 ≤ s.dev.tick →
    ∃ t x, exec .fstepRaise s = .next t ∧ t.dev = { s.dev with fstep := s.dev.fstep + 1, fstepAt := s.dev.tick } ∧
      t.outbox = s.outbox ++ [thermalSent s (s.dev.fstep + 1) x] ∧ t.clusters = s.clusters) ∧
  (∀ s : State, (s.allHot = false ∨ 6 ≤ s.dev.fstep ∨ s.dev.tick < s.dev.fstepAt + 10000) → exec .fstepRaise s = .next s) ∧
  (∀ s : State, s.allCool = true → 0 < s.dev.fstep → s.dev.coolSince + 100000 ≤ s.dev.tick →
    ∃ t, exec .fstepLower s = .next t ∧ t = { s with dev := { s.dev with fstep := s.dev.fstep - 1, coolSince := s.dev.tick } }) ∧
  ∀ (k : Nat) (s : State), s.up = true → s.dev.fstep = 6 → s.veryHot k = true → (s.cl k).hotFor + 100000 ≤ s.dev.tick → 4 < (s.cl k).ratio →
    ∃ t, exec (.ratioLower k) s = .next t ∧ (t.cl k).ratio = (s.cl k).ratio - 1 ∧ (t.cl k).laneRatio = (s.cl k).laneRatio ∧
      (t.cl k).ratioNext = (s.cl k).ratioNext ++ [((s.cl k).ratio - 1, s.dev.cycle + 64)] ∧
      t.outbox = s.outbox ++ [thermalSent s 6 ((s.cl k).ratio - 1)]
/-- A cluster without issue or engine command for 1,024 cycles is IDLE; of the clusters that ask in one cycle the limiter queues the
wave from GEN on, and admits the oldest at most once in 128 cycles. -/
def LimiterAdmits : Prop :=
  (∀ (k : Nat) (s : State), k < s.clusters.length → (s.cl k).idle = false → s.engineBusy k = false →
    (s.cl k).last + 1025 ≤ s.dev.cycle → ∃ t, exec (.clusterIdle k) s = .next t ∧ t.cl k = { s.cl k with idle := true } ∧
      ∀ j, j ≠ k → t.cl j = s.cl j) ∧
  (∀ (k : Nat) (rest : List Nat) (s : State), s.requests = [] → s.dev.limiter.queue = k :: rest → s.limiterFree = true →
    k < s.clusters.length → ∃ t, exec .clusterAdmission s = .next t ∧
      t.cl k = { s.cl k with idle := false, waiting := false, last := s.dev.cycle } ∧
      t.dev.limiter = { s.dev.limiter with queue := rest, last := some s.dev.cycle }) ∧
  ∀ s : State, 2 ≤ s.requests.length → s.limiterFree = false → ∃ t, exec .clusterAdmission s = .next t ∧
    t.dev.limiter = { s.dev.limiter with
      queue := s.dev.limiter.queue ++ (s.requests.filter fun k => decide (s.dev.limiter.gen ≤ k)) ++
        s.requests.filter fun k => decide (k < s.dev.limiter.gen)
      gen := (s.dev.limiter.gen + 1) % 24 } ∧
    ∀ k ∈ s.requests, k < s.clusters.length → (t.cl k).waiting = true ∧ (t.cl k).idle = true
/-- Filler operations charge the contexts that departed, in proportion to the operations counted at their departure (evenly where there are none:
log 19), and nothing else; a refresh window's end leaves no split held. -/
def FillersAndWindows : Prop :=
  (∀ (k energy : Nat) (s : State), ∃ t, exec (.fillerOperation k energy) s = .next t ∧
    t = { s with ctxs := t.ctxs } ∧ t.ctxs.length = s.ctxs.length ∧
    let who := (s.cl k).departed
    let total := (who.map (·.2)).sum
    ∀ c, c < s.ctxs.length → t.ctx c = { s.ctx c with
      energy := (s.ctx c).energy +
        ((who.filter fun d => d.1 == c).map fun d => if total = 0 then energy / who.length else energy * d.2 / total).sum }) ∧
  ∀ (region : Nat) (s : State), ∃ t, exec (.refreshWindow region) s = .next t ∧ t.unhold = s.unhold ∧
    (region < 16 → 24 * region ≤ s.phase → s.phase < 24 * region + 20 → t = s) ∧
    (s.inWindow region = false → ∀ g ∈ t.groups, ∀ sp ∈ g.splits, sp.held = false)
/-- The number of a kind's count (R419). -/
def errorOf (s : State) (kind cluster : Nat) : ErrCount := s.dev.errors.getD (if kind < 3 then 120 + kind else 5 * cluster + (kind - 3)) default
/-- A corrected error, or one of a clean L2 sector, is counted in its kind and cluster, saturating, and nothing else happens; an uncorrectable
one of a v-register, a tile element or a home sector marks it poisoned, is counted, and is logged in the context that owns it; a link failure is
retried and only counted. -/
def ErrorsAreCounted : Prop :=
  (∀ (n : Nat) (b : Bool) (s : State), exec (.storageError (.link n) b) s =
    .next { s with dev := { s.dev with linkErrors := s.dev.linkErrors + 1 } }) ∧
  (∀ (q : Nat) (s : State), s.dev.errors.length = 123 → ∃ t, exec (.storageError (.l2 q true) false) s = .next t ∧
    t = { s with dev := { s.dev with errors := t.dev.errors } } ∧
    errorOf t 2 0 = { errorOf s 2 0 with corrected := min (2 ^ 32 - 1) ((errorOf s 2 0).corrected + 1) }) ∧
  (∀ (u : StorageUnit) (s : State), (∀ n, u ≠ .link n) → let k := s.unitKind u
    (if k.1 < 3 then 120 + k.1 else 5 * k.2 + (k.1 - 3)) < s.dev.errors.length →
    ∃ t, exec (.storageError u true) s = .next t ∧ t = { s with dev := { s.dev with errors := t.dev.errors } } ∧
      errorOf t k.1 k.2 = { errorOf s k.1 k.2 with corrected := min (2 ^ 32 - 1) ((errorOf s k.1 k.2).corrected + 1) }) ∧
  (∀ (g r l : Nat) (s : State), g < s.groups.length → (s.grp g).who.cluster < 24 → s.dev.errors.length = 123 →
    ∃ t, exec (.storageError (.vreg g r l) false) s = .next t ∧ (t.grp g).regs.vpoison.contains (r * 32 + l) = true ∧
      (t.grp g).regs.v = (s.grp g).regs.v ∧
      (errorOf t 6 (s.grp g).who.cluster).uncorrectable =
        min (2 ^ 32 - 1) ((errorOf s 6 (s.grp g).who.cluster).uncorrectable + 1) ∧
      ((s.grp g).who.ctx < s.ctxs.length → (t.ctx (s.grp g).who.ctx).logSeq = (s.ctx (s.grp g).who.ctx).logSeq + 1)) ∧
  (∀ (k n e c : Nat) (s : State), k < s.clusters.length → n < (s.cl k).tiles.length → ((s.cl k).tiles.getD n default).owner = some c →
    c < s.ctxs.length → ∃ t, exec (.storageError (.tile k n e) false) s = .next t ∧
      ((t.cl k).tiles.getD n default).poison.contains e = true ∧ (t.ctx c).logSeq = (s.ctx c).logSeq + 1) ∧
  ∀ (q : Nat) (s : State), s.dev.errors.length = 123 → ∃ t, exec (.storageError (.gddr q) false) s = .next t ∧
    t.dev.poison.contains q = true ∧ t.mem = s.mem ∧ (errorOf t 0 0).uncorrectable = min (2 ^ 32 - 1) ((errorOf s 0 0).uncorrectable + 1)

end Sys2Proof.Machine

/-- R227, R399 to R404, R406: samples, the steps of the clocks, the slew limiter, fillers and refresh windows. That RATIO falls by 1 in a step,
where R406 says 'toward 4', and that the energy of fillers is divided evenly where neither context has operations that R404 counts are the
model's choices (DESIGN CHOICE, log 19). -/
def Sys2Proof.Machine.PowerIsManagedClaim : Prop := SamplesAreTaken ∧ StepsFollowHeat ∧ LimiterAdmits ∧ FillersAndWindows
/-- R433 to R435: storage errors are counted by kind and cluster, and uncorrectable ones poison what they struck. That failures of a GDDR7 link
have a count of their own is the model's reading (DEDUCED, log 42). -/
def Sys2Proof.Machine.StorageErrorsCountedClaim : Prop := ErrorsAreCounted
/-- R227, R399 to R406, R433 to R435: power, heat, the slew limiter, refresh windows and storage errors. -/
def Obligations.PowerAndErrors : Prop := PowerIsManagedClaim ∧ StorageErrorsCountedClaim

namespace Sys2Proof.Machine

/-! ## Commands of the host (R412 to R419, R425, R429) -/

/-- A command reaches its command queue pair with nothing before it unanswered and with words that are no repeat (R415). -/
abbrev NewCommand (s : State) (c : Cmd) (op : Nat) : Prop :=
  s.isCommandQueue c.q = true ∧ s.queueBusy c.q = false ∧ ∀ e ∈ (s.qp c.q).tags, e.1 ≠ cmdWords op c
/-- The response of R412 with a status and a body. -/
def answerWords (c : Cmd) (op st : Nat) (body : List Word) : List Word :=
  [BitVec.ofNat 32 ((op + 0x80) * 2 ^ 24 + 0x14A43), c.tag, c.ctx, BitVec.ofNat 32 (st * 65536 + 4 * body.length)] ++ body
/-- A command has been answered with a status and one message for each body, and nothing else has left the device. -/
def Answered (s t : State) (c : Cmd) (op st : Nat) (bodies : List (List Word)) : Prop :=
  t.outbox = s.outbox ++ bodies.map fun b => .message c.q (answerWords c op st b)
/-- A command's context is RUNNING and its own (R414). -/
abbrev OwnContext (s : State) (c : Cmd) (k : Nat) : Prop :=
  c.ctx.toNat = k ∧ k < s.ctxs.length ∧ (s.ctx k).queue = c.q ∧ (s.ctx k).st = .running
/-- A command about the device. -/
abbrev DeviceCommand (c : Cmd) (n : Nat) : Prop := c.ctx = 0xFFFFFFFF ∧ c.body.length = n
/-- SUBMIT of a record in memory: a record that passes the checks is a queued launch of generation 0, one that fails is recorded with
its check and answered with status 3; both answers give the launch's number. -/
def SubmitLaunches : Prop :=
  ∀ (c : Cmd) (s u : State) (k : Nat), NewCommand s c 1 → OwnContext s c k → c.len = 3 → wfield (c.w 0) 7 0 = 0 → wfield (c.w 0) 31 11 = 0 →
    s.mustWait k = false →
    (∀ r, s.readRecord k (c.addr 1) none (wfield (c.w 0) 10 8) = .got (.ok r) u → ∃ t, exec (.submit c) s = .next t ∧
      (t.ctx k).launches = (u.ctx k).launches ++
        [{ id := (u.ctx k).nextLaunch, gen := 0, rc := r, recAddr := c.addr 1, state := .queued, started := 0, completed := 0,
           compFail := false, parent := none }] ∧
      Answered s t c 1 0 [[BitVec.ofNat 32 (u.ctx k).nextLaunch]]) ∧
    ∀ n, s.readRecord k (c.addr 1) none (wfield (c.w 0) 10 8) = .got (.error n) u → ∃ t, exec (.submit c) s = .next t ∧
      ((t.ctx k).launches.map fun l => l.state) = ((u.ctx k).launches.map fun l => l.state) ++ [.refused n] ∧
      Answered s t c 1 3 [[BitVec.ofNat 32 (u.ctx k).nextLaunch]]
/-- CTX creates a context on an unbound window queue pair; with its destroy bit it ends one: its groups are gone, its memory is unmapped. -/
def ContextsComeAndGo : Prop :=
  (∀ (c : Cmd) (s : State), NewCommand s c 2 → DeviceCommand c 11 → nbit (c.w 0).toNat 0 = false → wfield (c.w 9) 7 0 ≠ 0 →
    c.addr 1 % 256 = 0 → c.addr 4 % 4 = 0 → (c.w 8).toNat % 65536 = 0 → (s.qp (c.w 10).toNat).used = true →
    (s.qp (c.w 10).toNat).kind = .window → (s.qp (c.w 10).toNat).ctx = none → s.framesUsed + s.framesReserved + 256 ≤ totalFrames →
    ∃ t x, exec (.ctxCreate c) s = .next t ∧ t.ctxs = s.ctxs ++ [x] ∧ x.st = .running ∧ x.queue = c.q ∧ x.trapBase = c.addr 4 ∧
      x.heapBase = c.addr 1 ∧ x.maps = [] ∧ x.launches = [] ∧ x.reserve = 256 ∧
      (t.qp (c.w 10).toNat).ctx = some s.ctxs.length ∧ Answered s t c 2 0 [[BitVec.ofNat 32 s.ctxs.length, x.rkva, x.rkws]]) ∧
  ∀ (c : Cmd) (s : State) (k : Nat), NewCommand s c 2 → OwnContext s c k → nbit (c.w 0).toNat 0 = true → 0 < c.len → c.len ≤ 11 →
    (∀ v ∈ s.sets, v.ctx = some k → ∀ x ∈ v.strips, x.st = .idle) → ∃ t, exec (.ctxDestroy c) s = .next t ∧
      (t.ctx k).st = .destroyed ∧ (t.ctx k).maps = [] ∧ (t.ctx k).windows = [] ∧ (t.ctx k).grants = [] ∧
      (∀ g ∈ t.groups, g.who.ctx = k → g.live = false) ∧ (∀ v ∈ t.sets, v.ctx ≠ some k) ∧ Answered s t c 2 0 [[]]
/-- MAP of an unpinned range, of a grant; UNMAP of a range of pages, and of windows, answered once what went through them has completed (R212);
XLATE of an address in an unpinned range. -/
def MappingsChange : Prop :=
  (∀ (c : Cmd) (s : State) (k : Nat), NewCommand s c 3 → OwnContext s c k → c.len = 4 → (c.w 3).toNat % 4 = 0 → nbit (c.w 3).toNat 5 = false →
    c.addr 0 % 65536 = 0 → (c.w 2).toNat % 65536 = 0 → c.addr 0 + (c.w 2).toNat ≤ 2 ^ 56 →
    (s.ctx k).overlaps (c.addr 0) (c.w 2).toNat = false → ∃ t, exec (.map c) s = .next t ∧
      t.ctx k = { s.ctx k with maps := (s.ctx k).maps ++
                    [{ va := c.addr 0, len := (c.w 2).toNat, r := nbit (c.w 3).toNat 2, w := nbit (c.w 3).toNat 3,
                       x := nbit (c.w 3).toNat 4, pin := false, pages := [] }] } ∧ t.mem = s.mem ∧
      Answered s t c 3 0 [[]]) ∧
  (∀ (c : Cmd) (s : State) (k : Nat), NewCommand s c 3 → OwnContext s c k → c.len = 4 → (c.w 3).toNat % 4 = 3 →
    c.addr 0 % 2097152 = 0 → (c.w 2).toNat % 2097152 = 0 → c.addr 0 + (c.w 2).toNat ≤ 0x600000000 →
    (∀ g ∈ (s.ctx k).grants, meets (c.addr 0) (c.w 2).toNat g.1 g.2 = false) → (s.ctx k).grants.length < 64 →
    ∃ t, exec (.map c) s = .next t ∧ (c.addr 0, (c.w 2).toNat) ∈ (t.ctx k).grants ∧ Answered s t c 3 0 [[]]) ∧
  (∀ (c : Cmd) (s : State) (k : Nat), NewCommand s c 4 → OwnContext s c k → c.len = 4 → (c.w 3).toNat % 4 = 0 →
    c.addr 0 % 65536 = 0 → (c.w 2).toNat % 65536 = 0 → ∃ t, exec (.unmap c) s = .next t ∧
      (∀ m ∈ (t.ctx k).maps, ∀ va, m.va ≤ va → va < m.va + m.len → va < c.addr 0 ∨ c.addr 0 + (c.w 2).toNat ≤ va) ∧
      (∀ page, page * 65536 < c.addr 0 ∨ c.addr 0 + (c.w 2).toNat ≤ page * 65536 →
        sget 0 (t.ctx k).resident page = sget 0 (s.ctx k).resident page) ∧
      (∀ page, c.addr 0 ≤ page * 65536 → page * 65536 < c.addr 0 + (c.w 2).toNat → sget 0 (t.ctx k).resident page = 0) ∧
      Answered s t c 4 0 [[]]) ∧
  (∀ (c : Cmd) (s : State) (k : Nat), NewCommand s c 4 → OwnContext s c k → c.len = 4 →
    let kind := (c.w 3).toNat % 4 + 2
    let hi := c.addr 0 + (c.w 2).toNat
    (kind = 3 ∨ kind = 4) → c.addr 0 % 65536 = 0 → (c.w 2).toNat % 65536 = 0 →
    ((s.ctx k).windows.flatMap fun w => if w.kind = kind then w.cut (c.addr 0) hi else [w]).length ≤ 64 →
    ∃ t, exec (.unmap c) s = .next t ∧ t.mem = s.mem ∧
      (∀ x ∈ (t.ctx k).windows, x.kind = kind → x.va + x.len ≤ c.addr 0 ∨ hi ≤ x.va) ∧
      if s.waitOver (.window k kind (c.addr 0) hi) = true then Answered s t c 4 0 [[]]
      else t.outbox = s.outbox ∧
        t.dev.waits = s.dev.waits ++ [{ q := c.q, cmd := cmdWords 4 c, what := .window k kind (c.addr 0) hi }]) ∧
  ∀ (c : Cmd) (s : State) (k : Nat) (m : MapRange), NewCommand s c 6 → OwnContext s c k → c.len = 3 →
    s.mustWait k = false → ((s.ctx k).maps.find? fun m => decide (m.va ≤ c.addr 0) && decide (c.addr 0 < m.va + m.len)) = some m → m.pin = false →
    nbit (c.w 2).toNat 0 = false → ∃ t, exec (.xlate c) s = .next t ∧
      Answered s t c 6 0 [[BitVec.ofNat 32 (m.r.toNat + 2 * m.w.toNat + 4 * m.x.toNat +
        if sget 0 (s.ctx k).resident (c.addr 0 / 65536) = 0 then 0 else 8)]] ∧ t.mem = s.mem
/-- SYNCSUM answers with the summary's messages and reaps the launches that are over. -/
def SummariesAnswer : Prop :=
  ∀ (c : Cmd) (s : State), NewCommand s c 5 → DeviceCommand c 0 → ∃ t, exec (.syncsum c) s = .next t ∧
    Answered s t c 5 0 (summaryBodies s) ∧ t.groups = s.groups ∧
    ∀ k, (t.ctx k).launches = (s.ctx k).launches.filter fun l => !l.over
/-- VSET binds an unbound set to the context whose descriptor and routes it names; UNBIND releases a set whose strips are IDLE. -/
def ViewSetsBind : Prop :=
  (∀ (c : Cmd) (s u1 u2 u3 : State) (k : Nat) (head d r : List Byte) (v : ViewSet), NewCommand s c 7 → OwnContext s c k → c.len = 5 →
    nbit (c.w 0).toNat 8 = false → (c.w 0).toNat % 4 < s.sets.length → (s.set ((c.w 0).toNat % 4)).ctx = none →
    c.addr 1 % 64 = 0 → c.addr 3 % 64 = 0 → s.mustWait k = false → s.readXl k (c.addr 1) 64 .r = .got (head, false) u1 →
    u1.readXl k (c.addr 1) (64 + 128 * (wfield (wordAt (wordsOf head) 0) 3 0 + 1)) .r = .got (d, false) u2 →
    u2.readXl k (c.addr 3) (64 * (wfield (wordAt (wordsOf head) 0) 3 0 + 1)) .r = .got (r, false) u3 →
    parseSet k (wordsOf d) (wordsOf r) = some v → ∃ t, exec (.vset c) s = .next t ∧ t.set ((c.w 0).toNat % 4) = v ∧
      (∀ n, n ≠ (c.w 0).toNat % 4 → t.set n = s.set n) ∧ Answered s t c 7 0 [[]]) ∧
  ∀ (c : Cmd) (s : State) (k : Nat), NewCommand s c 7 → OwnContext s c k → 0 < c.len → c.len ≤ 5 → nbit (c.w 0).toNat 8 = true →
    (c.w 0).toNat % 4 < s.sets.length → (s.set ((c.w 0).toNat % 4)).ctx = some k →
    (∀ x ∈ (s.set ((c.w 0).toNat % 4)).strips, x.st = .idle) → ∃ t, exec (.vsetUnbind c) s = .next t ∧
      t.set ((c.w 0).toNat % 4) = ViewSet.reset ∧ Answered s t c 7 0 [[]]
/-- The first word of an answer (R412): the message's OP with bit 7 set, VERS 1 and MAGIC 0x4A43. -/
def answerHead (w : Word) : Word := BitVec.ofNat 32 ((w.toNat / 2 ^ 24 % 128 + 128) * 2 ^ 24 + 0x14A43)
/-- WSMODE toward a mode, sent as either instruction of its row: status 6 during a transition, status 0 in that mode already, else a transition
begins and nothing is answered yet. -/
def ModeRequested (i : Cmd → Instr) (load : Bool) : Prop :=
  ∀ (c : Cmd) (s : State), NewCommand s c 8 → DeviceCommand c 1 → nbit (c.w 0).toNat 0 = load →
    ∃ t, exec (i c) s = .next t ∧ t.ws = s.ws ∧ t.mem = s.mem ∧ t.dev.wsLoad = s.dev.wsLoad ∧
      let moving := ∃ w ∈ s.dev.waits, ∃ b, w.what = .mode b
      (moving → t.dev = s.dev ∧ Answered s t c 8 6 [[]]) ∧
      (¬ moving → s.dev.wsLoad = load → t.dev = s.dev ∧ Answered s t c 8 0 [[]]) ∧
      (¬ moving → s.dev.wsLoad ≠ load → t.outbox = s.outbox ∧
        t.dev.waits = s.dev.waits ++ [{ q := c.q, cmd := cmdWords 8 c, what := .mode load }])
/-- A wait that is over is answered with status 0, and a transition of the weight store takes effect: no cache keeps a line of it past LOAD. -/
def WaitsAreAnswered : Prop :=
  ∀ (s : State) (w : Waiting), s.up = true → s.dev.waits = [w] →
    (s.waitOver w.what = false → s.answerWaits = s) ∧
    (s.waitOver w.what = true → let t := s.answerWaits
      t.dev.waits = [] ∧ t.ws = s.ws ∧ t.mem = s.mem ∧
      t.outbox = s.outbox ++ [.message w.q [answerHead (wordAt w.cmd 0), wordAt w.cmd 1, wordAt w.cmd 2, 0]] ∧
      (∀ b, w.what = .mode b → t.dev.wsLoad = b) ∧
      (w.what = .mode false → ∀ core ∈ t.cores, core.scache = [] ∧ ∀ e ∈ core.l1, keyIsWs e.1 = false))
/-- WSMODE, CONFIG and PORTCFG set what they name. -/
def DeviceIsConfigured : Prop :=
  ModeRequested .wsmodeLoad true ∧ ModeRequested .wsmodeRead false ∧ WaitsAreAnswered ∧
  (∀ (c : Cmd) (s : State), NewCommand s c 9 → DeviceCommand c 5 → ∃ t, exec (.config c) s = .next t ∧
    t.dev = { s.dev with deviceId := c.w 0, thot := (c.w 1).toNat % 256, remoteTimeout := if c.w 2 = 0 then 2000 else (c.w 2).toNat,
                         ets := bytesOf [c.w 3, c.w 4] } ∧ Answered s t c 9 0 [[]]) ∧
  ∀ (c : Cmd) (s : State) (port sub : Nat), NewCommand s c 10 → DeviceCommand c 12 → port = wfield (c.w 0) 3 0 → sub = wfield (c.w 0) 5 4 →
    sub < subports port → port < s.ports.length → sub < (s.ports.getD port default).subs.length → 1280 ≤ wfield (c.w 1) 15 0 →
    wfield (c.w 1) 15 0 ≤ 9000 → wfield (c.w 1) 27 16 ≠ 4095 → wfield (c.w 3) 7 0 ≤ 32 → wfield (c.w 3) 15 8 ≤ 128 →
    ∃ t, exec (.portcfg c) s = .next t ∧ t.subport port sub = { s.subport port sub with
      mtu := wfield (c.w 1) 15 0, vid := wfield (c.w 1) 27 16, pcp := wfield (c.w 1) 30 28, ip4 := c.w 2, ip4len := wfield (c.w 3) 7 0,
      ip6 := (c.body.drop 4).take 4, ip6len := wfield (c.w 3) 15 8, gateway := (c.body.drop 8).take 4 } ∧ Answered s t c 10 0 [[]]
/-- FLASH: BEGIN erases a slot that does not run, WRITE puts the next bytes into it, COMMIT of an accepted image writes its record. -/
def FlashIsWritten : Prop :=
  (∀ (c : Cmd) (s : State) (n : Nat), NewCommand s c 11 → DeviceCommand c 1 → (c.w 0).toNat % 4 = 0 → (c.w 0).toNat / 256 % 2 = n →
    s.boot.seqOpen = none → n ≠ s.boot.running → n < s.boot.slots.length → ∃ t, exec (.flashBegin c) s = .next t ∧
      t.boot = { s.boot with slots := s.boot.slots.set n { data := [], record := none },
                             seqOpen := some { q := c.q, slot := n, next := 0 } } ∧ Answered s t c 11 0 [[]]) ∧
  (∀ (c : Cmd) (s : State) (n off : Nat), NewCommand s c 11 → c.ctx = 0xFFFFFFFF → (c.w 0).toNat % 4 = 1 → (c.w 0).toNat / 256 % 2 = n →
    (c.w 1).toNat = off → off % 64 = 0 → (c.w 2).toNat % 64 = 0 → (c.w 2).toNat ≤ 4032 → 4 * c.len = 12 + (c.w 2).toNat →
    s.boot.seqOpen = some { q := c.q, slot := n, next := off } → off + (c.w 2).toNat + 64 ≤ 16777216 → n < s.boot.slots.length →
    ∃ t, exec (.flashWrite c) s = .next t ∧ t.boot.seqOpen = some { q := c.q, slot := n, next := off + (c.w 2).toNat } ∧
      getBs (t.boot.slots.getD n default).data off (c.w 2).toNat = bytesOf (c.body.drop 3) ∧
      (∀ a, a < off ∨ off + (c.w 2).toNat ≤ a → getB (t.boot.slots.getD n default).data a = getB (s.boot.slots.getD n default).data a) ∧
      Answered s t c 11 0 [[]]) ∧
  ∀ (c : Cmd) (s : State) (n next : Nat), NewCommand s c 11 → DeviceCommand c 1 → (c.w 0).toNat % 4 = 2 → (c.w 0).toNat / 256 % 2 = n →
    s.boot.seqOpen = some { q := c.q, slot := n, next := next } → n < s.boot.slots.length →
    let f := s.boot.slots.getD n default
    ∃ t, exec (.flashCommit c) s = .next t ∧ t.boot.seqOpen = none ∧
      if f.accepted s.boot.svnMin = true ∧ f.size ≤ next then
        t.boot.slots = s.boot.slots.set n { f with record := some (s.nextGen n, f.size) } ∧
          Answered s t c 11 0 [[BitVec.ofNat 32 (s.nextGen n)]]
      else t.boot.slots = s.boot.slots ∧ Answered s t c 11 8 [[]]
/-- A message whose first word is not a command's is answered with status 1 and changes nothing else; a repeat of a command sends again
what answered it and is not performed. -/
def OddMessages : Prop :=
  (∀ (q : Nat) (m : List Word) (s : State), s.isCommandQueue q = true → s.queueBusy q = false → (∀ e ∈ (s.qp q).tags, e.1 ≠ m) →
    (wordAt m 0).toNat % 2 ^ 24 ≠ 0x14A43 → ∃ t, exec (.malformedMessage q m) s = .next t ∧
      t.outbox = s.outbox ++ [.message q [answerHead (wordAt m 0), wordAt m 1, wordAt m 2, 0x10000]] ∧
      t = { s with outbox := t.outbox, qps := t.qps }) ∧
  ∀ (c : Cmd) (s : State) (e : List Word × List (List Word)), s.isCommandQueue c.q = true → s.queueBusy c.q = false →
    ((s.qp c.q).tags.find? fun x => x.1 == cmdWords 3 c) = some e →
    exec (.map c) s = .next { s with outbox := s.outbox ++ e.2.map (.message c.q ·) }

end Sys2Proof.Machine

/-- R413 to R415, R417 to R419: launches, contexts, mappings, translations and summaries that the host commands are made and answered. Three clauses
rest on the model's choices: a refused SUBMIT takes a LAUNCHID and is answered with it and status 3 (DEDUCED, log 34); contexts are numbered in
the order of creation from 0 (DESIGN CHOICE, log 5); a MAP of length 0 is performed (DEDUCED, log 43). -/
def Obligations.ContextCommandsPerform : Prop := SubmitLaunches ∧ ContextsComeAndGo ∧ MappingsChange ∧ SummariesAnswer
/-- R331, R410, R412, R413, R415, R425, R429: view sets, the weight store's mode, configuration, flash, and messages that are no
command or a repeat. That a FLASH COMMIT which fails closes the sequence is the model's reading (DEDUCED, log 45). -/
def Obligations.DeviceCommandsPerform : Prop := ViewSetsBind ∧ DeviceIsConfigured ∧ FlashIsWritten ∧ OddMessages

namespace Sys2Proof.Machine

/-! ## The fabric (R411, R420 to R425) -/

/-- A range of a context that lies in one sector and translates for reads and writes, unpoisoned, to a physical address. -/
abbrev OneSector (s : State) (c va n p : Nat) : Prop :=
  va % 64 + n ≤ 64 ∧ 0 < n ∧ va + n ≤ 2 ^ 56 ∧ p % 64 = va % 64 ∧ s.xlate c va .r = .ok p ∧ s.xlate c va .w = .ok p ∧
    s.dev.poison.contains (p / 64) = false
/-- The bytes from p on have become data; every other byte of the home memory is as before. -/
def BytesBecome (s t : State) (p : Nat) (data : List Byte) : Prop :=
  getBs t.mem p data.length = data ∧ ∀ a, a < p ∨ p + data.length ≤ a → getB t.mem a = getB s.mem a
/-- Unless the context's reserve is drawn on (R387), inbound writes, reads and atomics under a context's RKVA act on its memory and are answered; a
write under RKWS in LOAD mode acts on the weight store, and so does a copy of Clove-M within a grant; any other operation is answered with an
invalid-request NAK. -/
def InboundOperationsAct : Prop :=
  (∀ (off c : Nat) (data : List Byte) (s : State), s.dev.wsLoad = true → c < s.ctxs.length → (s.ctx c).grantGap off data.length = none →
    let t := s.outside (.weightCopy off data)
    getBs t.ws off data.length = data ∧ (∀ a, a < off ∨ off + data.length ≤ a → getB t.ws a = getB s.ws a) ∧ t.mem = s.mem ∧
      t.outbox = s.outbox) ∧
  (∀ (q : Nat) (s : State), s.up = true → (s.qp q).used = true →
    s.outside (.rdmaOther q) = { s with outbox := s.outbox ++ [.rdmaNak q false] }) ∧
  (∀ (q c p : Nat) (key : Word) (src : BitVec 128) (addr : BitVec 64) (data : List Byte) (s : State), s.inboundWaits q = none → s.rdmaKey q key = .va c →
    OneSector s c addr.toNat data.length p → ∃ t, exec (.rdmaWrite q key src addr data) s = .next t ∧
      BytesBecome s t p data ∧ t.outbox = s.outbox ++ [.rdmaAck q]) ∧
  (∀ (q c : Nat) (key : Word) (src : BitVec 128) (addr : BitVec 64) (data : List Byte) (s : State), s.inboundWaits q = none → s.rdmaKey q key = .ws c →
    (s.ctx c).grantGap addr.toNat data.length = none → s.dev.wsLoad = true → ∃ t, exec (.rdmaWrite q key src addr data) s = .next t ∧
      getBs t.ws addr.toNat data.length = data ∧
      (∀ a, a < addr.toNat ∨ addr.toNat + data.length ≤ a → getB t.ws a = getB s.ws a) ∧ t.mem = s.mem ∧
      t.outbox = s.outbox ++ [.rdmaAck q]) ∧
  (∀ (q c p len : Nat) (key : Word) (src : BitVec 128) (addr : BitVec 64) (s : State), s.inboundWaits q = none → s.rdmaKey q key = .va c →
    OneSector s c addr.toNat len p → exec (.rdmaRead q key src addr len) s =
      .next { s with outbox := s.outbox ++ [.rdmaData q (getBs s.mem p len)] }) ∧
  ∀ (q c p : Nat) (key : Word) (src : BitVec 128) (addr x y : BitVec 64) (s : State), s.inboundWaits q = none → s.rdmaKey q key = .va c → addr.toNat % 8 = 0 →
    OneSector s c addr.toNat 8 p →
    let old := leNat (getBs s.mem p 8)
    (∃ t, exec (.rdmaCompareAndSwap q key src addr x y) s = .next t ∧
      BytesBecome s t p (leBytes 8 (if old = x.toNat then y.toNat else old)) ∧
      t.outbox = s.outbox ++ [.rdmaOld q (BitVec.ofNat 64 old)]) ∧
    ∃ t, exec (.rdmaFetchAndAdd q key src addr x) s = .next t ∧ BytesBecome s t p (leBytes 8 (old + x.toNat)) ∧
      t.outbox = s.outbox ++ [.rdmaOld q (BitVec.ofNat 64 old)]
/-- An operation under a key that opens nothing is refused: nothing is written, it is answered with a NAK, and it is recorded. -/
def InboundRefusals : Prop :=
  ∀ (q : Nat) (key : Word) (src : BitVec 128) (addr : BitVec 64) (data : List Byte) (len : Nat) (s : State), s.up = true → s.inboundWaits q = none →
    s.rdmaKey q key = .bad →
    ∀ i ∈ [Instr.rdmaWrite q key src addr data, .rdmaRead q key src addr len], ∃ t ev, exec i s = .next t ∧ t.mem = s.mem ∧ t.ws = s.ws ∧
      t.outbox = s.outbox ++ [ev, .rdmaNak q true] ∧
      t.dev.inbound.getLast? = some { src := src, q := q, addr := addr, kind := 4 }
/-- A well-formed Jarian request acts on its location and is answered with the value before it. -/
def JarianRequestsAct : Prop :=
  ∀ (q c p : Nat) (src : BitVec 128) (m : List Byte) (s : State), s.inboundWaits q = none → jarianOk m = true → s.windowCtx q = some c →
    let sub := field (leAt m 8 4) 7 4
    let n := 2 ^ field (leAt m 8 4) 2 0
    let addr := leAt m 16 8
    let lane : LaneReq := { lane := 0, va := addr, data := leAt m 24 n, cmp := leAt m 32 n }
    OneSector s c addr n p →
    let old := leNat (getBs s.mem p n)
    ∃ t, exec (.jarianAtomicRequest q src m) s = .next t ∧ BytesBecome s t p (leBytes n (atomLanes sub (8 * n) old [lane]).new) ∧
      t.outbox = s.outbox ++ [.jarian q (jarianWords true (leAt m 4 4) sub (field (leAt m 8 4) 2 0) 0 addr old (if sub = 0xA then leAt m 32 8 else 0))]
/-- An operation whose last request is acknowledged, and which has not read the weight store besides, finishes with the data; the request is
gone. -/
def AcknowledgementsFinish : Prop :=
  (∀ (id : Nat) (data : List Byte) (s : State) (w : WinReq) (op : PendOp) (o : Nat), s.winReq? id = some w → w.use = .lanes o →
    s.findOp w.group o = some op → op.kind = .window [id] → w.group < s.groups.length → op.id = o →
    (∀ a, op.acc = some a → a.rkind ≠ 6) → (∀ x ∈ op.vwrites ++ w.acc.vwrites (w.rets data), x.2.1 < 32) →
    ∃ t, exec (.windowAcknowledgement id data) s = .next t ∧
      Finishes (s.dropReq id) t w.group { op with kind := .window [], vwrites := op.vwrites ++ w.acc.vwrites (w.rets data),
                                                  swrites := op.swrites ++ w.acc.swrites (w.rets data),
                                                  flags := op.flags ||| w.atomFlags data }) ∧
  ∀ (q : Nat) (m : List Byte) (s : State) (w : WinReq), m.length = 40 → leAt m 0 4 = 0x81014A41 → leAt m 12 4 = 0 →
    (s.winReqs.find? fun x => x.q == q && x.id % 2 ^ 32 == leAt m 4 4 && x.acc.kind.isAtom && x.failed.isNone) = some w →
    s.winReq? w.id = some w →
    exec (.jarianAtomicResponse q m) s = exec (.windowAcknowledgement w.id ((m.drop 24).take 8)) s ∧
      ∃ t, exec (.jarianAtomicResponse q m) s = .next t
/-- A request of one vector access that fails, or that is unanswered for the remote timeout, drops the access's requests and takes the
split into its handler at the instruction, with the lanes not yet acknowledged as its replay mask. -/
def FailuresTrap : Prop :=
  ∀ (id o i : Nat) (s : State) (w : WinReq) (op : PendOp), (s.winReqs.find? fun q => q.id == id) = some w → w.use = .lanes o →
    w.failed = none → s.findOp w.group o = some op → op.id = o → w.acc.scalar = false →
    i = (s.grp w.group).failTarget op ((lowestLane (reqMask w.acc.lanes)).getD 0) →
    let who : SplitRef := { group := w.group, split := i }
    (s.grp w.group).live? = true → i < (s.grp w.group).splits.length → (s.spl who).trap = false → (s.spl who).st ≠ .parked →
    (s.grp w.group).trapElsewhere i = false → (s.ctx (s.grp w.group).who.ctx).trapBase ≠ 0 →
    let rest := reqMask ((s.winReqs.filter fun x => x.group == w.group && x.use == .lanes o).flatMap fun x => x.acc.lanes)
    let after (t : State) (cause : Nat) : Prop :=
      (t.spl who).trap = true ∧ (t.spl who).pc = BitVec.ofNat 56 (s.ctx (s.grp w.group).who.ctx).trapBase ∧ (t.spl who).tpc = op.pc ∧
        (t.spl who).tcause = BitVec.ofNat 32 cause ∧ (t.spl who).replay = some rest ∧ t.findOp w.group o = none ∧
        ∀ x ∈ t.winReqs, ¬(x.group = w.group ∧ x.use = .lanes o)
    (∃ t, exec (.remoteFault id) s = .next t ∧ after t 0x18) ∧
    (w.sent + 100 * s.dev.remoteTimeout ≤ s.dev.tick → ∃ t, exec (.remoteTimeout id) s = .next t ∧ after t 0x19) ∧
    (s.dev.tick < w.sent + 100 * s.dev.remoteTimeout → exec (.remoteTimeout id) s = .next s)

/-! ## Connections, ports, boot (R356, R409 to R411, R426 to R432, R436) -/

/-- A connection request gives an unused queue pair its kind; the reply to a command connection that asks for a report begins with it. -/
def ConnectionsAreMade : Prop :=
  ∀ (q : Nat) (kind : QKind) (priv : List Byte) (s : State), s.boot.stage = 4 → q < 4096 → (s.qp q).used = false →
    ∃ t data, exec (.cmReq q kind priv) s = .next t ∧ (t.qp q).used = true ∧ (t.qp q).kind = kind ∧ (t.qp q).ctx = none ∧
      (∀ n, n ≠ q → (s.qp n).used = true → t.qp n = s.qp n) ∧ t.outbox = s.outbox ++ [.cmRep q data] ∧ data.length = 196 ∧
      (kind = .command → priv.take 2 = [0x41, 0x54] → 34 ≤ priv.length → data.take 188 = (s.report ((priv.drop 2).take 32)).1) ∧
      (kind = .window → data = List.replicate 196 0)
/-- What arrives at a subport of the breakout: link changes, pauses, address requests; and what is dropped. -/
def PortsAnswer : Prop :=
  (∀ (port sub : Nat) (s : State), s.boot.stage = 4 → sub < subports port → port < s.ports.length →
    sub < (s.ports.getD port default).subs.length →
    let x := s.subport port sub
    (∀ dup, ∃ t, exec (.linkUp port sub dup) s = .next t ∧ t.subport port sub = { x with up := true, linkLocal := !dup } ∧
      t.outbox = s.outbox ++ [.solicitation port sub (linkLocalOf port sub).toNat]) ∧
    (∃ t, exec (.linkDown port sub) s = .next t ∧ t.subport port sub = { x with up := false, linkLocal := false, known := [] }) ∧
    (∀ m, ∃ t, exec (.pfcPause port sub m) s = .next t ∧ t.subport port sub = { x with paused := m }) ∧
    (∀ target, x.up = true → x.ip4len ≠ 0 → netNumber [x.ip4] = target.toNat →
      exec (.arpRequest port sub (BitVec.ofNat 12 x.vid) target) s =
        .next (if x.vid < 4096 then { s with outbox := s.outbox ++ [.arpReply port sub] } else s)) ∧
    (x.up = true → x.linkLocal = true →
      exec (.neighbourSolicitation port sub (BitVec.ofNat 12 x.vid) (linkLocalOf port sub)) s =
        .next (if x.vid < 4096 then { s with outbox := s.outbox ++ [.neighbourReply port sub] } else s))) ∧
  ∀ (port : Nat) (s : State), port < s.ports.length →
    (∃ t, exec (.unacceptedFrame port false) s = .next t ∧ t = { s with ports := t.ports } ∧
      t.ports.getD port default = { s.ports.getD port default with drops := (s.ports.getD port default).drops + 1 }) ∧
    ∃ t, exec (.unacceptedFrame port true) s = .next t ∧ t = { s with ports := t.ports } ∧
      t.ports.getD port default = { s.ports.getD port default with fragments := (s.ports.getD port default).fragments + 1 }
/-- Power-on boots the first accepted image of the order of R427 with the failing clusters fenced, when self-test finds at most two and
memory trains; without an accepted image it stays at stage 1. A trip ends everything but flash and fuses. Before stage 4 nothing leaves the
device, and what arrives is not answered. -/
def BootsAndTrips : Prop :=
  (∀ (s : State) (m : Sent), s.boot.stage ≠ 4 → s.send m = s) ∧
  (∀ (q : Nat) (key : Word) (src : BitVec 128) (addr : BitVec 64) (data : List Byte) (s : State), s.boot.stage ≠ 4 →
    exec (.rdmaWrite q key src addr data) s = .next s) ∧
  (∀ (test : SelfTest) (s : State), popN 24 test.failing.toNat ≤ 2 → test.memoryOk = true → ∃ t, exec (.powerOn test) s = .next t ∧
    t.boot.tripped = false ∧ t.boot.slots = s.boot.slots ∧ t.mem = [] ∧ t.ws = [] ∧ t.ctxs = [] ∧ t.groups = [] ∧ t.dev = Device.reset ∧
    match s.boot.order.find? fun n => (s.boot.slots.getD n default).accepted s.boot.svnMin with
    | none => t.boot.stage = 1
    | some n =>
      let f := s.boot.slots.getD n default
      t.boot.stage = 4 ∧ t.boot.running = n ∧ t.boot.svn = f.svn ∧ t.boot.fwDigest = f.digest ∧
        t.boot.svnMin = (if f.rollup then max s.boot.svnMin f.svn else s.boot.svnMin) ∧
        ∀ k, k < 24 → t.cl k = { Cluster.reset with fenced := test.failing.getLsbD k }) ∧
  (∀ (test : SelfTest) (s : State), (2 < popN 24 test.failing.toNat ∨ test.memoryOk = false) → ∃ t, exec (.powerOn test) s = .next t ∧
    (t.boot.stage = 1 ∨ t.boot.stage = 3) ∧ t.boot.slots = s.boot.slots) ∧
  ∀ s : State, ∃ t, exec .hardwareTrip s = .next t ∧ t.boot.tripped = true ∧ t.boot.slots = s.boot.slots ∧
    t.boot.svnMin = s.boot.svnMin ∧ t.mem = [] ∧ t.ctxs = [] ∧ t.groups = []

end Sys2Proof.Machine

/-- R411, R420, R421, R423, R425: inbound operations act under their key and are refused without one; acknowledgements finish window
accesses, failures and timeouts trap. -/
def Obligations.FabricOperations : Prop :=
  InboundOperationsAct ∧ InboundRefusals ∧ JarianRequestsAct ∧ AcknowledgementsFinish ∧ FailuresTrap
/-- R409 to R411, R426 to R432, R436: connections, ports, boot and the trip. That the reply data of a connection are 196 bytes, 0 where no rule
gives them, is the model's choice (DESIGN CHOICE, log 23), and so is that the memory and the weight store list no byte after power-on or a trip
(DESIGN CHOICE, log 3). -/
def Obligations.ModuleBootsAndConnects : Prop := ConnectionsAreMade ∧ PortsAnswer ∧ BootsAndTrips

namespace Sys2Proof.Machine

/-! ## The step, the decoder, memory and reset -/

/-- The bytes at the PC of the current split, in executable pages, hold an instruction: its words, laid out one after another, decode
to it. -/
def FetchesInstr (s : State) (i : Instr) (rest : List Byte) : Prop :=
  ∃ b : List Byte, decode b = .instr i rest ∧ rest.length < b.length ∧
    ∀ k, k < wordsIn (byteWord b 0) → ∃ p, s.xlate s.curCtx (s.pc + BitVec.ofNat 56 (4 * k)).toNat .x = .ok p ∧
      getBs s.mem p 4 = (b.drop (4 * k)).take 4
/-- Words of the spec's encodings, written out, with what each stands for: SMOV s4, 0 (R60); the loop branches of ch. 22; SADD;
a literal shift; an engine word. -/
def codeBytes (l : List Nat) : List Byte := l.flatMap (leBytes 4)
/-- What an issue makes of its instruction's outcome: a split that is held leaves the state as it was before it, but for its place among the
blocking VACQs (R187, R201). -/
def issued (u : State) (who : SplitRef) (o : Host.Outcome State Fault Refusal) : Host.Outcome State Fault Refusal :=
  match o with
  | .next t => .next (if (t.spl who).held = true then u.heldFrom t who else t)
  | o => o
/-- An event, not an instruction word. -/
def IsEvent (i : Instr) : Prop := toIWord i = .other ∧ ∀ w, i ≠ .illegalOpcode w
/-- What the schedule, the waiting commands and what waits for a context's reserve hold are events. -/
def EventsWait (s : State) : Prop :=
  (∀ t ∈ s.schedule, ∀ i, t.act = .event i → IsEvent i) ∧ (∀ q ∈ s.qps, ∀ i ∈ q.waiting, IsEvent i) ∧
    ∀ w ∈ s.dev.waits, ∀ c i, w.what = .frames c i → IsEvent i

end Sys2Proof.Machine

/-- R12, R13, R55, R56, R160, R187, R188: in a cycle in which nothing is due the splits that issue are chosen; where the bytes at the PC of
the split that issues next decode to an instruction, the step is that instruction's meaning, or leaves the split held; the same for EXIT, which
issues before anything else in the cycle, for an engine instruction that no follow-on offer precedes (R279), and for an issue that the schedule
brings forward. Of two instructions that share an ALU, the first leaves the registers it read to the second, which runs on them; what the second
then writes joins what the first has written. -/
def Obligations.StepRunsDecoded : Prop :=
  (∀ s : State, s.waitingCommand = none → s.stage = .fresh → s.dueEviction = none → s.due = none → s.markWants.limiterDue = false →
    step s = s.markWants.planned.goOn) ∧
  (∀ (s : State) (who : SplitRef), s.wanting.filter s.admitted = [who] → s.heldBy who = none → s.resuming = [] →
    s.planned = { s with stage := .planned, plan := [{ who := who, mate := none }] }) ∧
  (∀ (s : State) (who : SplitRef) (mate : Option SplitRef) (later : List Slot) (i : Instr) (rest : List Byte), s.waitingCommand = none →
    s.stage = .planned → s.plan = { who := who, mate := mate } :: later →
    ((s.dueLate = none ∧ s.schedule = []) ∨ isExit (s.nextWord who) = true) →
    (isEngine (s.nextWord who) = true → s.dueOffer (some who) = none) →
    let regs := (s.grp who.group).regs
    let u := { s with plan := if mate.isNone then later else later.map fun y => if some y.who = mate then { y with src := some regs } else y }
    u.eligible who = true → FetchesInstr (u.begin who) i rest → step s = issued u who (exec i (u.begin who))) ∧
  (∀ (s t : State) (who : SplitRef) (mate : Option SplitRef) (src : GroupRegs) (later : List Slot) (i : Instr) (rest : List Byte),
    s.waitingCommand = none → s.stage = .planned → s.plan = { who := who, mate := mate, src := some src } :: later →
    s.dueLate = none → s.schedule = [] → isEngine (s.nextWord who) = false →
    let u := { s with plan := later }
    let r := (u.begin who).updG who.group fun g => { g with regs := src }
    u.eligible who = true → FetchesInstr r i rest → exec i r = .next t → (t.spl who).held = false →
    let done := t.untrapped (u.begin who) who && (t.spl who).pc != (s.spl who).pc
    step s = .next (t.updG who.group fun g => { g with
      regs := GroupRegs.join (if done then r.scalarDest (r.nextWord who) else none) (s.grp who.group).regs src g.regs })) ∧
  ∀ (s : State) (x : Slot) (who : SplitRef) (k : Nat) (more : List Slot) (later : List Turn) (i : Instr) (rest : List Byte),
    s.waitingCommand = none → s.stage = .planned → s.plan = x :: more → isExit (s.nextWord x.who) = false → s.dueLate = none →
    s.schedule = { cycles := 0, ticks := k, act := .issue who } :: later → s.boot.tripped = false →
    (∀ y ∈ s.plan, y.who.group = who.group → who.split ≤ y.who.split) →
    (s.plan.find? fun y => y.who == who) = some { who := who, mate := none } →
    let v : State := { s with schedule := later, dev := { s.dev with tick := s.dev.tick + k } }
    isEngine (v.nextWord who) = false →
    let u : State := { v with plan := s.plan.filter fun y => y != { who := who, mate := none } }
    u.eligible who = true → FetchesInstr (u.begin who) i rest → step s = issued u who (exec i (u.begin who))
/-- R58, R60, R62, R70 to R72: words of the spec's encodings decode to the instructions they stand for. -/
def Obligations.DecodeWords : Prop :=
  decode (codeBytes [0x00000000]) = .instr (.nop { f := 0 }) [] ∧
  decode (codeBytes [0x01DFFFFA]) = .instr (.bra { f := 0xDFFFFA }) [] ∧
  decode (codeBytes [0x0B001234]) = .instr (.lpad { f := 0x1234 }) [] ∧
  decode (codeBytes [0x40008000, 0x000001D0]) =
    .instr (.smov { sd := 4, sa := 0, imm := false, cf := 0, sb := 464, sc := 0, aux := 0 }) [] ∧
  decode (codeBytes [0x4640404D, 0x00000064]) =
    .instr (.scmpI { sd := 2, sa := 4, imm := true, cf := 5, sb := 100, sc := 0, aux := 0 }) [] ∧
  decode (codeBytes [0xD1400008, 0x00000A0C, 0]) =
    .instr (.temit { d := 0, pe := false, pi := 0, pn := false, sa := 8, imm := 0, sub := 0, va := 0, sc := 5, sb := 12 }) []
/-- R12, R55, R70: decoding the encoding of an instruction gives it back, for every instruction and every value of its operand fields. -/
def Obligations.DecodeEncode : Prop :=
  ∀ (i : Instr) (rest : List Byte), kindOk i = true → toIWord i ≠ .other → decode (bytesOf (encode i) ++ rest) = .instr i rest
/-- Every step keeps the canonical form of the home memory and of the weight store. -/
def Obligations.StepKeepsMemoryForm : Prop :=
  ∀ s t : State, Memory.wf s.mem = true → Memory.wf s.ws = true → step s = .next t → Memory.wf t.mem = true ∧ Memory.wf t.ws = true
/-- No step stops: with events in the schedule, the queues and the waits for a reserve, every step answers a next state. -/
def Obligations.StepNeverStops : Prop := ∀ s : State, EventsWait s → ∃ t, step s = .next t
/-- R222, R226, R399, R400, R410: what reset leaves, where the spec gives it: SPS 4, RATIO 16, IHR 100, THOT 95, the weight store in
LOAD, MTU 9,000. The memory's canonical form holds there; that no byte is listed is the model's choice (log 3). -/
def Obligations.ResetState : Prop :=
  (∀ k, k < 24 → (State.reset.cl k).sps = 4 ∧ (State.reset.cl k).ratio = 16 ∧ (State.reset.cl k).therm.ihr = 100) ∧
  State.reset.dev.thot = 95 ∧ State.reset.dev.wsLoad = true ∧ State.reset.dev.fstep = 0 ∧
  (∀ p n, p < 12 → n < 4 → (State.reset.subport p n).mtu = 9000) ∧ State.reset.groups = [] ∧ State.reset.ctxs = [] ∧
  Memory.wf State.reset.mem = true ∧ Memory.wf State.reset.ws = true
end

