-- ==== Sys2Proof/Laws/Sparse.lean ====
section
/-!
SUPPORT. The laws of the sparse container: read after write, and that writes, removals and filters keep the canonical form.
-/

namespace Sys2Proof.Machine

variable {α : Type}

theorem sget_sput (d : α) (m : Sparse α) (k j : Nat) (v : α) :
    sget d (sput m k v) j = if j = k then v else sget d m j := by
  induction m with
  | nil => by_cases h : k = j <;> by_cases h' : j = k <;> simp_all [sput, sget]
  | cons h t ih =>
    obtain ⟨i, x⟩ := h
    by_cases hj : j = k
    · subst hj
      by_cases hi : i = j
      · simp [sput, sget, hi]
      · by_cases hl : j < i <;> simp [sput, sget, hi, hl, ih]
    · by_cases hi : i = k
      · subst hi; simp [sput, sget, hj, Ne.symm hj]
      · by_cases hl : k < i <;> simp [sput, sget, hi, hl, hj, Ne.symm hj, ih]

theorem sget_sdel (d : α) (m : Sparse α) (k j : Nat) : sget d (sdel m k) j = if j = k then d else sget d m j := by
  induction m with
  | nil => simp [sdel, sget]
  | cons h t ih =>
    obtain ⟨i, x⟩ := h
    have ih' : sget d (t.filter fun e => e.1 != k) j = if j = k then d else sget d t j := ih
    by_cases hi : i = k
    · subst hi
      by_cases hj : j = i
      · subst hj; simpa [sdel] using ih'
      · simp [sdel, ih', sget, hj, Ne.symm hj]
    · by_cases hj : j = k
      · subst hj; simp [sdel, sget, hi, ih']
      · simp [sdel, sget, hi, hj, ih']

/-- Reading after writing. -/
theorem sget_sset [DecidableEq α] (d : α) (m : Sparse α) (k j : Nat) (v : α) :
    sget d (sset d m k v) j = if j = k then v else sget d m j := by
  unfold sset
  split
  · next h => subst h; exact sget_sdel _ _ _ _
  · exact sget_sput d m k j v

@[simp] theorem sget_sset_self [DecidableEq α] (d : α) (m : Sparse α) (k : Nat) (v : α) : sget d (sset d m k v) k = v := by
  simp [sget_sset]

theorem sget_sset_ne [DecidableEq α] (d : α) (m : Sparse α) {k j : Nat} (v : α) (h : j ≠ k) :
    sget d (sset d m k v) j = sget d m j := by
  simp [sget_sset, h]

/-! ## The canonical form -/

variable [DecidableEq α]

theorem swfFrom_mono (d : α) {a b : Nat} (m : Sparse α) (h : a ≤ b) (w : swfFrom d b m = true) : swfFrom d a m = true := by
  cases m with
  | nil => rfl
  | cons e t =>
    obtain ⟨i, v⟩ := e
    simp only [swfFrom, Bool.and_eq_true, decide_eq_true_eq] at w ⊢
    exact ⟨⟨by omega, w.1.2⟩, w.2⟩

theorem swfFrom_filter (d : α) (p : Nat × α → Bool) (b : Nat) (m : Sparse α) (w : swfFrom d b m = true) :
    swfFrom d b (m.filter p) = true := by
  induction m generalizing b with
  | nil => rfl
  | cons e t ih =>
    obtain ⟨i, v⟩ := e
    simp only [swfFrom, Bool.and_eq_true, decide_eq_true_eq] at w
    simp only [List.filter_cons]
    split
    · simp only [swfFrom, Bool.and_eq_true, decide_eq_true_eq]
      exact ⟨w.1, ih _ w.2⟩
    · exact swfFrom_mono d _ (by omega) (ih _ w.2)

theorem swfFrom_sput (d : α) (b k : Nat) (v : α) (m : Sparse α) (hv : v ≠ d) (hb : b ≤ k) (w : swfFrom d b m = true) :
    swfFrom d b (sput m k v) = true := by
  induction m generalizing b with
  | nil => simp [sput, swfFrom, hv, hb]
  | cons e t ih =>
    obtain ⟨i, x⟩ := e
    simp only [swfFrom, Bool.and_eq_true, decide_eq_true_eq] at w
    simp only [sput]
    split
    · next h => subst h; simp [swfFrom, hv, hb, w.2]
    · split
      · next h => simp [swfFrom, hv, hb, w.1.2, w.2]; omega
      · next h h' =>
        simp only [swfFrom, Bool.and_eq_true, decide_eq_true_eq]
        exact ⟨w.1, ih _ (by omega) w.2⟩

/-- A filter keeps the canonical form. -/
theorem swf_filter (d : α) (p : Nat × α → Bool) (m : Sparse α) (w : swf d m = true) : swf d (m.filter p) = true :=
  swfFrom_filter d p 0 m w

/-- A write keeps the canonical form. -/
theorem swf_sset (d : α) (m : Sparse α) (k : Nat) (v : α) (w : swf d m = true) : swf d (sset d m k v) = true := by
  unfold sset
  split
  · exact swf_filter d _ m w
  · next h => exact swfFrom_sput d 0 k v m h (Nat.zero_le _) w

theorem swf_sdropWhere (d : α) (p : Nat → Bool) (m : Sparse α) (w : swf d m = true) : swf d (sdropWhere p m) = true :=
  swf_filter d _ m w

end Sys2Proof.Machine
end

