-- ==== Sys2Proof/Laws/State.lean ====
section
/-!
SUPPORT. What each update of the state leaves in each field: one lemma per field per update, so that no proof unfolds a record
update; then what the accessors read after an update.
-/

namespace Sys2Proof.Machine

@[simp] theorem State.updG_mem (s : State) (g : Nat) (f : Group → Group) : (s.updG g f).mem = s.mem := rfl
@[simp] theorem State.updG_ws (s : State) (g : Nat) (f : Group → Group) : (s.updG g f).ws = s.ws := rfl
@[simp] theorem State.updG_dev (s : State) (g : Nat) (f : Group → Group) : (s.updG g f).dev = s.dev := rfl
@[simp] theorem State.updG_groups (s : State) (g : Nat) (f : Group → Group) : (s.updG g f).groups = upd s.groups g f := rfl
@[simp] theorem State.updG_blocks (s : State) (g : Nat) (f : Group → Group) : (s.updG g f).blocks = s.blocks := rfl
@[simp] theorem State.updG_ctxs (s : State) (g : Nat) (f : Group → Group) : (s.updG g f).ctxs = s.ctxs := rfl
@[simp] theorem State.updG_cores (s : State) (g : Nat) (f : Group → Group) : (s.updG g f).cores = s.cores := rfl
@[simp] theorem State.updG_clusters (s : State) (g : Nat) (f : Group → Group) : (s.updG g f).clusters = s.clusters := rfl
@[simp] theorem State.updG_sets (s : State) (g : Nat) (f : Group → Group) : (s.updG g f).sets = s.sets := rfl
@[simp] theorem State.updG_qps (s : State) (g : Nat) (f : Group → Group) : (s.updG g f).qps = s.qps := rfl
@[simp] theorem State.updG_ports (s : State) (g : Nat) (f : Group → Group) : (s.updG g f).ports = s.ports := rfl
@[simp] theorem State.updG_boot (s : State) (g : Nat) (f : Group → Group) : (s.updG g f).boot = s.boot := rfl
@[simp] theorem State.updG_winReqs (s : State) (g : Nat) (f : Group → Group) : (s.updG g f).winReqs = s.winReqs := rfl
@[simp] theorem State.updG_nextId (s : State) (g : Nat) (f : Group → Group) : (s.updG g f).nextId = s.nextId := rfl
@[simp] theorem State.updG_schedule (s : State) (g : Nat) (f : Group → Group) : (s.updG g f).schedule = s.schedule := rfl
@[simp] theorem State.updG_stage (s : State) (g : Nat) (f : Group → Group) : (s.updG g f).stage = s.stage := rfl
@[simp] theorem State.updG_plan (s : State) (g : Nat) (f : Group → Group) : (s.updG g f).plan = s.plan := rfl
@[simp] theorem State.updG_cur (s : State) (g : Nat) (f : Group → Group) : (s.updG g f).cur = s.cur := rfl
@[simp] theorem State.updG_fresh (s : State) (g : Nat) (f : Group → Group) : (s.updG g f).fresh = s.fresh := rfl
@[simp] theorem State.updG_outbox (s : State) (g : Nat) (f : Group → Group) : (s.updG g f).outbox = s.outbox := rfl

@[simp] theorem State.updC_mem (s : State) (c : Nat) (f : Context → Context) : (s.updC c f).mem = s.mem := rfl
@[simp] theorem State.updC_ws (s : State) (c : Nat) (f : Context → Context) : (s.updC c f).ws = s.ws := rfl
@[simp] theorem State.updC_dev (s : State) (c : Nat) (f : Context → Context) : (s.updC c f).dev = s.dev := rfl
@[simp] theorem State.updC_groups (s : State) (c : Nat) (f : Context → Context) : (s.updC c f).groups = s.groups := rfl
@[simp] theorem State.updC_blocks (s : State) (c : Nat) (f : Context → Context) : (s.updC c f).blocks = s.blocks := rfl
@[simp] theorem State.updC_ctxs (s : State) (c : Nat) (f : Context → Context) : (s.updC c f).ctxs = upd s.ctxs c f := rfl
@[simp] theorem State.updC_cores (s : State) (c : Nat) (f : Context → Context) : (s.updC c f).cores = s.cores := rfl
@[simp] theorem State.updC_clusters (s : State) (c : Nat) (f : Context → Context) : (s.updC c f).clusters = s.clusters := rfl
@[simp] theorem State.updC_sets (s : State) (c : Nat) (f : Context → Context) : (s.updC c f).sets = s.sets := rfl
@[simp] theorem State.updC_qps (s : State) (c : Nat) (f : Context → Context) : (s.updC c f).qps = s.qps := rfl
@[simp] theorem State.updC_ports (s : State) (c : Nat) (f : Context → Context) : (s.updC c f).ports = s.ports := rfl
@[simp] theorem State.updC_boot (s : State) (c : Nat) (f : Context → Context) : (s.updC c f).boot = s.boot := rfl
@[simp] theorem State.updC_winReqs (s : State) (c : Nat) (f : Context → Context) : (s.updC c f).winReqs = s.winReqs := rfl
@[simp] theorem State.updC_nextId (s : State) (c : Nat) (f : Context → Context) : (s.updC c f).nextId = s.nextId := rfl
@[simp] theorem State.updC_schedule (s : State) (c : Nat) (f : Context → Context) : (s.updC c f).schedule = s.schedule := rfl
@[simp] theorem State.updC_stage (s : State) (c : Nat) (f : Context → Context) : (s.updC c f).stage = s.stage := rfl
@[simp] theorem State.updC_plan (s : State) (c : Nat) (f : Context → Context) : (s.updC c f).plan = s.plan := rfl
@[simp] theorem State.updC_cur (s : State) (c : Nat) (f : Context → Context) : (s.updC c f).cur = s.cur := rfl
@[simp] theorem State.updC_fresh (s : State) (c : Nat) (f : Context → Context) : (s.updC c f).fresh = s.fresh := rfl
@[simp] theorem State.updC_outbox (s : State) (c : Nat) (f : Context → Context) : (s.updC c f).outbox = s.outbox := rfl

@[simp] theorem State.updCl_mem (s : State) (k : Nat) (f : Cluster → Cluster) : (s.updCl k f).mem = s.mem := rfl
@[simp] theorem State.updCl_ws (s : State) (k : Nat) (f : Cluster → Cluster) : (s.updCl k f).ws = s.ws := rfl
@[simp] theorem State.updCl_dev (s : State) (k : Nat) (f : Cluster → Cluster) : (s.updCl k f).dev = s.dev := rfl
@[simp] theorem State.updCl_groups (s : State) (k : Nat) (f : Cluster → Cluster) : (s.updCl k f).groups = s.groups := rfl
@[simp] theorem State.updCl_blocks (s : State) (k : Nat) (f : Cluster → Cluster) : (s.updCl k f).blocks = s.blocks := rfl
@[simp] theorem State.updCl_ctxs (s : State) (k : Nat) (f : Cluster → Cluster) : (s.updCl k f).ctxs = s.ctxs := rfl
@[simp] theorem State.updCl_cores (s : State) (k : Nat) (f : Cluster → Cluster) : (s.updCl k f).cores = s.cores := rfl
@[simp] theorem State.updCl_clusters (s : State) (k : Nat) (f : Cluster → Cluster) : (s.updCl k f).clusters = upd s.clusters k f := rfl
@[simp] theorem State.updCl_sets (s : State) (k : Nat) (f : Cluster → Cluster) : (s.updCl k f).sets = s.sets := rfl
@[simp] theorem State.updCl_qps (s : State) (k : Nat) (f : Cluster → Cluster) : (s.updCl k f).qps = s.qps := rfl
@[simp] theorem State.updCl_ports (s : State) (k : Nat) (f : Cluster → Cluster) : (s.updCl k f).ports = s.ports := rfl
@[simp] theorem State.updCl_boot (s : State) (k : Nat) (f : Cluster → Cluster) : (s.updCl k f).boot = s.boot := rfl
@[simp] theorem State.updCl_winReqs (s : State) (k : Nat) (f : Cluster → Cluster) : (s.updCl k f).winReqs = s.winReqs := rfl
@[simp] theorem State.updCl_nextId (s : State) (k : Nat) (f : Cluster → Cluster) : (s.updCl k f).nextId = s.nextId := rfl
@[simp] theorem State.updCl_schedule (s : State) (k : Nat) (f : Cluster → Cluster) : (s.updCl k f).schedule = s.schedule := rfl
@[simp] theorem State.updCl_stage (s : State) (k : Nat) (f : Cluster → Cluster) : (s.updCl k f).stage = s.stage := rfl
@[simp] theorem State.updCl_plan (s : State) (k : Nat) (f : Cluster → Cluster) : (s.updCl k f).plan = s.plan := rfl
@[simp] theorem State.updCl_cur (s : State) (k : Nat) (f : Cluster → Cluster) : (s.updCl k f).cur = s.cur := rfl
@[simp] theorem State.updCl_fresh (s : State) (k : Nat) (f : Cluster → Cluster) : (s.updCl k f).fresh = s.fresh := rfl
@[simp] theorem State.updCl_outbox (s : State) (k : Nat) (f : Cluster → Cluster) : (s.updCl k f).outbox = s.outbox := rfl

@[simp] theorem State.updCore_mem (s : State) (k : Nat) (f : CoreSt → CoreSt) : (s.updCore k f).mem = s.mem := rfl
@[simp] theorem State.updCore_ws (s : State) (k : Nat) (f : CoreSt → CoreSt) : (s.updCore k f).ws = s.ws := rfl
@[simp] theorem State.updCore_dev (s : State) (k : Nat) (f : CoreSt → CoreSt) : (s.updCore k f).dev = s.dev := rfl
@[simp] theorem State.updCore_groups (s : State) (k : Nat) (f : CoreSt → CoreSt) : (s.updCore k f).groups = s.groups := rfl
@[simp] theorem State.updCore_blocks (s : State) (k : Nat) (f : CoreSt → CoreSt) : (s.updCore k f).blocks = s.blocks := rfl
@[simp] theorem State.updCore_ctxs (s : State) (k : Nat) (f : CoreSt → CoreSt) : (s.updCore k f).ctxs = s.ctxs := rfl
@[simp] theorem State.updCore_cores (s : State) (k : Nat) (f : CoreSt → CoreSt) : (s.updCore k f).cores = upd s.cores k f := rfl
@[simp] theorem State.updCore_clusters (s : State) (k : Nat) (f : CoreSt → CoreSt) : (s.updCore k f).clusters = s.clusters := rfl
@[simp] theorem State.updCore_sets (s : State) (k : Nat) (f : CoreSt → CoreSt) : (s.updCore k f).sets = s.sets := rfl
@[simp] theorem State.updCore_qps (s : State) (k : Nat) (f : CoreSt → CoreSt) : (s.updCore k f).qps = s.qps := rfl
@[simp] theorem State.updCore_ports (s : State) (k : Nat) (f : CoreSt → CoreSt) : (s.updCore k f).ports = s.ports := rfl
@[simp] theorem State.updCore_boot (s : State) (k : Nat) (f : CoreSt → CoreSt) : (s.updCore k f).boot = s.boot := rfl
@[simp] theorem State.updCore_winReqs (s : State) (k : Nat) (f : CoreSt → CoreSt) : (s.updCore k f).winReqs = s.winReqs := rfl
@[simp] theorem State.updCore_nextId (s : State) (k : Nat) (f : CoreSt → CoreSt) : (s.updCore k f).nextId = s.nextId := rfl
@[simp] theorem State.updCore_schedule (s : State) (k : Nat) (f : CoreSt → CoreSt) : (s.updCore k f).schedule = s.schedule := rfl
@[simp] theorem State.updCore_stage (s : State) (k : Nat) (f : CoreSt → CoreSt) : (s.updCore k f).stage = s.stage := rfl
@[simp] theorem State.updCore_plan (s : State) (k : Nat) (f : CoreSt → CoreSt) : (s.updCore k f).plan = s.plan := rfl
@[simp] theorem State.updCore_cur (s : State) (k : Nat) (f : CoreSt → CoreSt) : (s.updCore k f).cur = s.cur := rfl
@[simp] theorem State.updCore_fresh (s : State) (k : Nat) (f : CoreSt → CoreSt) : (s.updCore k f).fresh = s.fresh := rfl
@[simp] theorem State.updCore_outbox (s : State) (k : Nat) (f : CoreSt → CoreSt) : (s.updCore k f).outbox = s.outbox := rfl

@[simp] theorem State.updB_mem (s : State) (b : Nat) (f : Block → Block) : (s.updB b f).mem = s.mem := rfl
@[simp] theorem State.updB_ws (s : State) (b : Nat) (f : Block → Block) : (s.updB b f).ws = s.ws := rfl
@[simp] theorem State.updB_dev (s : State) (b : Nat) (f : Block → Block) : (s.updB b f).dev = s.dev := rfl
@[simp] theorem State.updB_groups (s : State) (b : Nat) (f : Block → Block) : (s.updB b f).groups = s.groups := rfl
@[simp] theorem State.updB_blocks (s : State) (b : Nat) (f : Block → Block) : (s.updB b f).blocks = upd s.blocks b f := rfl
@[simp] theorem State.updB_ctxs (s : State) (b : Nat) (f : Block → Block) : (s.updB b f).ctxs = s.ctxs := rfl
@[simp] theorem State.updB_cores (s : State) (b : Nat) (f : Block → Block) : (s.updB b f).cores = s.cores := rfl
@[simp] theorem State.updB_clusters (s : State) (b : Nat) (f : Block → Block) : (s.updB b f).clusters = s.clusters := rfl
@[simp] theorem State.updB_sets (s : State) (b : Nat) (f : Block → Block) : (s.updB b f).sets = s.sets := rfl
@[simp] theorem State.updB_qps (s : State) (b : Nat) (f : Block → Block) : (s.updB b f).qps = s.qps := rfl
@[simp] theorem State.updB_ports (s : State) (b : Nat) (f : Block → Block) : (s.updB b f).ports = s.ports := rfl
@[simp] theorem State.updB_boot (s : State) (b : Nat) (f : Block → Block) : (s.updB b f).boot = s.boot := rfl
@[simp] theorem State.updB_winReqs (s : State) (b : Nat) (f : Block → Block) : (s.updB b f).winReqs = s.winReqs := rfl
@[simp] theorem State.updB_nextId (s : State) (b : Nat) (f : Block → Block) : (s.updB b f).nextId = s.nextId := rfl
@[simp] theorem State.updB_schedule (s : State) (b : Nat) (f : Block → Block) : (s.updB b f).schedule = s.schedule := rfl
@[simp] theorem State.updB_stage (s : State) (b : Nat) (f : Block → Block) : (s.updB b f).stage = s.stage := rfl
@[simp] theorem State.updB_plan (s : State) (b : Nat) (f : Block → Block) : (s.updB b f).plan = s.plan := rfl
@[simp] theorem State.updB_cur (s : State) (b : Nat) (f : Block → Block) : (s.updB b f).cur = s.cur := rfl
@[simp] theorem State.updB_fresh (s : State) (b : Nat) (f : Block → Block) : (s.updB b f).fresh = s.fresh := rfl
@[simp] theorem State.updB_outbox (s : State) (b : Nat) (f : Block → Block) : (s.updB b f).outbox = s.outbox := rfl

@[simp] theorem State.updSet_mem (s : State) (k : Nat) (f : ViewSet → ViewSet) : (s.updSet k f).mem = s.mem := rfl
@[simp] theorem State.updSet_ws (s : State) (k : Nat) (f : ViewSet → ViewSet) : (s.updSet k f).ws = s.ws := rfl
@[simp] theorem State.updSet_dev (s : State) (k : Nat) (f : ViewSet → ViewSet) : (s.updSet k f).dev = s.dev := rfl
@[simp] theorem State.updSet_groups (s : State) (k : Nat) (f : ViewSet → ViewSet) : (s.updSet k f).groups = s.groups := rfl
@[simp] theorem State.updSet_blocks (s : State) (k : Nat) (f : ViewSet → ViewSet) : (s.updSet k f).blocks = s.blocks := rfl
@[simp] theorem State.updSet_ctxs (s : State) (k : Nat) (f : ViewSet → ViewSet) : (s.updSet k f).ctxs = s.ctxs := rfl
@[simp] theorem State.updSet_cores (s : State) (k : Nat) (f : ViewSet → ViewSet) : (s.updSet k f).cores = s.cores := rfl
@[simp] theorem State.updSet_clusters (s : State) (k : Nat) (f : ViewSet → ViewSet) : (s.updSet k f).clusters = s.clusters := rfl
@[simp] theorem State.updSet_sets (s : State) (k : Nat) (f : ViewSet → ViewSet) : (s.updSet k f).sets = upd s.sets k f := rfl
@[simp] theorem State.updSet_qps (s : State) (k : Nat) (f : ViewSet → ViewSet) : (s.updSet k f).qps = s.qps := rfl
@[simp] theorem State.updSet_ports (s : State) (k : Nat) (f : ViewSet → ViewSet) : (s.updSet k f).ports = s.ports := rfl
@[simp] theorem State.updSet_boot (s : State) (k : Nat) (f : ViewSet → ViewSet) : (s.updSet k f).boot = s.boot := rfl
@[simp] theorem State.updSet_winReqs (s : State) (k : Nat) (f : ViewSet → ViewSet) : (s.updSet k f).winReqs = s.winReqs := rfl
@[simp] theorem State.updSet_nextId (s : State) (k : Nat) (f : ViewSet → ViewSet) : (s.updSet k f).nextId = s.nextId := rfl
@[simp] theorem State.updSet_schedule (s : State) (k : Nat) (f : ViewSet → ViewSet) : (s.updSet k f).schedule = s.schedule := rfl
@[simp] theorem State.updSet_stage (s : State) (k : Nat) (f : ViewSet → ViewSet) : (s.updSet k f).stage = s.stage := rfl
@[simp] theorem State.updSet_plan (s : State) (k : Nat) (f : ViewSet → ViewSet) : (s.updSet k f).plan = s.plan := rfl
@[simp] theorem State.updSet_cur (s : State) (k : Nat) (f : ViewSet → ViewSet) : (s.updSet k f).cur = s.cur := rfl
@[simp] theorem State.updSet_fresh (s : State) (k : Nat) (f : ViewSet → ViewSet) : (s.updSet k f).fresh = s.fresh := rfl
@[simp] theorem State.updSet_outbox (s : State) (k : Nat) (f : ViewSet → ViewSet) : (s.updSet k f).outbox = s.outbox := rfl

@[simp] theorem State.updQ_mem (s : State) (q : Nat) (f : QueuePair → QueuePair) : (s.updQ q f).mem = s.mem := rfl
@[simp] theorem State.updQ_ws (s : State) (q : Nat) (f : QueuePair → QueuePair) : (s.updQ q f).ws = s.ws := rfl
@[simp] theorem State.updQ_dev (s : State) (q : Nat) (f : QueuePair → QueuePair) : (s.updQ q f).dev = s.dev := rfl
@[simp] theorem State.updQ_groups (s : State) (q : Nat) (f : QueuePair → QueuePair) : (s.updQ q f).groups = s.groups := rfl
@[simp] theorem State.updQ_blocks (s : State) (q : Nat) (f : QueuePair → QueuePair) : (s.updQ q f).blocks = s.blocks := rfl
@[simp] theorem State.updQ_ctxs (s : State) (q : Nat) (f : QueuePair → QueuePair) : (s.updQ q f).ctxs = s.ctxs := rfl
@[simp] theorem State.updQ_cores (s : State) (q : Nat) (f : QueuePair → QueuePair) : (s.updQ q f).cores = s.cores := rfl
@[simp] theorem State.updQ_clusters (s : State) (q : Nat) (f : QueuePair → QueuePair) : (s.updQ q f).clusters = s.clusters := rfl
@[simp] theorem State.updQ_sets (s : State) (q : Nat) (f : QueuePair → QueuePair) : (s.updQ q f).sets = s.sets := rfl
@[simp] theorem State.updQ_qps (s : State) (q : Nat) (f : QueuePair → QueuePair) : (s.updQ q f).qps = upd s.qps q f := rfl
@[simp] theorem State.updQ_ports (s : State) (q : Nat) (f : QueuePair → QueuePair) : (s.updQ q f).ports = s.ports := rfl
@[simp] theorem State.updQ_boot (s : State) (q : Nat) (f : QueuePair → QueuePair) : (s.updQ q f).boot = s.boot := rfl
@[simp] theorem State.updQ_winReqs (s : State) (q : Nat) (f : QueuePair → QueuePair) : (s.updQ q f).winReqs = s.winReqs := rfl
@[simp] theorem State.updQ_nextId (s : State) (q : Nat) (f : QueuePair → QueuePair) : (s.updQ q f).nextId = s.nextId := rfl
@[simp] theorem State.updQ_schedule (s : State) (q : Nat) (f : QueuePair → QueuePair) : (s.updQ q f).schedule = s.schedule := rfl
@[simp] theorem State.updQ_stage (s : State) (q : Nat) (f : QueuePair → QueuePair) : (s.updQ q f).stage = s.stage := rfl
@[simp] theorem State.updQ_plan (s : State) (q : Nat) (f : QueuePair → QueuePair) : (s.updQ q f).plan = s.plan := rfl
@[simp] theorem State.updQ_cur (s : State) (q : Nat) (f : QueuePair → QueuePair) : (s.updQ q f).cur = s.cur := rfl
@[simp] theorem State.updQ_fresh (s : State) (q : Nat) (f : QueuePair → QueuePair) : (s.updQ q f).fresh = s.fresh := rfl
@[simp] theorem State.updQ_outbox (s : State) (q : Nat) (f : QueuePair → QueuePair) : (s.updQ q f).outbox = s.outbox := rfl

@[simp] theorem State.updDev_mem (s : State) (f : Device → Device) : (s.updDev f).mem = s.mem := rfl
@[simp] theorem State.updDev_ws (s : State) (f : Device → Device) : (s.updDev f).ws = s.ws := rfl
@[simp] theorem State.updDev_dev (s : State) (f : Device → Device) : (s.updDev f).dev = f s.dev := rfl
@[simp] theorem State.updDev_groups (s : State) (f : Device → Device) : (s.updDev f).groups = s.groups := rfl
@[simp] theorem State.updDev_blocks (s : State) (f : Device → Device) : (s.updDev f).blocks = s.blocks := rfl
@[simp] theorem State.updDev_ctxs (s : State) (f : Device → Device) : (s.updDev f).ctxs = s.ctxs := rfl
@[simp] theorem State.updDev_cores (s : State) (f : Device → Device) : (s.updDev f).cores = s.cores := rfl
@[simp] theorem State.updDev_clusters (s : State) (f : Device → Device) : (s.updDev f).clusters = s.clusters := rfl
@[simp] theorem State.updDev_sets (s : State) (f : Device → Device) : (s.updDev f).sets = s.sets := rfl
@[simp] theorem State.updDev_qps (s : State) (f : Device → Device) : (s.updDev f).qps = s.qps := rfl
@[simp] theorem State.updDev_ports (s : State) (f : Device → Device) : (s.updDev f).ports = s.ports := rfl
@[simp] theorem State.updDev_boot (s : State) (f : Device → Device) : (s.updDev f).boot = s.boot := rfl
@[simp] theorem State.updDev_winReqs (s : State) (f : Device → Device) : (s.updDev f).winReqs = s.winReqs := rfl
@[simp] theorem State.updDev_nextId (s : State) (f : Device → Device) : (s.updDev f).nextId = s.nextId := rfl
@[simp] theorem State.updDev_schedule (s : State) (f : Device → Device) : (s.updDev f).schedule = s.schedule := rfl
@[simp] theorem State.updDev_stage (s : State) (f : Device → Device) : (s.updDev f).stage = s.stage := rfl
@[simp] theorem State.updDev_plan (s : State) (f : Device → Device) : (s.updDev f).plan = s.plan := rfl
@[simp] theorem State.updDev_cur (s : State) (f : Device → Device) : (s.updDev f).cur = s.cur := rfl
@[simp] theorem State.updDev_fresh (s : State) (f : Device → Device) : (s.updDev f).fresh = s.fresh := rfl
@[simp] theorem State.updDev_outbox (s : State) (f : Device → Device) : (s.updDev f).outbox = s.outbox := rfl

@[simp] theorem State.send_mem (s : State) (m : Sent) : (s.send m).mem = s.mem := rfl
@[simp] theorem State.send_ws (s : State) (m : Sent) : (s.send m).ws = s.ws := rfl
@[simp] theorem State.send_dev (s : State) (m : Sent) : (s.send m).dev = s.dev := rfl
@[simp] theorem State.send_groups (s : State) (m : Sent) : (s.send m).groups = s.groups := rfl
@[simp] theorem State.send_blocks (s : State) (m : Sent) : (s.send m).blocks = s.blocks := rfl
@[simp] theorem State.send_ctxs (s : State) (m : Sent) : (s.send m).ctxs = s.ctxs := rfl
@[simp] theorem State.send_cores (s : State) (m : Sent) : (s.send m).cores = s.cores := rfl
@[simp] theorem State.send_clusters (s : State) (m : Sent) : (s.send m).clusters = s.clusters := rfl
@[simp] theorem State.send_sets (s : State) (m : Sent) : (s.send m).sets = s.sets := rfl
@[simp] theorem State.send_qps (s : State) (m : Sent) : (s.send m).qps = s.qps := rfl
@[simp] theorem State.send_ports (s : State) (m : Sent) : (s.send m).ports = s.ports := rfl
@[simp] theorem State.send_boot (s : State) (m : Sent) : (s.send m).boot = s.boot := rfl
@[simp] theorem State.send_winReqs (s : State) (m : Sent) : (s.send m).winReqs = s.winReqs := rfl
@[simp] theorem State.send_nextId (s : State) (m : Sent) : (s.send m).nextId = s.nextId := rfl
@[simp] theorem State.send_schedule (s : State) (m : Sent) : (s.send m).schedule = s.schedule := rfl
@[simp] theorem State.send_stage (s : State) (m : Sent) : (s.send m).stage = s.stage := rfl
@[simp] theorem State.send_plan (s : State) (m : Sent) : (s.send m).plan = s.plan := rfl
@[simp] theorem State.send_cur (s : State) (m : Sent) : (s.send m).cur = s.cur := rfl
@[simp] theorem State.send_fresh (s : State) (m : Sent) : (s.send m).fresh = s.fresh := rfl
@[simp] theorem State.send_outbox (s : State) (m : Sent) : (s.send m).outbox = if s.up then s.outbox ++ [m] else s.outbox := rfl

@[simp] theorem Group.updS_live (g : Group) (i : Nat) (f : Split → Split) : (g.updS i f).live = g.live := rfl
@[simp] theorem Group.updS_saved (g : Group) (i : Nat) (f : Split → Split) : (g.updS i f).saved = g.saved := rfl
@[simp] theorem Group.updS_who (g : Group) (i : Nat) (f : Split → Split) : (g.updS i f).who = g.who := rfl
@[simp] theorem Group.updS_regs (g : Group) (i : Nat) (f : Split → Split) : (g.updS i f).regs = g.regs := rfl
@[simp] theorem Group.updS_lch (g : Group) (i : Nat) (f : Split → Split) : (g.updS i f).lch = g.lch := rfl
@[simp] theorem Group.updS_exited (g : Group) (i : Nat) (f : Split → Split) : (g.updS i f).exited = g.exited := rfl
@[simp] theorem Group.updS_splits (g : Group) (i : Nat) (f : Split → Split) : (g.updS i f).splits = upd g.splits i f := rfl
@[simp] theorem Group.updS_deferred (g : Group) (i : Nat) (f : Split → Split) : (g.updS i f).deferred = g.deferred := rfl
@[simp] theorem Group.updS_seq (g : Group) (i : Nat) (f : Split → Split) : (g.updS i f).seq = g.seq := rfl
@[simp] theorem Group.updS_queue (g : Group) (i : Nat) (f : Split → Split) : (g.updS i f).queue = g.queue := rfl
@[simp] theorem Group.updS_taken (g : Group) (i : Nat) (f : Split → Split) : (g.updS i f).taken = g.taken := rfl
@[simp] theorem Group.updS_startedN (g : Group) (i : Nat) (f : Split → Split) : (g.updS i f).startedN = g.startedN := rfl
@[simp] theorem Group.updS_tris (g : Group) (i : Nat) (f : Split → Split) : (g.updS i f).tris = g.tris := rfl
@[simp] theorem Group.updS_rays (g : Group) (i : Nat) (f : Split → Split) : (g.updS i f).rays = g.rays := rfl
@[simp] theorem Group.updS_captures (g : Group) (i : Nat) (f : Split → Split) : (g.updS i f).captures = g.captures := rfl
@[simp] theorem Group.updS_async (g : Group) (i : Nat) (f : Split → Split) : (g.updS i f).async = g.async := rfl
@[simp] theorem Group.updS_ops (g : Group) (i : Nat) (f : Split → Split) : (g.updS i f).ops = g.ops := rfl
@[simp] theorem Group.updS_moved (g : Group) (i : Nat) (f : Split → Split) : (g.updS i f).moved = g.moved := rfl
@[simp] theorem Group.updS_listed (g : Group) (i : Nat) (f : Split → Split) : (g.updS i f).listed = g.listed := rfl
@[simp] theorem Group.updS_freed (g : Group) (i : Nat) (f : Split → Split) : (g.updS i f).freed = g.freed := rfl

@[simp] theorem Group.writeV_live (g : Group) (r l : Nat) (x : Word) : (g.writeV r l x).live = g.live := rfl
@[simp] theorem Group.writeV_saved (g : Group) (r l : Nat) (x : Word) : (g.writeV r l x).saved = g.saved := rfl
@[simp] theorem Group.writeV_who (g : Group) (r l : Nat) (x : Word) : (g.writeV r l x).who = g.who := rfl
@[simp] theorem Group.writeV_regs (g : Group) (r l : Nat) (x : Word) : (g.writeV r l x).regs = { g.regs with v := sset 0 g.regs.v (r * 32 + l) x, vpoison := g.regs.vpoison.filter (· != r * 32 + l) } := rfl
@[simp] theorem Group.writeV_lch (g : Group) (r l : Nat) (x : Word) : (g.writeV r l x).lch = g.lch := rfl
@[simp] theorem Group.writeV_exited (g : Group) (r l : Nat) (x : Word) : (g.writeV r l x).exited = g.exited := rfl
@[simp] theorem Group.writeV_splits (g : Group) (r l : Nat) (x : Word) : (g.writeV r l x).splits = g.splits := rfl
@[simp] theorem Group.writeV_deferred (g : Group) (r l : Nat) (x : Word) : (g.writeV r l x).deferred = g.deferred := rfl
@[simp] theorem Group.writeV_seq (g : Group) (r l : Nat) (x : Word) : (g.writeV r l x).seq = g.seq := rfl
@[simp] theorem Group.writeV_queue (g : Group) (r l : Nat) (x : Word) : (g.writeV r l x).queue = g.queue := rfl
@[simp] theorem Group.writeV_taken (g : Group) (r l : Nat) (x : Word) : (g.writeV r l x).taken = g.taken := rfl
@[simp] theorem Group.writeV_startedN (g : Group) (r l : Nat) (x : Word) : (g.writeV r l x).startedN = g.startedN := rfl
@[simp] theorem Group.writeV_tris (g : Group) (r l : Nat) (x : Word) : (g.writeV r l x).tris = g.tris := rfl
@[simp] theorem Group.writeV_rays (g : Group) (r l : Nat) (x : Word) : (g.writeV r l x).rays = g.rays := rfl
@[simp] theorem Group.writeV_captures (g : Group) (r l : Nat) (x : Word) : (g.writeV r l x).captures = g.captures := rfl
@[simp] theorem Group.writeV_async (g : Group) (r l : Nat) (x : Word) : (g.writeV r l x).async = g.async := rfl
@[simp] theorem Group.writeV_ops (g : Group) (r l : Nat) (x : Word) : (g.writeV r l x).ops = g.ops := rfl
@[simp] theorem Group.writeV_moved (g : Group) (r l : Nat) (x : Word) : (g.writeV r l x).moved = g.moved := rfl
@[simp] theorem Group.writeV_listed (g : Group) (r l : Nat) (x : Word) : (g.writeV r l x).listed = g.listed := rfl
@[simp] theorem Group.writeV_freed (g : Group) (r l : Nat) (x : Word) : (g.writeV r l x).freed = g.freed := rfl

@[simp] theorem Group.writeP_live (g : Group) (n : Nat) (m : Mask) : (g.writeP n m).live = g.live := rfl
@[simp] theorem Group.writeP_saved (g : Group) (n : Nat) (m : Mask) : (g.writeP n m).saved = g.saved := rfl
@[simp] theorem Group.writeP_who (g : Group) (n : Nat) (m : Mask) : (g.writeP n m).who = g.who := rfl
@[simp] theorem Group.writeP_regs (g : Group) (n : Nat) (m : Mask) : (g.writeP n m).regs = { g.regs with p := g.regs.p.set n m } := rfl
@[simp] theorem Group.writeP_lch (g : Group) (n : Nat) (m : Mask) : (g.writeP n m).lch = g.lch := rfl
@[simp] theorem Group.writeP_exited (g : Group) (n : Nat) (m : Mask) : (g.writeP n m).exited = g.exited := rfl
@[simp] theorem Group.writeP_splits (g : Group) (n : Nat) (m : Mask) : (g.writeP n m).splits = g.splits := rfl
@[simp] theorem Group.writeP_deferred (g : Group) (n : Nat) (m : Mask) : (g.writeP n m).deferred = g.deferred := rfl
@[simp] theorem Group.writeP_seq (g : Group) (n : Nat) (m : Mask) : (g.writeP n m).seq = g.seq := rfl
@[simp] theorem Group.writeP_queue (g : Group) (n : Nat) (m : Mask) : (g.writeP n m).queue = g.queue := rfl
@[simp] theorem Group.writeP_taken (g : Group) (n : Nat) (m : Mask) : (g.writeP n m).taken = g.taken := rfl
@[simp] theorem Group.writeP_startedN (g : Group) (n : Nat) (m : Mask) : (g.writeP n m).startedN = g.startedN := rfl
@[simp] theorem Group.writeP_tris (g : Group) (n : Nat) (m : Mask) : (g.writeP n m).tris = g.tris := rfl
@[simp] theorem Group.writeP_rays (g : Group) (n : Nat) (m : Mask) : (g.writeP n m).rays = g.rays := rfl
@[simp] theorem Group.writeP_captures (g : Group) (n : Nat) (m : Mask) : (g.writeP n m).captures = g.captures := rfl
@[simp] theorem Group.writeP_async (g : Group) (n : Nat) (m : Mask) : (g.writeP n m).async = g.async := rfl
@[simp] theorem Group.writeP_ops (g : Group) (n : Nat) (m : Mask) : (g.writeP n m).ops = g.ops := rfl
@[simp] theorem Group.writeP_moved (g : Group) (n : Nat) (m : Mask) : (g.writeP n m).moved = g.moved := rfl
@[simp] theorem Group.writeP_listed (g : Group) (n : Nat) (m : Mask) : (g.writeP n m).listed = g.listed := rfl
@[simp] theorem Group.writeP_freed (g : Group) (n : Nat) (m : Mask) : (g.writeP n m).freed = g.freed := rfl

@[simp] theorem Group.writeS_live (g : Group) (n : Nat) (x : Word) : (g.writeS n x).live = g.live := rfl
@[simp] theorem Group.writeS_saved (g : Group) (n : Nat) (x : Word) : (g.writeS n x).saved = g.saved := rfl
@[simp] theorem Group.writeS_who (g : Group) (n : Nat) (x : Word) : (g.writeS n x).who = g.who := rfl
@[simp] theorem Group.writeS_regs (g : Group) (n : Nat) (x : Word) : (g.writeS n x).regs = { g.regs with s := sset 0 g.regs.s n x, spoison := g.regs.spoison.filter (· != n) } := rfl
@[simp] theorem Group.writeS_lch (g : Group) (n : Nat) (x : Word) : (g.writeS n x).lch = g.lch := rfl
@[simp] theorem Group.writeS_exited (g : Group) (n : Nat) (x : Word) : (g.writeS n x).exited = g.exited := rfl
@[simp] theorem Group.writeS_splits (g : Group) (n : Nat) (x : Word) : (g.writeS n x).splits = g.splits := rfl
@[simp] theorem Group.writeS_deferred (g : Group) (n : Nat) (x : Word) : (g.writeS n x).deferred = g.deferred := rfl
@[simp] theorem Group.writeS_seq (g : Group) (n : Nat) (x : Word) : (g.writeS n x).seq = g.seq := rfl
@[simp] theorem Group.writeS_queue (g : Group) (n : Nat) (x : Word) : (g.writeS n x).queue = g.queue := rfl
@[simp] theorem Group.writeS_taken (g : Group) (n : Nat) (x : Word) : (g.writeS n x).taken = g.taken := rfl
@[simp] theorem Group.writeS_startedN (g : Group) (n : Nat) (x : Word) : (g.writeS n x).startedN = g.startedN := rfl
@[simp] theorem Group.writeS_tris (g : Group) (n : Nat) (x : Word) : (g.writeS n x).tris = g.tris := rfl
@[simp] theorem Group.writeS_rays (g : Group) (n : Nat) (x : Word) : (g.writeS n x).rays = g.rays := rfl
@[simp] theorem Group.writeS_captures (g : Group) (n : Nat) (x : Word) : (g.writeS n x).captures = g.captures := rfl
@[simp] theorem Group.writeS_async (g : Group) (n : Nat) (x : Word) : (g.writeS n x).async = g.async := rfl
@[simp] theorem Group.writeS_ops (g : Group) (n : Nat) (x : Word) : (g.writeS n x).ops = g.ops := rfl
@[simp] theorem Group.writeS_moved (g : Group) (n : Nat) (x : Word) : (g.writeS n x).moved = g.moved := rfl
@[simp] theorem Group.writeS_listed (g : Group) (n : Nat) (x : Word) : (g.writeS n x).listed = g.listed := rfl
@[simp] theorem Group.writeS_freed (g : Group) (n : Nat) (x : Word) : (g.writeS n x).freed = g.freed := rfl

@[simp] theorem Group.orFlags_live (g : Group) (f : Fl) : (g.orFlags f).live = g.live := rfl
@[simp] theorem Group.orFlags_saved (g : Group) (f : Fl) : (g.orFlags f).saved = g.saved := rfl
@[simp] theorem Group.orFlags_who (g : Group) (f : Fl) : (g.orFlags f).who = g.who := rfl
@[simp] theorem Group.orFlags_regs (g : Group) (f : Fl) : (g.orFlags f).regs = { g.regs with flags := g.regs.flags ||| f } := rfl
@[simp] theorem Group.orFlags_lch (g : Group) (f : Fl) : (g.orFlags f).lch = g.lch := rfl
@[simp] theorem Group.orFlags_exited (g : Group) (f : Fl) : (g.orFlags f).exited = g.exited := rfl
@[simp] theorem Group.orFlags_splits (g : Group) (f : Fl) : (g.orFlags f).splits = g.splits := rfl
@[simp] theorem Group.orFlags_deferred (g : Group) (f : Fl) : (g.orFlags f).deferred = g.deferred := rfl
@[simp] theorem Group.orFlags_seq (g : Group) (f : Fl) : (g.orFlags f).seq = g.seq := rfl
@[simp] theorem Group.orFlags_queue (g : Group) (f : Fl) : (g.orFlags f).queue = g.queue := rfl
@[simp] theorem Group.orFlags_taken (g : Group) (f : Fl) : (g.orFlags f).taken = g.taken := rfl
@[simp] theorem Group.orFlags_startedN (g : Group) (f : Fl) : (g.orFlags f).startedN = g.startedN := rfl
@[simp] theorem Group.orFlags_tris (g : Group) (f : Fl) : (g.orFlags f).tris = g.tris := rfl
@[simp] theorem Group.orFlags_rays (g : Group) (f : Fl) : (g.orFlags f).rays = g.rays := rfl
@[simp] theorem Group.orFlags_captures (g : Group) (f : Fl) : (g.orFlags f).captures = g.captures := rfl
@[simp] theorem Group.orFlags_async (g : Group) (f : Fl) : (g.orFlags f).async = g.async := rfl
@[simp] theorem Group.orFlags_ops (g : Group) (f : Fl) : (g.orFlags f).ops = g.ops := rfl
@[simp] theorem Group.orFlags_moved (g : Group) (f : Fl) : (g.orFlags f).moved = g.moved := rfl
@[simp] theorem Group.orFlags_listed (g : Group) (f : Fl) : (g.orFlags f).listed = g.listed := rfl
@[simp] theorem Group.orFlags_freed (g : Group) (f : Fl) : (g.orFlags f).freed = g.freed := rfl

@[simp] theorem Split.goto_st (sp : Split) (pc : Addr56) : (sp.goto pc).st = sp.st := rfl
@[simp] theorem Split.goto_pc (sp : Split) (pc : Addr56) : (sp.goto pc).pc = pc := rfl
@[simp] theorem Split.goto_mask (sp : Split) (pc : Addr56) : (sp.goto pc).mask = sp.mask := rfl
@[simp] theorem Split.goto_trap (sp : Split) (pc : Addr56) : (sp.goto pc).trap = sp.trap := rfl
@[simp] theorem Split.goto_s (sp : Split) (pc : Addr56) : (sp.goto pc).s = sp.s := rfl
@[simp] theorem Split.goto_spoison (sp : Split) (pc : Addr56) : (sp.goto pc).spoison = sp.spoison := rfl
@[simp] theorem Split.goto_c (sp : Split) (pc : Addr56) : (sp.goto pc).c = sp.c := rfl
@[simp] theorem Split.goto_latches (sp : Split) (pc : Addr56) : (sp.goto pc).latches = sp.latches := rfl
@[simp] theorem Split.goto_vmc (sp : Split) (pc : Addr56) : (sp.goto pc).vmc = sp.vmc := rfl
@[simp] theorem Split.goto_vsc (sp : Split) (pc : Addr56) : (sp.goto pc).vsc = sp.vsc := rfl
@[simp] theorem Split.goto_smc (sp : Split) (pc : Addr56) : (sp.goto pc).smc = sp.smc := rfl
@[simp] theorem Split.goto_xc (sp : Split) (pc : Addr56) : (sp.goto pc).xc = sp.xc := rfl
@[simp] theorem Split.goto_wait (sp : Split) (pc : Addr56) : (sp.goto pc).wait = sp.wait := rfl
@[simp] theorem Split.goto_wake (sp : Split) (pc : Addr56) : (sp.goto pc).wake = sp.wake := rfl
@[simp] theorem Split.goto_limit (sp : Split) (pc : Addr56) : (sp.goto pc).limit = sp.limit := rfl
@[simp] theorem Split.goto_cychi (sp : Split) (pc : Addr56) : (sp.goto pc).cychi = sp.cychi := rfl
@[simp] theorem Split.goto_tcause (sp : Split) (pc : Addr56) : (sp.goto pc).tcause = sp.tcause := rfl
@[simp] theorem Split.goto_tpc (sp : Split) (pc : Addr56) : (sp.goto pc).tpc = sp.tpc := rfl
@[simp] theorem Split.goto_tmask (sp : Split) (pc : Addr56) : (sp.goto pc).tmask = sp.tmask := rfl
@[simp] theorem Split.goto_taddr (sp : Split) (pc : Addr56) : (sp.goto pc).taddr = sp.taddr := rfl
@[simp] theorem Split.goto_tsplit (sp : Split) (pc : Addr56) : (sp.goto pc).tsplit = sp.tsplit := rfl
@[simp] theorem Split.goto_replay (sp : Split) (pc : Addr56) : (sp.goto pc).replay = if sp.replayNow then none else sp.replay := rfl
@[simp] theorem Split.goto_replayNow (sp : Split) (pc : Addr56) : (sp.goto pc).replayNow = false := rfl
@[simp] theorem Split.goto_resume (sp : Split) (pc : Addr56) : (sp.goto pc).resume = sp.resume := rfl
@[simp] theorem Split.goto_rwait (sp : Split) (pc : Addr56) : (sp.goto pc).rwait = sp.rwait := rfl
@[simp] theorem Split.goto_rlimit (sp : Split) (pc : Addr56) : (sp.goto pc).rlimit = sp.rlimit := rfl
@[simp] theorem Split.goto_markPc (sp : Split) (pc : Addr56) : (sp.goto pc).markPc = sp.markPc := rfl
@[simp] theorem Split.goto_held (sp : Split) (pc : Addr56) : (sp.goto pc).held = sp.held := rfl
@[simp] theorem Split.goto_pollBy (sp : Split) (pc : Addr56) : (sp.goto pc).pollBy = sp.pollBy := rfl
@[simp] theorem Split.goto_stall (sp : Split) (pc : Addr56) : (sp.goto pc).stall = sp.stall := rfl
@[simp] theorem Split.goto_age (sp : Split) (pc : Addr56) : (sp.goto pc).age = sp.age := rfl
@[simp] theorem Split.goto_parked (sp : Split) (pc : Addr56) : (sp.goto pc).parked = sp.parked := rfl

@[simp] theorem Split.advance_st (sp : Split) (n : Nat) : (sp.advance n).st = sp.st := rfl
@[simp] theorem Split.advance_pc (sp : Split) (n : Nat) : (sp.advance n).pc = sp.pc + BitVec.ofNat 56 (4 * n) := rfl
@[simp] theorem Split.advance_mask (sp : Split) (n : Nat) : (sp.advance n).mask = sp.mask := rfl
@[simp] theorem Split.advance_trap (sp : Split) (n : Nat) : (sp.advance n).trap = sp.trap := rfl
@[simp] theorem Split.advance_s (sp : Split) (n : Nat) : (sp.advance n).s = sp.s := rfl
@[simp] theorem Split.advance_spoison (sp : Split) (n : Nat) : (sp.advance n).spoison = sp.spoison := rfl
@[simp] theorem Split.advance_c (sp : Split) (n : Nat) : (sp.advance n).c = sp.c := rfl
@[simp] theorem Split.advance_latches (sp : Split) (n : Nat) : (sp.advance n).latches = sp.latches := rfl
@[simp] theorem Split.advance_vmc (sp : Split) (n : Nat) : (sp.advance n).vmc = sp.vmc := rfl
@[simp] theorem Split.advance_vsc (sp : Split) (n : Nat) : (sp.advance n).vsc = sp.vsc := rfl
@[simp] theorem Split.advance_smc (sp : Split) (n : Nat) : (sp.advance n).smc = sp.smc := rfl
@[simp] theorem Split.advance_xc (sp : Split) (n : Nat) : (sp.advance n).xc = sp.xc := rfl
@[simp] theorem Split.advance_wait (sp : Split) (n : Nat) : (sp.advance n).wait = sp.wait := rfl
@[simp] theorem Split.advance_wake (sp : Split) (n : Nat) : (sp.advance n).wake = sp.wake := rfl
@[simp] theorem Split.advance_limit (sp : Split) (n : Nat) : (sp.advance n).limit = sp.limit := rfl
@[simp] theorem Split.advance_cychi (sp : Split) (n : Nat) : (sp.advance n).cychi = sp.cychi := rfl
@[simp] theorem Split.advance_tcause (sp : Split) (n : Nat) : (sp.advance n).tcause = sp.tcause := rfl
@[simp] theorem Split.advance_tpc (sp : Split) (n : Nat) : (sp.advance n).tpc = sp.tpc := rfl
@[simp] theorem Split.advance_tmask (sp : Split) (n : Nat) : (sp.advance n).tmask = sp.tmask := rfl
@[simp] theorem Split.advance_taddr (sp : Split) (n : Nat) : (sp.advance n).taddr = sp.taddr := rfl
@[simp] theorem Split.advance_tsplit (sp : Split) (n : Nat) : (sp.advance n).tsplit = sp.tsplit := rfl
@[simp] theorem Split.advance_replay (sp : Split) (n : Nat) : (sp.advance n).replay = if sp.replayNow then none else sp.replay := rfl
@[simp] theorem Split.advance_replayNow (sp : Split) (n : Nat) : (sp.advance n).replayNow = false := rfl
@[simp] theorem Split.advance_resume (sp : Split) (n : Nat) : (sp.advance n).resume = sp.resume := rfl
@[simp] theorem Split.advance_rwait (sp : Split) (n : Nat) : (sp.advance n).rwait = sp.rwait := rfl
@[simp] theorem Split.advance_rlimit (sp : Split) (n : Nat) : (sp.advance n).rlimit = sp.rlimit := rfl
@[simp] theorem Split.advance_markPc (sp : Split) (n : Nat) : (sp.advance n).markPc = sp.markPc := rfl
@[simp] theorem Split.advance_held (sp : Split) (n : Nat) : (sp.advance n).held = sp.held := rfl
@[simp] theorem Split.advance_pollBy (sp : Split) (n : Nat) : (sp.advance n).pollBy = sp.pollBy := rfl
@[simp] theorem Split.advance_stall (sp : Split) (n : Nat) : (sp.advance n).stall = sp.stall := rfl
@[simp] theorem Split.advance_age (sp : Split) (n : Nat) : (sp.advance n).age = sp.age := rfl
@[simp] theorem Split.advance_parked (sp : Split) (n : Nat) : (sp.advance n).parked = sp.parked := rfl

@[simp] theorem Split.writeS_st (sp : Split) (n : Nat) (x : Word) : (sp.writeS n x).st = sp.st := rfl
@[simp] theorem Split.writeS_pc (sp : Split) (n : Nat) (x : Word) : (sp.writeS n x).pc = sp.pc := rfl
@[simp] theorem Split.writeS_mask (sp : Split) (n : Nat) (x : Word) : (sp.writeS n x).mask = sp.mask := rfl
@[simp] theorem Split.writeS_trap (sp : Split) (n : Nat) (x : Word) : (sp.writeS n x).trap = sp.trap := rfl
@[simp] theorem Split.writeS_s (sp : Split) (n : Nat) (x : Word) : (sp.writeS n x).s = sset 0 sp.s n x := rfl
@[simp] theorem Split.writeS_spoison (sp : Split) (n : Nat) (x : Word) : (sp.writeS n x).spoison = sp.spoison.filter (· != n) := rfl
@[simp] theorem Split.writeS_c (sp : Split) (n : Nat) (x : Word) : (sp.writeS n x).c = sp.c := rfl
@[simp] theorem Split.writeS_latches (sp : Split) (n : Nat) (x : Word) : (sp.writeS n x).latches = sp.latches := rfl
@[simp] theorem Split.writeS_vmc (sp : Split) (n : Nat) (x : Word) : (sp.writeS n x).vmc = sp.vmc := rfl
@[simp] theorem Split.writeS_vsc (sp : Split) (n : Nat) (x : Word) : (sp.writeS n x).vsc = sp.vsc := rfl
@[simp] theorem Split.writeS_smc (sp : Split) (n : Nat) (x : Word) : (sp.writeS n x).smc = sp.smc := rfl
@[simp] theorem Split.writeS_xc (sp : Split) (n : Nat) (x : Word) : (sp.writeS n x).xc = sp.xc := rfl
@[simp] theorem Split.writeS_wait (sp : Split) (n : Nat) (x : Word) : (sp.writeS n x).wait = sp.wait := rfl
@[simp] theorem Split.writeS_wake (sp : Split) (n : Nat) (x : Word) : (sp.writeS n x).wake = sp.wake := rfl
@[simp] theorem Split.writeS_limit (sp : Split) (n : Nat) (x : Word) : (sp.writeS n x).limit = sp.limit := rfl
@[simp] theorem Split.writeS_cychi (sp : Split) (n : Nat) (x : Word) : (sp.writeS n x).cychi = sp.cychi := rfl
@[simp] theorem Split.writeS_tcause (sp : Split) (n : Nat) (x : Word) : (sp.writeS n x).tcause = sp.tcause := rfl
@[simp] theorem Split.writeS_tpc (sp : Split) (n : Nat) (x : Word) : (sp.writeS n x).tpc = sp.tpc := rfl
@[simp] theorem Split.writeS_tmask (sp : Split) (n : Nat) (x : Word) : (sp.writeS n x).tmask = sp.tmask := rfl
@[simp] theorem Split.writeS_taddr (sp : Split) (n : Nat) (x : Word) : (sp.writeS n x).taddr = sp.taddr := rfl
@[simp] theorem Split.writeS_tsplit (sp : Split) (n : Nat) (x : Word) : (sp.writeS n x).tsplit = sp.tsplit := rfl
@[simp] theorem Split.writeS_replay (sp : Split) (n : Nat) (x : Word) : (sp.writeS n x).replay = sp.replay := rfl
@[simp] theorem Split.writeS_replayNow (sp : Split) (n : Nat) (x : Word) : (sp.writeS n x).replayNow = sp.replayNow := rfl
@[simp] theorem Split.writeS_resume (sp : Split) (n : Nat) (x : Word) : (sp.writeS n x).resume = sp.resume := rfl
@[simp] theorem Split.writeS_rwait (sp : Split) (n : Nat) (x : Word) : (sp.writeS n x).rwait = sp.rwait := rfl
@[simp] theorem Split.writeS_rlimit (sp : Split) (n : Nat) (x : Word) : (sp.writeS n x).rlimit = sp.rlimit := rfl
@[simp] theorem Split.writeS_markPc (sp : Split) (n : Nat) (x : Word) : (sp.writeS n x).markPc = sp.markPc := rfl
@[simp] theorem Split.writeS_held (sp : Split) (n : Nat) (x : Word) : (sp.writeS n x).held = sp.held := rfl
@[simp] theorem Split.writeS_pollBy (sp : Split) (n : Nat) (x : Word) : (sp.writeS n x).pollBy = sp.pollBy := rfl
@[simp] theorem Split.writeS_stall (sp : Split) (n : Nat) (x : Word) : (sp.writeS n x).stall = sp.stall := rfl
@[simp] theorem Split.writeS_age (sp : Split) (n : Nat) (x : Word) : (sp.writeS n x).age = sp.age := rfl
@[simp] theorem Split.writeS_parked (sp : Split) (n : Nat) (x : Word) : (sp.writeS n x).parked = sp.parked := rfl

@[simp] theorem State.updS_mem (s : State) (r : SplitRef) (f : Split → Split) : (s.updS r f).mem = s.mem := rfl
@[simp] theorem State.updS_ws (s : State) (r : SplitRef) (f : Split → Split) : (s.updS r f).ws = s.ws := rfl
@[simp] theorem State.updS_dev (s : State) (r : SplitRef) (f : Split → Split) : (s.updS r f).dev = s.dev := rfl
@[simp] theorem State.updS_blocks (s : State) (r : SplitRef) (f : Split → Split) : (s.updS r f).blocks = s.blocks := rfl
@[simp] theorem State.updS_ctxs (s : State) (r : SplitRef) (f : Split → Split) : (s.updS r f).ctxs = s.ctxs := rfl
@[simp] theorem State.updS_cores (s : State) (r : SplitRef) (f : Split → Split) : (s.updS r f).cores = s.cores := rfl
@[simp] theorem State.updS_clusters (s : State) (r : SplitRef) (f : Split → Split) : (s.updS r f).clusters = s.clusters := rfl
@[simp] theorem State.updS_sets (s : State) (r : SplitRef) (f : Split → Split) : (s.updS r f).sets = s.sets := rfl
@[simp] theorem State.updS_qps (s : State) (r : SplitRef) (f : Split → Split) : (s.updS r f).qps = s.qps := rfl
@[simp] theorem State.updS_ports (s : State) (r : SplitRef) (f : Split → Split) : (s.updS r f).ports = s.ports := rfl
@[simp] theorem State.updS_boot (s : State) (r : SplitRef) (f : Split → Split) : (s.updS r f).boot = s.boot := rfl
@[simp] theorem State.updS_winReqs (s : State) (r : SplitRef) (f : Split → Split) : (s.updS r f).winReqs = s.winReqs := rfl
@[simp] theorem State.updS_nextId (s : State) (r : SplitRef) (f : Split → Split) : (s.updS r f).nextId = s.nextId := rfl
@[simp] theorem State.updS_schedule (s : State) (r : SplitRef) (f : Split → Split) : (s.updS r f).schedule = s.schedule := rfl
@[simp] theorem State.updS_stage (s : State) (r : SplitRef) (f : Split → Split) : (s.updS r f).stage = s.stage := rfl
@[simp] theorem State.updS_plan (s : State) (r : SplitRef) (f : Split → Split) : (s.updS r f).plan = s.plan := rfl
@[simp] theorem State.updS_cur (s : State) (r : SplitRef) (f : Split → Split) : (s.updS r f).cur = s.cur := rfl
@[simp] theorem State.updS_fresh (s : State) (r : SplitRef) (f : Split → Split) : (s.updS r f).fresh = s.fresh := rfl
@[simp] theorem State.updS_outbox (s : State) (r : SplitRef) (f : Split → Split) : (s.updS r f).outbox = s.outbox := rfl

@[simp] theorem State.orFlags_mem (s : State) (g : Nat) (f : Fl) : (s.orFlags g f).mem = s.mem := rfl
@[simp] theorem State.orFlags_ws (s : State) (g : Nat) (f : Fl) : (s.orFlags g f).ws = s.ws := rfl
@[simp] theorem State.orFlags_dev (s : State) (g : Nat) (f : Fl) : (s.orFlags g f).dev = s.dev := rfl
@[simp] theorem State.orFlags_blocks (s : State) (g : Nat) (f : Fl) : (s.orFlags g f).blocks = s.blocks := rfl
@[simp] theorem State.orFlags_ctxs (s : State) (g : Nat) (f : Fl) : (s.orFlags g f).ctxs = s.ctxs := rfl
@[simp] theorem State.orFlags_cores (s : State) (g : Nat) (f : Fl) : (s.orFlags g f).cores = s.cores := rfl
@[simp] theorem State.orFlags_clusters (s : State) (g : Nat) (f : Fl) : (s.orFlags g f).clusters = s.clusters := rfl
@[simp] theorem State.orFlags_sets (s : State) (g : Nat) (f : Fl) : (s.orFlags g f).sets = s.sets := rfl
@[simp] theorem State.orFlags_qps (s : State) (g : Nat) (f : Fl) : (s.orFlags g f).qps = s.qps := rfl
@[simp] theorem State.orFlags_ports (s : State) (g : Nat) (f : Fl) : (s.orFlags g f).ports = s.ports := rfl
@[simp] theorem State.orFlags_boot (s : State) (g : Nat) (f : Fl) : (s.orFlags g f).boot = s.boot := rfl
@[simp] theorem State.orFlags_winReqs (s : State) (g : Nat) (f : Fl) : (s.orFlags g f).winReqs = s.winReqs := rfl
@[simp] theorem State.orFlags_nextId (s : State) (g : Nat) (f : Fl) : (s.orFlags g f).nextId = s.nextId := rfl
@[simp] theorem State.orFlags_schedule (s : State) (g : Nat) (f : Fl) : (s.orFlags g f).schedule = s.schedule := rfl
@[simp] theorem State.orFlags_stage (s : State) (g : Nat) (f : Fl) : (s.orFlags g f).stage = s.stage := rfl
@[simp] theorem State.orFlags_plan (s : State) (g : Nat) (f : Fl) : (s.orFlags g f).plan = s.plan := rfl
@[simp] theorem State.orFlags_cur (s : State) (g : Nat) (f : Fl) : (s.orFlags g f).cur = s.cur := rfl
@[simp] theorem State.orFlags_fresh (s : State) (g : Nat) (f : Fl) : (s.orFlags g f).fresh = s.fresh := rfl
@[simp] theorem State.orFlags_outbox (s : State) (g : Nat) (f : Fl) : (s.orFlags g f).outbox = s.outbox := rfl

@[simp] theorem State.raise_mem (s : State) (f : Fl) : (s.raise f).mem = s.mem := rfl
@[simp] theorem State.raise_ws (s : State) (f : Fl) : (s.raise f).ws = s.ws := rfl
@[simp] theorem State.raise_dev (s : State) (f : Fl) : (s.raise f).dev = s.dev := rfl
@[simp] theorem State.raise_blocks (s : State) (f : Fl) : (s.raise f).blocks = s.blocks := rfl
@[simp] theorem State.raise_ctxs (s : State) (f : Fl) : (s.raise f).ctxs = s.ctxs := rfl
@[simp] theorem State.raise_cores (s : State) (f : Fl) : (s.raise f).cores = s.cores := rfl
@[simp] theorem State.raise_clusters (s : State) (f : Fl) : (s.raise f).clusters = s.clusters := rfl
@[simp] theorem State.raise_sets (s : State) (f : Fl) : (s.raise f).sets = s.sets := rfl
@[simp] theorem State.raise_qps (s : State) (f : Fl) : (s.raise f).qps = s.qps := rfl
@[simp] theorem State.raise_ports (s : State) (f : Fl) : (s.raise f).ports = s.ports := rfl
@[simp] theorem State.raise_boot (s : State) (f : Fl) : (s.raise f).boot = s.boot := rfl
@[simp] theorem State.raise_winReqs (s : State) (f : Fl) : (s.raise f).winReqs = s.winReqs := rfl
@[simp] theorem State.raise_nextId (s : State) (f : Fl) : (s.raise f).nextId = s.nextId := rfl
@[simp] theorem State.raise_schedule (s : State) (f : Fl) : (s.raise f).schedule = s.schedule := rfl
@[simp] theorem State.raise_stage (s : State) (f : Fl) : (s.raise f).stage = s.stage := rfl
@[simp] theorem State.raise_plan (s : State) (f : Fl) : (s.raise f).plan = s.plan := rfl
@[simp] theorem State.raise_cur (s : State) (f : Fl) : (s.raise f).cur = s.cur := rfl
@[simp] theorem State.raise_fresh (s : State) (f : Fl) : (s.raise f).fresh = s.fresh := rfl
@[simp] theorem State.raise_outbox (s : State) (f : Fl) : (s.raise f).outbox = s.outbox := rfl

@[simp] theorem State.advance_mem (s : State) (n : Nat) : (s.advance n).mem = s.mem := rfl
@[simp] theorem State.advance_ws (s : State) (n : Nat) : (s.advance n).ws = s.ws := rfl
@[simp] theorem State.advance_dev (s : State) (n : Nat) : (s.advance n).dev = s.dev := rfl
@[simp] theorem State.advance_blocks (s : State) (n : Nat) : (s.advance n).blocks = s.blocks := rfl
@[simp] theorem State.advance_ctxs (s : State) (n : Nat) : (s.advance n).ctxs = s.ctxs := rfl
@[simp] theorem State.advance_cores (s : State) (n : Nat) : (s.advance n).cores = s.cores := rfl
@[simp] theorem State.advance_clusters (s : State) (n : Nat) : (s.advance n).clusters = s.clusters := rfl
@[simp] theorem State.advance_sets (s : State) (n : Nat) : (s.advance n).sets = s.sets := rfl
@[simp] theorem State.advance_qps (s : State) (n : Nat) : (s.advance n).qps = s.qps := rfl
@[simp] theorem State.advance_ports (s : State) (n : Nat) : (s.advance n).ports = s.ports := rfl
@[simp] theorem State.advance_boot (s : State) (n : Nat) : (s.advance n).boot = s.boot := rfl
@[simp] theorem State.advance_winReqs (s : State) (n : Nat) : (s.advance n).winReqs = s.winReqs := rfl
@[simp] theorem State.advance_nextId (s : State) (n : Nat) : (s.advance n).nextId = s.nextId := rfl
@[simp] theorem State.advance_schedule (s : State) (n : Nat) : (s.advance n).schedule = s.schedule := rfl
@[simp] theorem State.advance_stage (s : State) (n : Nat) : (s.advance n).stage = s.stage := rfl
@[simp] theorem State.advance_plan (s : State) (n : Nat) : (s.advance n).plan = s.plan := rfl
@[simp] theorem State.advance_cur (s : State) (n : Nat) : (s.advance n).cur = s.cur := rfl
@[simp] theorem State.advance_fresh (s : State) (n : Nat) : (s.advance n).fresh = s.fresh := rfl
@[simp] theorem State.advance_outbox (s : State) (n : Nat) : (s.advance n).outbox = s.outbox := rfl

@[simp] theorem State.setPc_mem (s : State) (pc : Addr56) : (s.setPc pc).mem = s.mem := rfl
@[simp] theorem State.setPc_ws (s : State) (pc : Addr56) : (s.setPc pc).ws = s.ws := rfl
@[simp] theorem State.setPc_dev (s : State) (pc : Addr56) : (s.setPc pc).dev = s.dev := rfl
@[simp] theorem State.setPc_blocks (s : State) (pc : Addr56) : (s.setPc pc).blocks = s.blocks := rfl
@[simp] theorem State.setPc_ctxs (s : State) (pc : Addr56) : (s.setPc pc).ctxs = s.ctxs := rfl
@[simp] theorem State.setPc_cores (s : State) (pc : Addr56) : (s.setPc pc).cores = s.cores := rfl
@[simp] theorem State.setPc_clusters (s : State) (pc : Addr56) : (s.setPc pc).clusters = s.clusters := rfl
@[simp] theorem State.setPc_sets (s : State) (pc : Addr56) : (s.setPc pc).sets = s.sets := rfl
@[simp] theorem State.setPc_qps (s : State) (pc : Addr56) : (s.setPc pc).qps = s.qps := rfl
@[simp] theorem State.setPc_ports (s : State) (pc : Addr56) : (s.setPc pc).ports = s.ports := rfl
@[simp] theorem State.setPc_boot (s : State) (pc : Addr56) : (s.setPc pc).boot = s.boot := rfl
@[simp] theorem State.setPc_winReqs (s : State) (pc : Addr56) : (s.setPc pc).winReqs = s.winReqs := rfl
@[simp] theorem State.setPc_nextId (s : State) (pc : Addr56) : (s.setPc pc).nextId = s.nextId := rfl
@[simp] theorem State.setPc_schedule (s : State) (pc : Addr56) : (s.setPc pc).schedule = s.schedule := rfl
@[simp] theorem State.setPc_stage (s : State) (pc : Addr56) : (s.setPc pc).stage = s.stage := rfl
@[simp] theorem State.setPc_plan (s : State) (pc : Addr56) : (s.setPc pc).plan = s.plan := rfl
@[simp] theorem State.setPc_cur (s : State) (pc : Addr56) : (s.setPc pc).cur = s.cur := rfl
@[simp] theorem State.setPc_fresh (s : State) (pc : Addr56) : (s.setPc pc).fresh = s.fresh := rfl
@[simp] theorem State.setPc_outbox (s : State) (pc : Addr56) : (s.setPc pc).outbox = s.outbox := rfl

@[simp] theorem State.hold_mem (s : State) : (s.hold).mem = s.mem := rfl
@[simp] theorem State.hold_ws (s : State) : (s.hold).ws = s.ws := rfl
@[simp] theorem State.hold_dev (s : State) : (s.hold).dev = s.dev := rfl
@[simp] theorem State.hold_blocks (s : State) : (s.hold).blocks = s.blocks := rfl
@[simp] theorem State.hold_ctxs (s : State) : (s.hold).ctxs = s.ctxs := rfl
@[simp] theorem State.hold_cores (s : State) : (s.hold).cores = s.cores := rfl
@[simp] theorem State.hold_clusters (s : State) : (s.hold).clusters = s.clusters := rfl
@[simp] theorem State.hold_sets (s : State) : (s.hold).sets = s.sets := rfl
@[simp] theorem State.hold_qps (s : State) : (s.hold).qps = s.qps := rfl
@[simp] theorem State.hold_ports (s : State) : (s.hold).ports = s.ports := rfl
@[simp] theorem State.hold_boot (s : State) : (s.hold).boot = s.boot := rfl
@[simp] theorem State.hold_winReqs (s : State) : (s.hold).winReqs = s.winReqs := rfl
@[simp] theorem State.hold_nextId (s : State) : (s.hold).nextId = s.nextId := rfl
@[simp] theorem State.hold_schedule (s : State) : (s.hold).schedule = s.schedule := rfl
@[simp] theorem State.hold_stage (s : State) : (s.hold).stage = s.stage := rfl
@[simp] theorem State.hold_plan (s : State) : (s.hold).plan = s.plan := rfl
@[simp] theorem State.hold_cur (s : State) : (s.hold).cur = s.cur := rfl
@[simp] theorem State.hold_fresh (s : State) : (s.hold).fresh = s.fresh := rfl
@[simp] theorem State.hold_outbox (s : State) : (s.hold).outbox = s.outbox := rfl

@[simp] theorem State.unhold_mem (s : State) : (s.unhold).mem = s.mem := rfl
@[simp] theorem State.unhold_ws (s : State) : (s.unhold).ws = s.ws := rfl
@[simp] theorem State.unhold_dev (s : State) : (s.unhold).dev = s.dev := rfl
@[simp] theorem State.unhold_blocks (s : State) : (s.unhold).blocks = s.blocks := rfl
@[simp] theorem State.unhold_ctxs (s : State) : (s.unhold).ctxs = s.ctxs := rfl
@[simp] theorem State.unhold_cores (s : State) : (s.unhold).cores = s.cores := rfl
@[simp] theorem State.unhold_clusters (s : State) : (s.unhold).clusters = s.clusters := rfl
@[simp] theorem State.unhold_sets (s : State) : (s.unhold).sets = s.sets := rfl
@[simp] theorem State.unhold_qps (s : State) : (s.unhold).qps = s.qps := rfl
@[simp] theorem State.unhold_ports (s : State) : (s.unhold).ports = s.ports := rfl
@[simp] theorem State.unhold_boot (s : State) : (s.unhold).boot = s.boot := rfl
@[simp] theorem State.unhold_winReqs (s : State) : (s.unhold).winReqs = s.winReqs := rfl
@[simp] theorem State.unhold_nextId (s : State) : (s.unhold).nextId = s.nextId := rfl
@[simp] theorem State.unhold_schedule (s : State) : (s.unhold).schedule = s.schedule := rfl
@[simp] theorem State.unhold_stage (s : State) : (s.unhold).stage = s.stage := rfl
@[simp] theorem State.unhold_plan (s : State) : (s.unhold).plan = s.plan := rfl
@[simp] theorem State.unhold_cur (s : State) : (s.unhold).cur = s.cur := rfl
@[simp] theorem State.unhold_fresh (s : State) : (s.unhold).fresh = s.fresh := rfl
@[simp] theorem State.unhold_outbox (s : State) : (s.unhold).outbox = s.outbox := rfl

@[simp] theorem State.setC_mem (s : State) (n : Nat) (b : Bool) : (s.setC n b).mem = s.mem := rfl
@[simp] theorem State.setC_ws (s : State) (n : Nat) (b : Bool) : (s.setC n b).ws = s.ws := rfl
@[simp] theorem State.setC_dev (s : State) (n : Nat) (b : Bool) : (s.setC n b).dev = s.dev := rfl
@[simp] theorem State.setC_blocks (s : State) (n : Nat) (b : Bool) : (s.setC n b).blocks = s.blocks := rfl
@[simp] theorem State.setC_ctxs (s : State) (n : Nat) (b : Bool) : (s.setC n b).ctxs = s.ctxs := rfl
@[simp] theorem State.setC_cores (s : State) (n : Nat) (b : Bool) : (s.setC n b).cores = s.cores := rfl
@[simp] theorem State.setC_clusters (s : State) (n : Nat) (b : Bool) : (s.setC n b).clusters = s.clusters := rfl
@[simp] theorem State.setC_sets (s : State) (n : Nat) (b : Bool) : (s.setC n b).sets = s.sets := rfl
@[simp] theorem State.setC_qps (s : State) (n : Nat) (b : Bool) : (s.setC n b).qps = s.qps := rfl
@[simp] theorem State.setC_ports (s : State) (n : Nat) (b : Bool) : (s.setC n b).ports = s.ports := rfl
@[simp] theorem State.setC_boot (s : State) (n : Nat) (b : Bool) : (s.setC n b).boot = s.boot := rfl
@[simp] theorem State.setC_winReqs (s : State) (n : Nat) (b : Bool) : (s.setC n b).winReqs = s.winReqs := rfl
@[simp] theorem State.setC_nextId (s : State) (n : Nat) (b : Bool) : (s.setC n b).nextId = s.nextId := rfl
@[simp] theorem State.setC_schedule (s : State) (n : Nat) (b : Bool) : (s.setC n b).schedule = s.schedule := rfl
@[simp] theorem State.setC_stage (s : State) (n : Nat) (b : Bool) : (s.setC n b).stage = s.stage := rfl
@[simp] theorem State.setC_plan (s : State) (n : Nat) (b : Bool) : (s.setC n b).plan = s.plan := rfl
@[simp] theorem State.setC_cur (s : State) (n : Nat) (b : Bool) : (s.setC n b).cur = s.cur := rfl
@[simp] theorem State.setC_fresh (s : State) (n : Nat) (b : Bool) : (s.setC n b).fresh = s.fresh := rfl
@[simp] theorem State.setC_outbox (s : State) (n : Nat) (b : Bool) : (s.setC n b).outbox = s.outbox := rfl

@[simp] theorem State.writeCmp_mem (s : State) (cf : BitVec 3) (b : Bool) : (s.writeCmp cf b).mem = s.mem := rfl
@[simp] theorem State.writeCmp_ws (s : State) (cf : BitVec 3) (b : Bool) : (s.writeCmp cf b).ws = s.ws := rfl
@[simp] theorem State.writeCmp_dev (s : State) (cf : BitVec 3) (b : Bool) : (s.writeCmp cf b).dev = s.dev := rfl
@[simp] theorem State.writeCmp_blocks (s : State) (cf : BitVec 3) (b : Bool) : (s.writeCmp cf b).blocks = s.blocks := rfl
@[simp] theorem State.writeCmp_ctxs (s : State) (cf : BitVec 3) (b : Bool) : (s.writeCmp cf b).ctxs = s.ctxs := rfl
@[simp] theorem State.writeCmp_cores (s : State) (cf : BitVec 3) (b : Bool) : (s.writeCmp cf b).cores = s.cores := rfl
@[simp] theorem State.writeCmp_clusters (s : State) (cf : BitVec 3) (b : Bool) : (s.writeCmp cf b).clusters = s.clusters := rfl
@[simp] theorem State.writeCmp_sets (s : State) (cf : BitVec 3) (b : Bool) : (s.writeCmp cf b).sets = s.sets := rfl
@[simp] theorem State.writeCmp_qps (s : State) (cf : BitVec 3) (b : Bool) : (s.writeCmp cf b).qps = s.qps := rfl
@[simp] theorem State.writeCmp_ports (s : State) (cf : BitVec 3) (b : Bool) : (s.writeCmp cf b).ports = s.ports := rfl
@[simp] theorem State.writeCmp_boot (s : State) (cf : BitVec 3) (b : Bool) : (s.writeCmp cf b).boot = s.boot := rfl
@[simp] theorem State.writeCmp_winReqs (s : State) (cf : BitVec 3) (b : Bool) : (s.writeCmp cf b).winReqs = s.winReqs := rfl
@[simp] theorem State.writeCmp_nextId (s : State) (cf : BitVec 3) (b : Bool) : (s.writeCmp cf b).nextId = s.nextId := rfl
@[simp] theorem State.writeCmp_schedule (s : State) (cf : BitVec 3) (b : Bool) : (s.writeCmp cf b).schedule = s.schedule := rfl
@[simp] theorem State.writeCmp_stage (s : State) (cf : BitVec 3) (b : Bool) : (s.writeCmp cf b).stage = s.stage := rfl
@[simp] theorem State.writeCmp_plan (s : State) (cf : BitVec 3) (b : Bool) : (s.writeCmp cf b).plan = s.plan := rfl
@[simp] theorem State.writeCmp_cur (s : State) (cf : BitVec 3) (b : Bool) : (s.writeCmp cf b).cur = s.cur := rfl
@[simp] theorem State.writeCmp_fresh (s : State) (cf : BitVec 3) (b : Bool) : (s.writeCmp cf b).fresh = s.fresh := rfl
@[simp] theorem State.writeCmp_outbox (s : State) (cf : BitVec 3) (b : Bool) : (s.writeCmp cf b).outbox = s.outbox := rfl

@[simp] theorem State.writeCf_mem (s : State) (cf : BitVec 3) (x : Nat) : (s.writeCf cf x).mem = s.mem := by unfold State.writeCf; split <;> rfl
@[simp] theorem State.writeCf_ws (s : State) (cf : BitVec 3) (x : Nat) : (s.writeCf cf x).ws = s.ws := by unfold State.writeCf; split <;> rfl
@[simp] theorem State.writeCf_dev (s : State) (cf : BitVec 3) (x : Nat) : (s.writeCf cf x).dev = s.dev := by unfold State.writeCf; split <;> rfl
@[simp] theorem State.writeCf_blocks (s : State) (cf : BitVec 3) (x : Nat) : (s.writeCf cf x).blocks = s.blocks := by unfold State.writeCf; split <;> rfl
@[simp] theorem State.writeCf_ctxs (s : State) (cf : BitVec 3) (x : Nat) : (s.writeCf cf x).ctxs = s.ctxs := by unfold State.writeCf; split <;> rfl
@[simp] theorem State.writeCf_cores (s : State) (cf : BitVec 3) (x : Nat) : (s.writeCf cf x).cores = s.cores := by unfold State.writeCf; split <;> rfl
@[simp] theorem State.writeCf_clusters (s : State) (cf : BitVec 3) (x : Nat) : (s.writeCf cf x).clusters = s.clusters := by unfold State.writeCf; split <;> rfl
@[simp] theorem State.writeCf_sets (s : State) (cf : BitVec 3) (x : Nat) : (s.writeCf cf x).sets = s.sets := by unfold State.writeCf; split <;> rfl
@[simp] theorem State.writeCf_qps (s : State) (cf : BitVec 3) (x : Nat) : (s.writeCf cf x).qps = s.qps := by unfold State.writeCf; split <;> rfl
@[simp] theorem State.writeCf_ports (s : State) (cf : BitVec 3) (x : Nat) : (s.writeCf cf x).ports = s.ports := by unfold State.writeCf; split <;> rfl
@[simp] theorem State.writeCf_boot (s : State) (cf : BitVec 3) (x : Nat) : (s.writeCf cf x).boot = s.boot := by unfold State.writeCf; split <;> rfl
@[simp] theorem State.writeCf_winReqs (s : State) (cf : BitVec 3) (x : Nat) : (s.writeCf cf x).winReqs = s.winReqs := by unfold State.writeCf; split <;> rfl
@[simp] theorem State.writeCf_nextId (s : State) (cf : BitVec 3) (x : Nat) : (s.writeCf cf x).nextId = s.nextId := by unfold State.writeCf; split <;> rfl
@[simp] theorem State.writeCf_schedule (s : State) (cf : BitVec 3) (x : Nat) : (s.writeCf cf x).schedule = s.schedule := by unfold State.writeCf; split <;> rfl
@[simp] theorem State.writeCf_stage (s : State) (cf : BitVec 3) (x : Nat) : (s.writeCf cf x).stage = s.stage := by unfold State.writeCf; split <;> rfl
@[simp] theorem State.writeCf_plan (s : State) (cf : BitVec 3) (x : Nat) : (s.writeCf cf x).plan = s.plan := by unfold State.writeCf; split <;> rfl
@[simp] theorem State.writeCf_cur (s : State) (cf : BitVec 3) (x : Nat) : (s.writeCf cf x).cur = s.cur := by unfold State.writeCf; split <;> rfl
@[simp] theorem State.writeCf_fresh (s : State) (cf : BitVec 3) (x : Nat) : (s.writeCf cf x).fresh = s.fresh := by unfold State.writeCf; split <;> rfl
@[simp] theorem State.writeCf_outbox (s : State) (cf : BitVec 3) (x : Nat) : (s.writeCf cf x).outbox = s.outbox := by unfold State.writeCf; split <;> rfl

@[simp] theorem State.writeS_mem (s : State) (r : SplitRef) (n : Nat) (x : Word) : (s.writeS r n x).mem = s.mem := by unfold State.writeS; split <;> rfl
@[simp] theorem State.writeS_ws (s : State) (r : SplitRef) (n : Nat) (x : Word) : (s.writeS r n x).ws = s.ws := by unfold State.writeS; split <;> rfl
@[simp] theorem State.writeS_dev (s : State) (r : SplitRef) (n : Nat) (x : Word) : (s.writeS r n x).dev = s.dev := by unfold State.writeS; split <;> rfl
@[simp] theorem State.writeS_blocks (s : State) (r : SplitRef) (n : Nat) (x : Word) : (s.writeS r n x).blocks = s.blocks := by unfold State.writeS; split <;> rfl
@[simp] theorem State.writeS_ctxs (s : State) (r : SplitRef) (n : Nat) (x : Word) : (s.writeS r n x).ctxs = s.ctxs := by unfold State.writeS; split <;> rfl
@[simp] theorem State.writeS_cores (s : State) (r : SplitRef) (n : Nat) (x : Word) : (s.writeS r n x).cores = s.cores := by unfold State.writeS; split <;> rfl
@[simp] theorem State.writeS_clusters (s : State) (r : SplitRef) (n : Nat) (x : Word) : (s.writeS r n x).clusters = s.clusters := by unfold State.writeS; split <;> rfl
@[simp] theorem State.writeS_sets (s : State) (r : SplitRef) (n : Nat) (x : Word) : (s.writeS r n x).sets = s.sets := by unfold State.writeS; split <;> rfl
@[simp] theorem State.writeS_qps (s : State) (r : SplitRef) (n : Nat) (x : Word) : (s.writeS r n x).qps = s.qps := by unfold State.writeS; split <;> rfl
@[simp] theorem State.writeS_ports (s : State) (r : SplitRef) (n : Nat) (x : Word) : (s.writeS r n x).ports = s.ports := by unfold State.writeS; split <;> rfl
@[simp] theorem State.writeS_boot (s : State) (r : SplitRef) (n : Nat) (x : Word) : (s.writeS r n x).boot = s.boot := by unfold State.writeS; split <;> rfl
@[simp] theorem State.writeS_winReqs (s : State) (r : SplitRef) (n : Nat) (x : Word) : (s.writeS r n x).winReqs = s.winReqs := by unfold State.writeS; split <;> rfl
@[simp] theorem State.writeS_nextId (s : State) (r : SplitRef) (n : Nat) (x : Word) : (s.writeS r n x).nextId = s.nextId := by unfold State.writeS; split <;> rfl
@[simp] theorem State.writeS_schedule (s : State) (r : SplitRef) (n : Nat) (x : Word) : (s.writeS r n x).schedule = s.schedule := by unfold State.writeS; split <;> rfl
@[simp] theorem State.writeS_stage (s : State) (r : SplitRef) (n : Nat) (x : Word) : (s.writeS r n x).stage = s.stage := by unfold State.writeS; split <;> rfl
@[simp] theorem State.writeS_plan (s : State) (r : SplitRef) (n : Nat) (x : Word) : (s.writeS r n x).plan = s.plan := by unfold State.writeS; split <;> rfl
@[simp] theorem State.writeS_cur (s : State) (r : SplitRef) (n : Nat) (x : Word) : (s.writeS r n x).cur = s.cur := by unfold State.writeS; split <;> rfl
@[simp] theorem State.writeS_fresh (s : State) (r : SplitRef) (n : Nat) (x : Word) : (s.writeS r n x).fresh = s.fresh := by unfold State.writeS; split <;> rfl
@[simp] theorem State.writeS_outbox (s : State) (r : SplitRef) (n : Nat) (x : Word) : (s.writeS r n x).outbox = s.outbox := by unfold State.writeS; split <;> rfl

@[simp] theorem State.writeSel_mem (s : State) (n : Nat) (x : Word) : (s.writeSel n x).mem = s.mem := by unfold State.writeSel; split <;> simp
@[simp] theorem State.writeSel_ws (s : State) (n : Nat) (x : Word) : (s.writeSel n x).ws = s.ws := by unfold State.writeSel; split <;> simp
@[simp] theorem State.writeSel_dev (s : State) (n : Nat) (x : Word) : (s.writeSel n x).dev = s.dev := by unfold State.writeSel; split <;> simp
@[simp] theorem State.writeSel_blocks (s : State) (n : Nat) (x : Word) : (s.writeSel n x).blocks = s.blocks := by unfold State.writeSel; split <;> simp
@[simp] theorem State.writeSel_ctxs (s : State) (n : Nat) (x : Word) : (s.writeSel n x).ctxs = s.ctxs := by unfold State.writeSel; split <;> simp
@[simp] theorem State.writeSel_cores (s : State) (n : Nat) (x : Word) : (s.writeSel n x).cores = s.cores := by unfold State.writeSel; split <;> simp
@[simp] theorem State.writeSel_clusters (s : State) (n : Nat) (x : Word) : (s.writeSel n x).clusters = s.clusters := by unfold State.writeSel; split <;> simp
@[simp] theorem State.writeSel_sets (s : State) (n : Nat) (x : Word) : (s.writeSel n x).sets = s.sets := by unfold State.writeSel; split <;> simp
@[simp] theorem State.writeSel_qps (s : State) (n : Nat) (x : Word) : (s.writeSel n x).qps = s.qps := by unfold State.writeSel; split <;> simp
@[simp] theorem State.writeSel_ports (s : State) (n : Nat) (x : Word) : (s.writeSel n x).ports = s.ports := by unfold State.writeSel; split <;> simp
@[simp] theorem State.writeSel_boot (s : State) (n : Nat) (x : Word) : (s.writeSel n x).boot = s.boot := by unfold State.writeSel; split <;> simp
@[simp] theorem State.writeSel_winReqs (s : State) (n : Nat) (x : Word) : (s.writeSel n x).winReqs = s.winReqs := by unfold State.writeSel; split <;> simp
@[simp] theorem State.writeSel_nextId (s : State) (n : Nat) (x : Word) : (s.writeSel n x).nextId = s.nextId := by unfold State.writeSel; split <;> simp
@[simp] theorem State.writeSel_schedule (s : State) (n : Nat) (x : Word) : (s.writeSel n x).schedule = s.schedule := by unfold State.writeSel; split <;> simp
@[simp] theorem State.writeSel_stage (s : State) (n : Nat) (x : Word) : (s.writeSel n x).stage = s.stage := by unfold State.writeSel; split <;> simp
@[simp] theorem State.writeSel_plan (s : State) (n : Nat) (x : Word) : (s.writeSel n x).plan = s.plan := by unfold State.writeSel; split <;> simp
@[simp] theorem State.writeSel_cur (s : State) (n : Nat) (x : Word) : (s.writeSel n x).cur = s.cur := by unfold State.writeSel; split <;> simp
@[simp] theorem State.writeSel_fresh (s : State) (n : Nat) (x : Word) : (s.writeSel n x).fresh = s.fresh := by unfold State.writeSel; split <;> simp
@[simp] theorem State.writeSel_outbox (s : State) (n : Nat) (x : Word) : (s.writeSel n x).outbox = s.outbox := by unfold State.writeSel; split <;> simp

/-! ## Reads after updates -/

theorem getD_upd {α : Type} (l : List α) (i j : Nat) (f : α → α) (d : α) :
    (upd l i f).getD j d = if i = j ∧ j < l.length then f (l.getD j d) else l.getD j d := by
  unfold upd
  simp only [List.getD_eq_getElem?_getD, List.getElem?_modify]
  by_cases h : i = j
  · subst h
    by_cases hl : i < l.length
    · simp [hl]
    · simp [hl]
  · simp [h]

@[simp] theorem length_upd {α : Type} (l : List α) (i : Nat) (f : α → α) : (upd l i f).length = l.length := by
  simp [upd]

theorem State.grp_updG (s : State) (g h : Nat) (f : Group → Group) :
    (s.updG g f).grp h = if g = h ∧ h < s.groups.length then f (s.grp h) else s.grp h := getD_upd _ _ _ _ _
theorem State.grp_updG_self (s : State) (g : Nat) (f : Group → Group) (h : g < s.groups.length) :
    (s.updG g f).grp g = f (s.grp g) := by simp [State.grp_updG, h]
theorem State.grp_updG_ne (s : State) {g h : Nat} (f : Group → Group) (n : g ≠ h) : (s.updG g f).grp h = s.grp h := by
  simp [State.grp_updG, n]
theorem State.ctx_updC (s : State) (c d : Nat) (f : Context → Context) :
    (s.updC c f).ctx d = if c = d ∧ d < s.ctxs.length then f (s.ctx d) else s.ctx d := getD_upd _ _ _ _ _
theorem State.cl_updCl (s : State) (c d : Nat) (f : Cluster → Cluster) :
    (s.updCl c f).cl d = if c = d ∧ d < s.clusters.length then f (s.cl d) else s.cl d := getD_upd _ _ _ _ _
theorem State.core_updCore (s : State) (c d : Nat) (f : CoreSt → CoreSt) :
    (s.updCore c f).core d = if c = d ∧ d < s.cores.length then f (s.core d) else s.core d := getD_upd _ _ _ _ _
theorem State.blk_updB (s : State) (c d : Nat) (f : Block → Block) :
    (s.updB c f).blk d = if c = d ∧ d < s.blocks.length then f (s.blk d) else s.blk d := getD_upd _ _ _ _ _
theorem State.set_updSet (s : State) (c d : Nat) (f : ViewSet → ViewSet) :
    (s.updSet c f).set d = if c = d ∧ d < s.sets.length then f (s.set d) else s.set d := getD_upd _ _ _ _ _
theorem State.qp_updQ (s : State) (c d : Nat) (f : QueuePair → QueuePair) :
    (s.updQ c f).qp d = if c = d ∧ d < s.qps.length then f (s.qp d) else s.qp d := getD_upd _ _ _ _ _
/-- A split after an update of a split. -/
theorem State.spl_updS (s : State) (r q : SplitRef) (f : Split → Split) :
    (s.updS r f).spl q =
      if r = q ∧ q.group < s.groups.length ∧ q.split < (s.grp q.group).splits.length then f (s.spl q) else s.spl q := by
  obtain ⟨rg, rs⟩ := r
  obtain ⟨qg, qs⟩ := q
  simp only [State.spl, State.updS, State.grp_updG, SplitRef.mk.injEq]
  by_cases h : rg = qg ∧ qg < s.groups.length
  · obtain ⟨rfl, hl⟩ := h
    simp only [hl, and_self, if_true, Group.updS_splits, getD_upd, true_and]

  · rw [if_neg h]
    by_cases h1 : rg = qg
    · have hl : ¬ qg < s.groups.length := fun x => h ⟨h1, x⟩
      simp [hl]
    · simp [h1]

end Sys2Proof.Machine
end

