-- ==== Sys2Proof/Laws/Memory.lean ====
section
/-!
SUPPORT. Byte memory: read after write, and that every operation on the home memory and the weight store keeps the canonical form.
-/

namespace Sys2Proof.Machine

/-! ## Bytes -/

theorem getB_setB (m : List Host.Cell) (a b : Nat) (x : Byte) : getB (setB m a x) b = if b = a then x else getB m b :=
  sget_sset _ m a b x
theorem wf_setB (m : List Host.Cell) (a : Nat) (x : Byte) (h : Memory.wf m = true) : Memory.wf (setB m a x) = true :=
  swf_sset _ m a x h
theorem wf_nil : Memory.wf [] = true := rfl
/-- The bytes of a run are written, and no others. -/
theorem getB_setBs (m : List Host.Cell) (a b : Nat) (l : List Byte) :
    getB (setBs m a l) b = if a ≤ b ∧ b < a + l.length then l.getD (b - a) 0 else getB m b := by
  induction l generalizing m a with
  | nil => rw [if_neg (by simp only [List.length_nil]; omega)]; rfl
  | cons x t ih =>
    simp only [setBs, ih, getB_setB, List.length_cons]
    by_cases h : b = a
    · subst h
      rw [if_neg (by omega), if_pos (by omega)]; simp
    · by_cases h1 : a ≤ b ∧ b < a + (t.length + 1)
      · have e : b - a = (b - (a + 1)) + 1 := by omega
        rw [if_pos (by omega), if_pos h1, e, List.getD_cons_succ]
      · rw [if_neg (by omega), if_neg h, if_neg h1]
theorem wf_setBs (m : List Host.Cell) (a : Nat) (l : List Byte) (h : Memory.wf m = true) : Memory.wf (setBs m a l) = true := by
  induction l generalizing m a with
  | nil => exact h
  | cons x t ih => exact ih _ _ (wf_setB _ _ _ h)
/-- Reading back a run that has been written. -/
theorem getBs_setBs (m : List Host.Cell) (a : Nat) (l : List Byte) : getBs (setBs m a l) a l.length = l := by
  apply List.ext_getElem
  · simp [getBs]
  · intro i h1 h2
    simp [getBs, getB_setBs, h2]
/-- A fold of byte writes keeps the canonical form. -/
theorem wf_foldl_setB {β : Type} (l : List β) (f : β → Nat) (g : β → Byte) (m : List Host.Cell) (h : Memory.wf m = true) :
    Memory.wf (l.foldl (fun m e => setB m (f e) (g e)) m) = true := by
  induction l generalizing m with
  | nil => exact h
  | cons x t ih => exact ih _ (wf_setB _ _ _ h)
theorem wf_setMasked (m : List Host.Cell) (a : Nat) (mask : BitVec 64) (data : BitVec 512) (h : Memory.wf m = true) :
    Memory.wf (setMasked m a mask data) = true := by
  unfold setMasked
  generalize List.range 64 = l
  induction l generalizing m with
  | nil => exact h
  | cons x t ih =>
    refine ih _ ?_
    dsimp only
    split
    · exact wf_setB _ _ _ h
    · exact h
theorem wf_sdropWhere (p : Nat → Bool) (m : List Host.Cell) (h : Memory.wf m = true) : Memory.wf (sdropWhere p m) = true :=
  swf_sdropWhere _ p m h

theorem swfFrom_append (b mid : Nat) (l r : List Host.Cell) (hl : swfFrom (0 : Byte) b l = true) (hb : b ≤ mid)
    (hm : ∀ e ∈ l, e.1 < mid) (hr : swfFrom (0 : Byte) mid r = true) : swfFrom (0 : Byte) b (l ++ r) = true := by
  induction l generalizing b with
  | nil => exact swfFrom_mono _ _ hb hr
  | cons x t ih =>
    obtain ⟨i, v⟩ := x
    simp only [swfFrom, Bool.and_eq_true, decide_eq_true_eq] at hl
    simp only [List.cons_append, swfFrom, Bool.and_eq_true, decide_eq_true_eq]
    exact ⟨hl.1, ih _ hl.2 (hm _ (List.mem_cons_self ..)) fun e h => hm e (List.mem_cons_of_mem _ h)⟩
theorem swfFrom_from (a b : Nat) (m : List Host.Cell) (h : swfFrom (0 : Byte) b m = true) (q : ∀ e ∈ m, a ≤ e.1) :
    swfFrom (0 : Byte) a m = true := by
  cases m with
  | nil => rfl
  | cons x t =>
    obtain ⟨i, v⟩ := x
    simp only [swfFrom, Bool.and_eq_true, decide_eq_true_eq] at h ⊢
    exact ⟨⟨q _ (List.mem_cons_self ..), h.1.2⟩, h.2⟩
theorem swfFrom_run (n : Nat) : ∀ (lo k : Nat) (f : Nat → Byte),
    swfFrom (0 : Byte) (lo + k) (((List.range' k n).map fun i => (lo + i, f i)).filter fun e => e.2 != 0) = true := by
  induction n with
  | zero => intro lo k f; rfl
  | succ n ih =>
    intro lo k f
    simp only [List.range'_succ, List.map_cons, List.filter_cons]
    have h := ih lo (k + 1) f
    split
    · next c =>
      simp only [swfFrom, Bool.and_eq_true, decide_eq_true_eq]
      exact ⟨⟨Nat.le_refl _, by simpa using c⟩, h⟩
    · exact swfFrom_mono _ _ (by omega) h
/-- Bytes that become free keep the canonical form. -/
theorem wf_freeRange (m : List Host.Cell) (lo n seed : Nat) (h : Memory.wf m = true) : Memory.wf (freeRange m lo n seed) = true := by
  unfold freeRange
  rw [List.append_assoc]
  refine swfFrom_append 0 lo _ _ (swfFrom_filter _ _ _ _ h) (Nat.zero_le _) (fun e q => by simpa using (List.mem_filter.mp q).2) ?_
  refine swfFrom_append lo (lo + n) _ _ ?_ (by omega) ?_ ?_
  · rw [List.range_eq_range']
    exact swfFrom_run n lo 0 fun i => BitVec.ofNat 8 (Config.freeNat (seed + i))
  · intro e q
    obtain ⟨i, hi, rfl⟩ := List.mem_map.mp (List.mem_filter.mp q).1
    have := List.mem_range.mp hi
    dsimp only; omega
  · exact swfFrom_from _ 0 _ (swfFrom_filter _ _ _ _ h) fun e q => by simpa using (List.mem_filter.mp q).2

/-! ## The operations on the home memory and the weight store -/

/-- Both memories of a state are in canonical form. -/
def MemoryForm (s : State) : Prop := Memory.wf s.mem = true ∧ Memory.wf s.ws = true

theorem reset_memoryForm : MemoryForm State.reset := ⟨rfl, rfl⟩
theorem cold_memoryForm (s : State) (stage : Nat) (trip : Bool) : MemoryForm (s.cold stage trip) := ⟨rfl, rfl⟩
theorem writePhys_memoryForm (s : State) (p : Nat) (mask : BitVec 64) (data : BitVec 512) (poison : Bool) (h : MemoryForm s) :
    MemoryForm (s.writePhys p mask data poison) := ⟨wf_setMasked _ _ _ _ h.1, h.2⟩
theorem mapFrame_memoryForm (s : State) (c page f : Nat) (h : MemoryForm s) : MemoryForm (s.mapFrame c page f) :=
  ⟨wf_foldl_setB _ _ _ _ (wf_sdropWhere _ _ h.1), h.2⟩
theorem takeFrames_memory (s u : State) (n f : Nat) (deep : Bool) (h : s.takeFrames n deep = some (f, u)) :
    u.mem = s.mem ∧ u.ws = s.ws := by
  unfold State.takeFrames at h
  dsimp only at h
  split at h
  · cases h; exact ⟨rfl, rfl⟩
  · cases h
/-- Filling reserves and freeing frames leaves both memories alone. -/
theorem refillAll_memory (s : State) : s.refillAll.mem = s.mem ∧ s.refillAll.ws = s.ws := by
  have go (l : List Nat) : ∀ w : State, w.mem = s.mem ∧ w.ws = s.ws →
      let u := l.foldl (fun s c => if (s.ctx c).reserve < 256 then s.refill c else s) w
      u.mem = s.mem ∧ u.ws = s.ws := by
    induction l with
    | nil => intro w h; exact h
    | cons c t ih => intro w h; exact ih _ (by dsimp only; split <;> exact h)
  exact go _ s ⟨rfl, rfl⟩
theorem freeFrames_memory (s : State) (r : Nat × Nat) : (s.freeFrames r).mem = s.mem ∧ (s.freeFrames r).ws = s.ws :=
  refillAll_memory (s.updDev fun d => { d with used := d.used.filter (· != r) })
theorem reclaim_memory (s : State) (c page : Nat) : (s.reclaim c page).mem = s.mem ∧ (s.reclaim c page).ws = s.ws := by
  unfold State.reclaim
  split <;> exact ⟨rfl, rfl⟩
theorem servePage_memoryForm (s u : State) (c page : Nat) (keep : List Nat) (need : Nat) (h : MemoryForm s)
    (e : s.servePage c page keep need = some u) : MemoryForm u := by
  have go (w t : State) (m : MemoryForm w) (q : (w.takeFrames 1 true).map (fun x => x.2.mapFrame c page x.1) = some t) : MemoryForm t := by
    obtain ⟨⟨f, v⟩, hv, rfl⟩ := Option.map_eq_some_iff.mp q
    have k := takeFrames_memory _ _ _ _ _ hv
    exact mapFrame_memoryForm _ _ _ _ ⟨by rw [k.1]; exact m.1, by rw [k.2]; exact m.2⟩
  unfold State.servePage at e
  split at e
  · next f v hv =>
    cases e
    have k := takeFrames_memory _ _ _ _ _ hv
    exact mapFrame_memoryForm _ _ _ _ ⟨by rw [k.1]; exact h.1, by rw [k.2]; exact h.2⟩
  · split at e
    · next x hx =>
      have k := reclaim_memory s c x.1
      cases e
      exact mapFrame_memoryForm _ _ _ _ ⟨by rw [k.1]; exact h.1, by rw [k.2]; exact h.2⟩
    · split at e
      · cases e
      · exact go (s.updC c fun x => { x with reserve := x.reserve - 1 }) _ ⟨h.1, h.2⟩ e
theorem xlateIn_memoryForm (s u : State) (c va p : Nat) (want : Want) (keep : List Nat) (h : MemoryForm s)
    (e : s.xlateIn c va want keep = .got p u) : MemoryForm u := by
  unfold State.xlateIn at e
  split at e
  · cases e; exact h
  · split at e
    · cases e
    · split at e
      · next v hv =>
        split at e
        · cases e; exact servePage_memoryForm _ _ _ _ _ _ h hv
        · cases e
      · cases e
  · cases e
theorem xlateServed_memoryForm (s u : State) (c va p : Nat) (want : Want) (h : MemoryForm s)
    (e : s.xlateServed c va want = some (p, u)) : MemoryForm u := by
  unfold State.xlateServed at e
  split at e
  · next q v hv => cases e; exact xlateIn_memoryForm _ _ _ _ _ _ _ h hv
  · cases e
theorem writeHome_memoryForm (s : State) (k : Nat) (mask : BitVec 64) (data : BitVec 512) (poison : Bool) (h : MemoryForm s) :
    MemoryForm (s.writeHome k mask data poison).1 := by
  unfold State.writeHome
  split
  · next p u e => exact writePhys_memoryForm _ _ _ _ _ (xlateServed_memoryForm _ _ _ _ _ _ h e)
  · exact h
theorem Xl.andThen_got {α β : Type} (x : Xl α) (k : α → State → Xl β) (b : β) (u : State) (h : x.andThen k = .got b u) :
    ∃ a v, x = .got a v ∧ k a v = .got b u := by
  cases x with
  | got a v => exact ⟨a, v, rfl, h⟩
  | wait => cases h
  | refused => cases h
  | exhausted => cases h
/-- A fold of steps that keep a property keeps it. -/
theorem Xl.foldl_got {α β : Type} (P : State → Prop) (f : Xl α → β → Xl α)
    (hf : ∀ x b a u, f x b = .got a u → ∃ a' v, x = .got a' v ∧ (P v → P u)) (l : List β) :
    ∀ (x : Xl α) (a : α) (u : State), (∀ a v, x = .got a v → P v) → l.foldl f x = .got a u → P u := by
  induction l with
  | nil => intro x a u hx e; exact hx a u e
  | cons b t ih =>
    intro x a u hx e
    refine ih (f x b) a u ?_ e
    intro a' v hv
    obtain ⟨a'', w, rfl, k⟩ := hf x b a' v hv
    exact k (hx a'' w rfl)
theorem writeXl_memoryForm (s u : State) (c va : Nat) (data : List Byte) (x : Unit) (h : MemoryForm s)
    (e : s.writeXl c va data = .got x u) : MemoryForm u := by
  refine Xl.foldl_got MemoryForm _ ?_ _ _ x u (fun a v q => by cases q; exact h) e
  intro y i a w q
  obtain ⟨a', v, rfl, q⟩ := Xl.andThen_got _ _ _ _ q
  obtain ⟨ph, v', hv, q⟩ := Xl.andThen_got (v.xlateIn c (va + i) .w (pageRange va data.length)) _ _ _ q
  cases q
  exact ⟨a', v, rfl, fun m => writePhys_memoryForm _ _ _ _ _ (xlateIn_memoryForm _ _ _ _ _ _ _ m hv)⟩
theorem readXl_memoryForm (s u : State) (c va n : Nat) (want : Want) (x : List Byte × Bool) (h : MemoryForm s)
    (e : s.readXl c va n want = .got x u) : MemoryForm u := by
  refine Xl.foldl_got MemoryForm _ ?_ _ _ x u (fun a v q => by cases q; exact h) e
  intro y i a w q
  obtain ⟨a', v, rfl, q⟩ := Xl.andThen_got _ _ _ _ q
  obtain ⟨ph, v', hv, q⟩ := Xl.andThen_got (v.xlateIn c (va + i) want (pageRange va n)) _ _ _ q
  cases q
  exact ⟨a', v, rfl, fun m => xlateIn_memoryForm _ _ _ _ _ _ _ m hv⟩
theorem writeHomeVA_memoryForm (s u : State) (c va : Nat) (data : List Byte) (h : MemoryForm s)
    (e : s.writeHomeVA c va data = some u) : MemoryForm u := by
  unfold State.writeHomeVA at e
  split at e
  · next x v hv => cases e; exact writeXl_memoryForm _ _ _ _ _ _ h hv
  · cases e
theorem pinPages_memoryForm (l : List (Nat × Nat)) (s u : State) (r : List (Nat × Nat × Nat)) (h : MemoryForm s)
    (e : s.pinPages l = some (u, r)) : MemoryForm u := by
  induction l generalizing s r with
  | nil => simp only [State.pinPages, Option.some.injEq, Prod.mk.injEq] at e; exact e.1 ▸ h
  | cons x t ih =>
    obtain ⟨va, code⟩ := x
    simp only [State.pinPages] at e
    split at e
    · cases e
    · next f v hv =>
      obtain ⟨⟨w, q⟩, hw, hr⟩ := Option.map_eq_some_iff.mp e
      cases hr
      have k := takeFrames_memory _ _ _ _ _ hv
      have hv' : MemoryForm v := ⟨k.1 ▸ h.1, k.2 ▸ h.2⟩
      refine ih _ q ?_ hw
      exact ⟨by dsimp only; exact wf_sdropWhere _ _ hv'.1, hv'.2⟩

end Sys2Proof.Machine
end

