-- ==== Sys2Proof/Laws/Ops.lean ====
section
/-!
SUPPORT. The shared operations: what issuing an instruction word can do, what taking a trap can do, the update of the issuing split,
reads of scalars after writes, and counted operations.
-/

namespace Sys2Proof.Machine

/-! ## The issuing split -/

/-- What curOk says. -/
theorem curOk_spec (s : State) (h : s.curOk = true) :
    (s.grp s.cur.group).live? = true ∧ s.cur.group < s.groups.length ∧ s.cur.split < (s.grp s.cur.group).splits.length ∧
      (s.spl s.cur).st = .ready := by
  simpa [State.curOk, and_assoc] using h
/-- The issuing split after an update of it. -/
theorem spl_updS_cur (s : State) (f : Split → Split) (h : s.curOk = true) : (s.updS s.cur f).spl s.cur = f (s.spl s.cur) := by
  obtain ⟨-, h1, h2, -⟩ := curOk_spec s h
  simp [State.spl_updS, h1, h2]
/-- Another split after it. -/
theorem spl_updS_ne (s : State) {r q : SplitRef} (f : Split → Split) (h : r ≠ q) : (s.updS r f).spl q = s.spl q := by
  simp [State.spl_updS, h]
/-- The registers of every group after an update of a split. -/
theorem regs_updS (s : State) (r : SplitRef) (f : Split → Split) (g : Nat) : ((s.updS r f).grp g).regs = (s.grp g).regs := by
  simp only [State.updS, State.grp_updG]
  split <;> rfl
theorem advance_pc (s : State) (n : Nat) (h : s.curOk = true) :
    ((s.advance n).spl s.cur).pc = (s.spl s.cur).pc + BitVec.ofNat 56 (4 * n) := by
  rw [State.advance, spl_updS_cur s _ h]; rfl
/-- A held instruction leaves the split where it was (R152). -/
theorem hold_split (s : State) (h : s.curOk = true) : s.hold.spl s.cur = { s.spl s.cur with held := true } := by
  rw [State.hold, spl_updS_cur s _ h]

/-! ## Scalars -/

/-- Reading a scalar after a write of one, where the split exists. -/
theorem readS_writeS (s : State) (r : SplitRef) (n m : Nat) (x : Word) (h1 : r.group < s.groups.length)
    (h2 : r.split < (s.grp r.group).splits.length) : (s.writeS r n x).readS r m = if m = n then x else s.readS r m := by
  by_cases hn : n < 32 <;> by_cases hm : m < 32 <;> simp only [State.writeS, State.readS, hn, hm, if_true, if_false]
  · simp [State.spl_updS, h1, h2, Split.writeS, sget_sset]
  · rw [regs_updS]; rw [if_neg (by omega)]
  · rw [if_neg (by omega)]
    simp only [State.spl, State.grp_updG, h1, and_self, if_true, Group.writeS_splits]
  · simp [State.grp_updG, h1, Group.writeS, sget_sset]
/-- A banked scalar is the split's own: another split's stays (R15). -/
theorem readS_writeS_ne (s : State) {r q : SplitRef} (n m : Nat) (x : Word) (h : r ≠ q) (hn : n < 32) :
    (s.writeS r n x).readS q m = s.readS q m := by
  simp only [State.writeS, State.readS, hn, if_true]
  split
  · rw [spl_updS_ne s _ h]
  · rw [regs_updS]

/-! ## Issue -/

/-- An instruction that passes its checks has its effect. -/
theorem issue_next {w : IWord} {s : State} (body : State → State) (h : s.curOk = true) (p : s.precheck w = none) :
    issue w s body = .next (body s) := by simp [issue, h, p]
/-- An instruction that fails a check takes its trap. -/
theorem issue_trap {w : IWord} {s : State} (body : State → State) {code : Nat} (h : s.curOk = true) (p : s.precheck w = some code)
    (q : code ≠ 0x14) : issue w s body = .next (s.trapNow code) := by
  simp only [issue, h, if_true, p]
/-- A read of a poisoned register traps POISON in the lanes that read it. -/
theorem issue_poison {w : IWord} {s : State} (body : State → State) (h : s.curOk = true) (p : s.precheck w = some 0x14) :
    issue w s body = .next (s.trapAt 0x14 (s.poisonLanes w) 0) := by simp [issue, h, p]
/-- Everything that issuing can do. -/
theorem issue_cases {w : IWord} {s : State} {body : State → State} {o : Host.Outcome State Fault Refusal} (h : issue w s body = o) :
    (s.curOk = true ∧ s.precheck w = none ∧ o = .next (body s)) ∨
    (s.curOk = true ∧ s.precheck w = some 0x14 ∧ o = .next (s.trapAt 0x14 (s.poisonLanes w) 0)) ∨
    (∃ code, code ≠ 0x14 ∧ s.curOk = true ∧ s.precheck w = some code ∧ o = .next (s.trapNow code)) ∨
    (s.curOk = false ∧ o = .fault .noIssuingSplit) := by
  subst h
  cases hc : s.curOk with
  | false => exact .inr (.inr (.inr ⟨rfl, by simp [issue, hc]⟩))
  | true =>
    cases hp : s.precheck w with
    | none => exact .inl ⟨rfl, rfl, issue_next body hc hp⟩
    | some code =>
      by_cases q : code = 0x14
      · subst q; exact .inr (.inl ⟨rfl, rfl, issue_poison body hc hp⟩)
      · exact .inr (.inr (.inl ⟨code, q, rfl, rfl, issue_trap body hc hp q⟩))
/-- A word that a split may issue always has a next state. -/
theorem issue_goesOn (w : IWord) (s : State) (body : State → State) (h : s.curOk = true) : ∃ t, issue w s body = .next t := by
  rcases issue_cases (rfl : issue w s body = _) with ⟨_, _, e⟩ | ⟨_, _, e⟩ | ⟨_, _, _, _, e⟩ | ⟨n, _⟩
  · exact ⟨_, e⟩
  · exact ⟨_, e⟩
  · exact ⟨_, e⟩
  · rw [h] at n; cases n

/-! ## Traps (R378, R379, R384) -/

/-- Everything that taking a trap can do: it waits for another split's handler, ends the group, or enters the handler. -/
theorem takeTrap_cases (s : State) (who : SplitRef) (c : Cause) :
    ((s.grp who.group).trapElsewhere who.split = true ∧ s.takeTrap who c = s.updS who fun sp => { sp with held := true }) ∨
    (((s.spl who).trap = true ∨ (s.ctx (s.grp who.group).who.ctx).trapBase = 0) ∧ s.takeTrap who c = s.endGroup who c) ∨
    ((s.grp who.group).trapElsewhere who.split = false ∧ (s.spl who).trap = false ∧
      (s.ctx (s.grp who.group).who.ctx).trapBase ≠ 0 ∧ s.takeTrap who c = s.enterTrap who c) := by
  unfold State.takeTrap
  cases h : (s.grp who.group).trapElsewhere who.split with
  | true => exact .inl ⟨rfl, by simp [h]⟩
  | false =>
    by_cases q : (s.spl who).trap = true ∨ (s.ctx (s.grp who.group).who.ctx).trapBase = 0
    · exact .inr (.inl ⟨q, by simp [h, q]⟩)
    · have q' := not_or.mp q
      exact .inr (.inr ⟨rfl, by simpa using q'.1, q'.2, by simp [h, q'.1, q'.2]⟩)
theorem takeTrap_enters (s : State) (who : SplitRef) (c : Cause) (h1 : (s.grp who.group).trapElsewhere who.split = false)
    (h2 : (s.spl who).trap = false) (h3 : (s.ctx (s.grp who.group).who.ctx).trapBase ≠ 0) : s.takeTrap who c = s.enterTrap who c := by
  simp [State.takeTrap, h1, h2, h3]
/-- Entering a handler touches no memory, context, cluster or queue. -/
theorem enterTrap_frame (s : State) (who : SplitRef) (c : Cause) :
    (s.enterTrap who c).mem = s.mem ∧ (s.enterTrap who c).ws = s.ws ∧ (s.enterTrap who c).dev = s.dev ∧
      (s.enterTrap who c).clusters = s.clusters ∧ (s.enterTrap who c).ctxs = s.ctxs ∧ (s.enterTrap who c).blocks = s.blocks ∧
      (s.enterTrap who c).cur = s.cur := ⟨rfl, rfl, rfl, rfl, rfl, rfl, rfl⟩
/-- Marking a split held at issue touches nothing else. -/
theorem hold_frame (s : State) :
    s.hold.mem = s.mem ∧ s.hold.ws = s.ws ∧ s.hold.dev = s.dev ∧ s.hold.clusters = s.clusters ∧ s.hold.ctxs = s.ctxs ∧
      s.hold.cores = s.cores ∧ s.hold.cur = s.cur := ⟨rfl, rfl, rfl, rfl, rfl, rfl, rfl⟩

/-! ## Counted operations (R155, R236) -/

/-- Counting an operation touches the issuing group and the identifier only. -/
theorem countOp_frame (s : State) (op : PendOp) :
    (s.countOp op).mem = s.mem ∧ (s.countOp op).ws = s.ws ∧ (s.countOp op).dev = s.dev ∧ (s.countOp op).clusters = s.clusters ∧
      (s.countOp op).cores = s.cores ∧ (s.countOp op).ctxs = s.ctxs ∧ (s.countOp op).cur = s.cur ∧
      (s.countOp op).nextId = s.nextId + 1 := ⟨rfl, rfl, rfl, rfl, rfl, rfl, rfl, rfl⟩
/-- The operation waits last in its group. -/
theorem countOp_ops (s : State) (op : PendOp) (h : s.curOk = true) :
    ((s.countOp op).grp s.cur.group).ops =
      (s.grp s.cur.group).ops ++ [{ op with id := s.nextId, holders := [s.cur.split] }] := by
  obtain ⟨-, h1, -, -⟩ := curOk_spec s h
  simp only [State.countOp, State.newId, State.updS, State.updG, State.grp, getD_upd, length_upd, h1, and_self, if_true]
  rfl
/-- Registers do not change until it completes. -/
theorem countOp_regs (s : State) (op : PendOp) (g : Nat) : ((s.countOp op).grp g).regs = (s.grp g).regs := by
  simp only [State.countOp, State.newId, State.updS, State.updG, State.grp, getD_upd, length_upd]
  split <;> rfl
/-- Finishing an operation removes it. -/
theorem finish_ops (g : Group) (op : PendOp) : (g.finish op).ops = (g.finish op).ops.filter fun x => x.id != op.id := by
  simp [Group.finish, List.filter_filter]

end Sys2Proof.Machine
end

