-- ==== Sys2Proof/Laws/PerInstr.lean ====
section
/-!
SUPPORT. Statements made per instruction. Reads: the table of opcodes gives back the instruction whose fields it is given, so that no
two instructions share the fields that tell them apart.
-/

namespace Sys2Proof.Laws.Reads

open Sys2Proof.Machine

/-- The opcode table reads an instruction's own fields as that instruction (R55, R58, R73 to R76). -/
def Statement (i : Instr) : Prop := kindOk i = true → toIWord i ≠ .other → instrOf (toIWord i) = some i

theorem of_event {i : Instr} (h : toIWord i = .other) : Statement i := fun _ n => absurd h n
theorem shift22 (o : C32) (n : Nat) (h : c32Bits o 23 22 = n) : (o.f >>> 22).toNat = n := by
  have := o.f.isLt
  simp only [c32Bits, field, BitVec.toNat_ushiftRight, Nat.shiftRight_eq_div_pow] at *
  omega
theorem shift19 (o : C32) (n : Nat) (h : c32Bits o 20 19 = n) : (o.f >>> 19).toNat % 4 = n := by
  simp only [c32Bits, field, BitVec.toNat_ushiftRight, Nat.shiftRight_eq_div_pow] at *
  omega
theorem of_word {i : Instr} (h : instrOf (toIWord i) = some i) : Statement i := fun _ _ => h

theorem nop (o : C32) : Statement (.nop o) := of_word rfl
theorem bra (o : C32) : Statement (.bra o) := of_word rfl
theorem brd (o : C32) : Statement (.brd o) := of_word rfl
theorem call (o : C32) : Statement (.call o) := of_word rfl
theorem ret (o : C32) : Statement (.ret o) := of_word rfl
theorem exit (o : C32) : Statement (.exit o) := of_word rfl
theorem waitc (o : C32) : Statement (.waitc o) := of_word rfl
theorem barSync (o : C32) : Statement (.barSync o) := by
  intro h _
  simp only [toIWord, instrOf, ofC32, shift22 _ _ (eq_of_beq h)]
theorem barArrive (o : C32) : Statement (.barArrive o) := by
  intro h _
  simp only [toIWord, instrOf, ofC32, shift22 _ _ (eq_of_beq h)]
theorem barWait (o : C32) : Statement (.barWait o) := by
  intro h _
  simp only [toIWord, instrOf, ofC32, shift22 _ _ (eq_of_beq h)]
theorem join (o : C32) : Statement (.join o) := of_word rfl
theorem yield (o : C32) : Statement (.yield o) := of_word rfl
theorem sleep (o : C32) : Statement (.sleep o) := of_word rfl
theorem lpad (o : C32) : Statement (.lpad o) := of_word rfl
theorem trap (o : C32) : Statement (.trap o) := of_word rfl
theorem bkpt (o : C32) : Statement (.bkpt o) := of_word rfl
theorem rte (o : C32) : Statement (.rte o) := of_word rfl
theorem fenceFull (o : C32) : Statement (.fenceFull o) := by
  intro h _
  simp only [toIWord, instrOf, ofC32, shift19 _ _ (eq_of_beq h)]
theorem fenceAcq (o : C32) : Statement (.fenceAcq o) := by
  intro h _
  simp only [toIWord, instrOf, ofC32, shift19 _ _ (eq_of_beq h)]
theorem fenceRel (o : C32) : Statement (.fenceRel o) := by
  intro h _
  simp only [toIWord, instrOf, ofC32, shift19 _ _ (eq_of_beq h)]
theorem segw (o : C32) : Statement (.segw o) := of_word rfl
theorem smov (o : S64) : Statement (.smov o) := of_word rfl
theorem sadd (o : S64) : Statement (.sadd o) := of_word rfl
theorem ssub (o : S64) : Statement (.ssub o) := of_word rfl
theorem smul (o : S64) : Statement (.smul o) := of_word rfl
theorem smulhiN (o : S64) : Statement (.smulhiN o) := of_word rfl
theorem smulhiI (o : S64) : Statement (.smulhiI o) := of_word rfl
theorem sand (o : S64) : Statement (.sand o) := of_word rfl
theorem sor (o : S64) : Statement (.sor o) := of_word rfl
theorem sxor (o : S64) : Statement (.sxor o) := of_word rfl
theorem sandn (o : S64) : Statement (.sandn o) := of_word rfl
theorem sshl (o : S64) : Statement (.sshl o) := of_word rfl
theorem sshr (o : S64) : Statement (.sshr o) := of_word rfl
theorem ssra (o : S64) : Statement (.ssra o) := of_word rfl
theorem sminI (o : S64) : Statement (.sminI o) := of_word rfl
theorem smaxI (o : S64) : Statement (.smaxI o) := of_word rfl
theorem sminN (o : S64) : Statement (.sminN o) := of_word rfl
theorem smaxN (o : S64) : Statement (.smaxN o) := of_word rfl
theorem sbfeN (o : S64) : Statement (.sbfeN o) := of_word rfl
theorem sbfeI (o : S64) : Statement (.sbfeI o) := of_word rfl
theorem sbfi (o : S64) : Statement (.sbfi o) := of_word rfl
theorem spopc (o : S64) : Statement (.spopc o) := of_word rfl
theorem sclz (o : S64) : Statement (.sclz o) := of_word rfl
theorem sctz (o : S64) : Statement (.sctz o) := of_word rfl
theorem sbrev (o : S64) : Statement (.sbrev o) := of_word rfl
theorem ssel (o : S64) : Statement (.ssel o) := of_word rfl
theorem scmpI (o : S64) : Statement (.scmpI o) := of_word rfl
theorem scmpN (o : S64) : Statement (.scmpN o) := of_word rfl
theorem saddB64 (o : S64) : Statement (.saddB64 o) := of_word rfl
theorem ssubB64 (o : S64) : Statement (.ssubB64 o) := of_word rfl
theorem smulB64 (o : S64) : Statement (.smulB64 o) := of_word rfl
theorem sshlB64 (o : S64) : Statement (.sshlB64 o) := of_word rfl
theorem sshrB64 (o : S64) : Statement (.sshrB64 o) := of_word rfl
theorem scmpI64 (o : S64) : Statement (.scmpI64 o) := of_word rfl
theorem scmpN64 (o : S64) : Statement (.scmpN64 o) := of_word rfl
theorem sfadd (o : S64) : Statement (.sfadd o) := of_word rfl
theorem sfmul (o : S64) : Statement (.sfmul o) := of_word rfl
theorem sffma (o : S64) : Statement (.sffma o) := of_word rfl
theorem sfmin (o : S64) : Statement (.sfmin o) := of_word rfl
theorem sfmax (o : S64) : Statement (.sfmax o) := of_word rfl
theorem sfcmp (o : S64) : Statement (.sfcmp o) := of_word rfl
theorem scvtF32I32 (o : S64) : Statement (.scvtF32I32 o) := of_word rfl
theorem scvtI32F32 (o : S64) : Statement (.scvtI32F32 o) := of_word rfl
theorem srcp (o : S64) : Statement (.srcp o) := of_word rfl
theorem srd (o : S64) : Statement (.srd o) := by
  intro h _
  simp only [kindOk] at h
  cases hi : o.imm <;> simp_all [toIWord, instrOf, ofS64]
theorem cycloRead (o : S64) : Statement (.cycloRead o) := by
  intro h _
  simp only [kindOk] at h
  cases hi : o.imm <;> simp_all [toIWord, instrOf, ofS64]
theorem swr (o : S64) : Statement (.swr o) := of_word rfl
theorem carveWrite (cluster : Nat) (value : Word) : Statement (.carveWrite cluster value) := of_event rfl
theorem carveGrowthDone (cluster : Nat) : Statement (.carveGrowthDone cluster) := of_event rfl
theorem carveShrinkDone (cluster : Nat) : Statement (.carveShrinkDone cluster) := of_event rfl
theorem clkratioWrite (cluster : Nat) (value : Word) : Statement (.clkratioWrite cluster value) := of_event rfl
theorem ctxctlGo (core : Nat) (value : Word) : Statement (.ctxctlGo core value) := of_event rfl
theorem brx (o : S64) : Statement (.brx o) := of_word rfl
theorem callx (o : S64) : Statement (.callx o) := of_word rfl
theorem vacq (o : S64) : Statement (.vacq o) := of_word rfl
theorem vrel (o : S64) : Statement (.vrel o) := of_word rfl
theorem launch (o : S64) : Statement (.launch o) := of_word rfl
theorem swaitg (o : S64) : Statement (.swaitg o) := of_word rfl
theorem swaitgPoll (who : SplitRef) : Statement (.swaitgPoll who) := of_event rfl
theorem sld (o : S64) : Statement (.sld o) := of_word rfl
theorem sst (o : S64) : Statement (.sst o) := of_word rfl
theorem satom (o : S64) : Statement (.satom o) := of_word rfl
theorem ssld (o : S64) : Statement (.ssld o) := of_word rfl
theorem ssst (o : S64) : Statement (.ssst o) := of_word rfl
theorem waita (o : S64) : Statement (.waita o) := of_word rfl
theorem waitaPoll (who : SplitRef) : Statement (.waitaPoll who) := of_event rfl
theorem sacq (o : S64) : Statement (.sacq o) := of_word rfl
theorem srel (o : S64) : Statement (.srel o) := of_word rfl
theorem sobind (o : S64) : Statement (.sobind o) := of_word rfl
theorem sounbind (o : S64) : Statement (.sounbind o) := of_word rfl
theorem vld (o : EMem) : Statement (.vld o) := of_word rfl
theorem vst (o : EMem) : Statement (.vst o) := of_word rfl
theorem vatom (o : EMem) : Statement (.vatom o) := of_word rfl
theorem vsld (o : EMem) : Statement (.vsld o) := of_word rfl
theorem vsst (o : EMem) : Statement (.vsst o) := of_word rfl
theorem vsatom (o : EMem) : Statement (.vsatom o) := of_word rfl
theorem vpref (o : EMem) : Statement (.vpref o) := of_word rfl
theorem vldw (o : EMem) : Statement (.vldw o) := of_word rfl
theorem memoryCompletion (group op : Nat) : Statement (.memoryCompletion group op) := of_event rfl
theorem cacheEviction (level : CacheLevel) (index sector : Nat) : Statement (.cacheEviction level index sector) := of_event rfl
theorem pageFaultService (group split : Nat) : Statement (.pageFaultService group split) := of_event rfl
theorem replay (who : SplitRef) : Statement (.replay who) := of_event rfl
theorem asyncTrapDelivery (group : Nat) : Statement (.asyncTrapDelivery group) := of_event rfl
theorem tsample (o : EEng) : Statement (.tsample o) := of_word rfl
theorem tfetch (o : EEng) : Statement (.tfetch o) := of_word rfl
theorem tgather4 (o : EEng) : Statement (.tgather4 o) := of_word rfl
theorem tquery (o : EEng) : Statement (.tquery o) := of_word rfl
theorem trec (o : EEng) : Statement (.trec o) := of_word rfl
theorem textureCompletion (group op : Nat) : Statement (.textureCompletion group op) := of_event rfl
theorem mma (o : EEng) : Statement (.mma o) := of_word rfl
theorem mzero (o : EEng) : Statement (.mzero o) := of_word rfl
theorem mrd (o : EEng) : Statement (.mrd o) := of_word rfl
theorem mst (o : EEng) : Statement (.mst o) := of_word rfl
theorem mld (o : EEng) : Statement (.mld o) := of_word rfl
theorem mver (o : EEng) : Statement (.mver o) := of_word rfl
theorem mwait (o : EEng) : Statement (.mwait o) := of_word rfl
theorem matrixCommandCompletion (cluster index : Nat) : Statement (.matrixCommandCompletion cluster index) := of_event rfl
theorem cpy (o : EEng) : Statement (.cpy o) := of_word rfl
theorem cpym (o : EEng) : Statement (.cpym o) := of_word rfl
theorem cpub (o : EEng) : Statement (.cpub o) := of_word rfl
theorem cpenc (o : EEng) : Statement (.cpenc o) := of_word rfl
theorem cpdec (o : EEng) : Statement (.cpdec o) := of_word rfl
theorem cprem (o : EEng) : Statement (.cprem o) := of_word rfl
theorem copyAcceptance (cluster : Nat) : Statement (.copyAcceptance cluster) := of_event rfl
theorem copyCommandCompletion (cluster index : Nat) : Statement (.copyCommandCompletion cluster index) := of_event rfl
theorem followOnOffer (cluster index : Nat) : Statement (.followOnOffer cluster index) := of_event rfl
theorem gzlatch (o : EEng) : Statement (.gzlatch o) := of_word rfl
theorem vwarpProj (o : EEng) : Statement (.vwarpProj o) := by
  intro h _
  have e := eq_of_beq h
  simp only [toIWord, instrOf, ofEng, e]
theorem vwarpPos (o : EEng) : Statement (.vwarpPos o) := by
  intro h _
  have e := eq_of_beq h
  simp only [toIWord, instrOf, ofEng, e]
theorem vwarpGeom (o : EEng) : Statement (.vwarpGeom o) := by
  intro h _
  have e := eq_of_beq h
  simp only [toIWord, instrOf, ofEng, e]
theorem rtri (o : EEng) : Statement (.rtri o) := of_word rfl
theorem rwalk (o : EEng) : Statement (.rwalk o) := of_word rfl
theorem rasterWalkCompletion (group op : Nat) : Statement (.rasterWalkCompletion group op) := of_event rfl
theorem lres (o : EEng) : Statement (.lres o) := of_word rfl
theorem lresCompletion (group op : Nat) : Statement (.lresCompletion group op) := of_event rfl
theorem temit (o : EEng) : Statement (.temit o) := of_word rfl
theorem stripPacketTransmission (set strip view : Nat) : Statement (.stripPacketTransmission set strip view) := of_event rfl
theorem stripExpiry (set strip : Nat) : Statement (.stripExpiry set strip) := of_event rfl
theorem rtrace (o : EEng) : Statement (.rtrace o) := of_word rfl
theorem rnext (o : EEng) : Statement (.rnext o) := of_word rfl
theorem rcommit (o : EEng) : Statement (.rcommit o) := of_word rfl
theorem rspawn (o : EEng) : Statement (.rspawn o) := of_word rfl
theorem rpop (o : EEng) : Statement (.rpop o) := of_word rfl
theorem rayResult (group op : Nat) : Statement (.rayResult group op) := of_event rfl
theorem spawnPush (group op : Nat) : Statement (.spawnPush group op) := of_event rfl
theorem sleepExpiry (who : SplitRef) : Statement (.sleepExpiry who) := of_event rfl
theorem joinLimit (who : SplitRef) : Statement (.joinLimit who) := of_event rfl
theorem waitConditionHolds (who : SplitRef) : Statement (.waitConditionHolds who) := of_event rfl
theorem splitMerge (group : Nat) : Statement (.splitMerge group) := of_event rfl
theorem splitDeferral (group : Nat) : Statement (.splitDeferral group) := of_event rfl
theorem launchTake (group : Nat) : Statement (.launchTake group) := of_event rfl
theorem blockStart (ctx launch block : Nat) : Statement (.blockStart ctx launch block) := of_event rfl
theorem launchCompletion (ctx launch : Nat) : Statement (.launchCompletion ctx launch) := of_event rfl
theorem blockSave (block : Nat) (why : SaveWhy) : Statement (.blockSave block why) := of_event rfl
theorem blockRestore (block : Nat) (place : Place) : Statement (.blockRestore block place) := of_event rfl
theorem migration (block : Nat) (place : Place) : Statement (.migration block place) := of_event rfl
theorem thermhrSample (readings : List (BitVec 8 × BitVec 8)) : Statement (.thermhrSample readings) := of_event rfl
theorem fstepRaise : Statement (.fstepRaise) := of_event rfl
theorem fstepLower : Statement (.fstepLower) := of_event rfl
theorem ratioLower (cluster : Nat) : Statement (.ratioLower cluster) := of_event rfl
theorem clusterIdle (cluster : Nat) : Statement (.clusterIdle cluster) := of_event rfl
theorem clusterAdmission : Statement (.clusterAdmission) := of_event rfl
theorem fillerOperation (cluster energy : Nat) : Statement (.fillerOperation cluster energy) := of_event rfl
theorem refreshWindow (region : Nat) : Statement (.refreshWindow region) := of_event rfl
theorem storageError (what : StorageUnit) (corrected : Bool) : Statement (.storageError what corrected) := of_event rfl
theorem submit (c : Cmd) : Statement (.submit c) := of_event rfl
theorem ctxCreate (c : Cmd) : Statement (.ctxCreate c) := of_event rfl
theorem ctxDestroy (c : Cmd) : Statement (.ctxDestroy c) := of_event rfl
theorem map (c : Cmd) : Statement (.map c) := of_event rfl
theorem unmap (c : Cmd) : Statement (.unmap c) := of_event rfl
theorem syncsum (c : Cmd) : Statement (.syncsum c) := of_event rfl
theorem xlate (c : Cmd) : Statement (.xlate c) := of_event rfl
theorem vset (c : Cmd) : Statement (.vset c) := of_event rfl
theorem vsetUnbind (c : Cmd) : Statement (.vsetUnbind c) := of_event rfl
theorem wsmodeLoad (c : Cmd) : Statement (.wsmodeLoad c) := of_event rfl
theorem wsmodeRead (c : Cmd) : Statement (.wsmodeRead c) := of_event rfl
theorem config (c : Cmd) : Statement (.config c) := of_event rfl
theorem portcfg (c : Cmd) : Statement (.portcfg c) := of_event rfl
theorem flashBegin (c : Cmd) : Statement (.flashBegin c) := of_event rfl
theorem flashWrite (c : Cmd) : Statement (.flashWrite c) := of_event rfl
theorem flashCommit (c : Cmd) : Statement (.flashCommit c) := of_event rfl
theorem gazePacket (port : BitVec 16) (payload : List Byte) : Statement (.gazePacket port payload) := of_event rfl
theorem rdmaWrite (q : Nat) (key : Word) (src : BitVec 128) (addr : BitVec 64) (data : List Byte) : Statement (.rdmaWrite q key src addr data) := of_event rfl
theorem rdmaRead (q : Nat) (key : Word) (src : BitVec 128) (addr : BitVec 64) (len : Nat) : Statement (.rdmaRead q key src addr len) := of_event rfl
theorem rdmaCompareAndSwap (q : Nat) (key : Word) (src : BitVec 128) (addr compare swap : BitVec 64) : Statement (.rdmaCompareAndSwap q key src addr compare swap) := of_event rfl
theorem rdmaFetchAndAdd (q : Nat) (key : Word) (src : BitVec 128) (addr operand : BitVec 64) : Statement (.rdmaFetchAndAdd q key src addr operand) := of_event rfl
theorem jarianAtomicRequest (q : Nat) (src : BitVec 128) (payload : List Byte) : Statement (.jarianAtomicRequest q src payload) := of_event rfl
theorem jarianAtomicResponse (q : Nat) (payload : List Byte) : Statement (.jarianAtomicResponse q payload) := of_event rfl
theorem windowAcknowledgement (request : Nat) (data : List Byte) : Statement (.windowAcknowledgement request data) := of_event rfl
theorem remoteTimeout (request : Nat) : Statement (.remoteTimeout request) := of_event rfl
theorem cmReq (q : Nat) (kind : QKind) (priv : List Byte) : Statement (.cmReq q kind priv) := of_event rfl
theorem linkUp (port sub : Nat) (duplicate : Bool) : Statement (.linkUp port sub duplicate) := of_event rfl
theorem linkDown (port sub : Nat) : Statement (.linkDown port sub) := of_event rfl
theorem arpRequest (port sub : Nat) (vlan : BitVec 12) (target : BitVec 32) : Statement (.arpRequest port sub vlan target) := of_event rfl
theorem neighbourSolicitation (port sub : Nat) (vlan : BitVec 12) (target : BitVec 128) : Statement (.neighbourSolicitation port sub vlan target) := of_event rfl
theorem pfcPause (port sub : Nat) (paused : BitVec 8) : Statement (.pfcPause port sub paused) := of_event rfl
theorem unacceptedFrame (port : Nat) (fragment : Bool) : Statement (.unacceptedFrame port fragment) := of_event rfl
theorem powerOn (test : SelfTest) : Statement (.powerOn test) := of_event rfl
theorem hardwareTrip : Statement (.hardwareTrip) := of_event rfl
theorem illegalOpcode (w : Word) : Statement (.illegalOpcode w) := of_event rfl
theorem malformedMessage (q : Nat) (message : List Word) : Statement (.malformedMessage q message) := of_event rfl
theorem remoteFault (request : Nat) : Statement (.remoteFault request) := of_event rfl
theorem bindRecord (core entry ctx : Nat) (record : Option BindRecord) : Statement (.bindRecord core entry ctx record) := of_event rfl
theorem vaddI32 (o : V96) : Statement (.vaddI32 o) := of_word rfl
theorem vsubI32 (o : V96) : Statement (.vsubI32 o) := of_word rfl
theorem vmulloI32 (o : V96) : Statement (.vmulloI32 o) := of_word rfl
theorem vmulhiI32 (o : V96) : Statement (.vmulhiI32 o) := of_word rfl
theorem vmulhiN32 (o : V96) : Statement (.vmulhiN32 o) := of_word rfl
theorem vmadI32 (o : V96) : Statement (.vmadI32 o) := of_word rfl
theorem vabsdiffN32 (o : V96) : Statement (.vabsdiffN32 o) := of_word rfl
theorem vminI32 (o : V96) : Statement (.vminI32 o) := of_word rfl
theorem vmaxI32 (o : V96) : Statement (.vmaxI32 o) := of_word rfl
theorem vminN32 (o : V96) : Statement (.vminN32 o) := of_word rfl
theorem vmaxN32 (o : V96) : Statement (.vmaxN32 o) := of_word rfl
theorem vand (o : V96) : Statement (.vand o) := of_word rfl
theorem vor (o : V96) : Statement (.vor o) := of_word rfl
theorem vxor (o : V96) : Statement (.vxor o) := of_word rfl
theorem vandn (o : V96) : Statement (.vandn o) := of_word rfl
theorem vshl (o : V96) : Statement (.vshl o) := of_word rfl
theorem vshr (o : V96) : Statement (.vshr o) := of_word rfl
theorem vsra (o : V96) : Statement (.vsra o) := of_word rfl
theorem vrotl (o : V96) : Statement (.vrotl o) := of_word rfl
theorem vbfeN (o : V96) : Statement (.vbfeN o) := of_word rfl
theorem vbfeI (o : V96) : Statement (.vbfeI o) := of_word rfl
theorem vbfi (o : V96) : Statement (.vbfi o) := of_word rfl
theorem vpopc (o : V96) : Statement (.vpopc o) := of_word rfl
theorem vclz (o : V96) : Statement (.vclz o) := of_word rfl
theorem vbrev (o : V96) : Statement (.vbrev o) := of_word rfl
theorem vsel (o : V96) : Statement (.vsel o) := of_word rfl
theorem vaddsatI32 (o : V96) : Statement (.vaddsatI32 o) := of_word rfl
theorem vaddsatN32 (o : V96) : Statement (.vaddsatN32 o) := of_word rfl
theorem vsubsatI32 (o : V96) : Statement (.vsubsatI32 o) := of_word rfl
theorem vsubsatN32 (o : V96) : Statement (.vsubsatN32 o) := of_word rfl
theorem vdot4I8 (o : V96) : Statement (.vdot4I8 o) := of_word rfl
theorem vdot4N8 (o : V96) : Statement (.vdot4N8 o) := of_word rfl
theorem vaddI64 (o : V96) : Statement (.vaddI64 o) := of_word rfl
theorem vsubI64 (o : V96) : Statement (.vsubI64 o) := of_word rfl
theorem vmulloI64 (o : V96) : Statement (.vmulloI64 o) := of_word rfl
theorem vmulhiI64 (o : V96) : Statement (.vmulhiI64 o) := of_word rfl
theorem vmulhiN64 (o : V96) : Statement (.vmulhiN64 o) := of_word rfl
theorem vminI64 (o : V96) : Statement (.vminI64 o) := of_word rfl
theorem vmaxI64 (o : V96) : Statement (.vmaxI64 o) := of_word rfl
theorem vminN64 (o : V96) : Statement (.vminN64 o) := of_word rfl
theorem vmaxN64 (o : V96) : Statement (.vmaxN64 o) := of_word rfl
theorem vshlB64 (o : V96) : Statement (.vshlB64 o) := of_word rfl
theorem vshrB64 (o : V96) : Statement (.vshrB64 o) := of_word rfl
theorem vsraI64 (o : V96) : Statement (.vsraI64 o) := of_word rfl
theorem vmulwI32 (o : V96) : Statement (.vmulwI32 o) := of_word rfl
theorem vmulwN32 (o : V96) : Statement (.vmulwN32 o) := of_word rfl
theorem vmadwI32 (o : V96) : Statement (.vmadwI32 o) := of_word rfl
theorem vmadwN32 (o : V96) : Statement (.vmadwN32 o) := of_word rfl
theorem vcmpI32 (o : V96) : Statement (.vcmpI32 o) := of_word rfl
theorem vcmpN32 (o : V96) : Statement (.vcmpN32 o) := of_word rfl
theorem vcmpI64 (o : V96) : Statement (.vcmpI64 o) := of_word rfl
theorem vcmpN64 (o : V96) : Statement (.vcmpN64 o) := of_word rfl
theorem vcmpF32 (o : V96) : Statement (.vcmpF32 o) := of_word rfl
theorem vcmpF16 (o : V96) : Statement (.vcmpF16 o) := of_word rfl
theorem vclassF32 (o : V96) : Statement (.vclassF32 o) := of_word rfl
theorem vfadd (o : V96) : Statement (.vfadd o) := of_word rfl
theorem vfsub (o : V96) : Statement (.vfsub o) := of_word rfl
theorem vfmul (o : V96) : Statement (.vfmul o) := of_word rfl
theorem vffma (o : V96) : Statement (.vffma o) := of_word rfl
theorem vfmin (o : V96) : Statement (.vfmin o) := of_word rfl
theorem vfmax (o : V96) : Statement (.vfmax o) := of_word rfl
theorem vfminx (o : V96) : Statement (.vfminx o) := of_word rfl
theorem vfmaxx (o : V96) : Statement (.vfmaxx o) := of_word rfl
theorem vffloor (o : V96) : Statement (.vffloor o) := of_word rfl
theorem vfceil (o : V96) : Statement (.vfceil o) := of_word rfl
theorem vftrunc (o : V96) : Statement (.vftrunc o) := of_word rfl
theorem vfrint (o : V96) : Statement (.vfrint o) := of_word rfl
theorem vffract (o : V96) : Statement (.vffract o) := of_word rfl
theorem vfldexp (o : V96) : Statement (.vfldexp o) := of_word rfl
theorem vfsat (o : V96) : Statement (.vfsat o) := of_word rfl
theorem vhaddF16 (o : V96) : Statement (.vhaddF16 o) := of_word rfl
theorem vhmulF16 (o : V96) : Statement (.vhmulF16 o) := of_word rfl
theorem vhfmaF16 (o : V96) : Statement (.vhfmaF16 o) := of_word rfl
theorem vhminF16 (o : V96) : Statement (.vhminF16 o) := of_word rfl
theorem vhmaxF16 (o : V96) : Statement (.vhmaxF16 o) := of_word rfl
theorem vhaddBf16 (o : V96) : Statement (.vhaddBf16 o) := of_word rfl
theorem vhmulBf16 (o : V96) : Statement (.vhmulBf16 o) := of_word rfl
theorem vhfmaBf16 (o : V96) : Statement (.vhfmaBf16 o) := of_word rfl
theorem vfmixF16 (o : V96) : Statement (.vfmixF16 o) := of_word rfl
theorem vdot2F16 (o : V96) : Statement (.vdot2F16 o) := of_word rfl
theorem vdot2Bf16 (o : V96) : Statement (.vdot2Bf16 o) := of_word rfl
theorem vcadd (o : V96) : Statement (.vcadd o) := of_word rfl
theorem vcsub (o : V96) : Statement (.vcsub o) := of_word rfl
theorem vcmul (o : V96) : Statement (.vcmul o) := of_word rfl
theorem vcfma (o : V96) : Statement (.vcfma o) := of_word rfl
theorem vcmulj (o : V96) : Statement (.vcmulj o) := of_word rfl
theorem vcfmaj (o : V96) : Statement (.vcfmaj o) := of_word rfl
theorem vcabs2 (o : V96) : Statement (.vcabs2 o) := of_word rfl
theorem vcscl (o : V96) : Statement (.vcscl o) := of_word rfl
theorem vrcp (o : V96) : Statement (.vrcp o) := of_word rfl
theorem vrsq (o : V96) : Statement (.vrsq o) := of_word rfl
theorem vsqrt (o : V96) : Statement (.vsqrt o) := of_word rfl
theorem vexp2 (o : V96) : Statement (.vexp2 o) := of_word rfl
theorem vlog2 (o : V96) : Statement (.vlog2 o) := of_word rfl
theorem vsinpi (o : V96) : Statement (.vsinpi o) := of_word rfl
theorem vcospi (o : V96) : Statement (.vcospi o) := of_word rfl
theorem vsincospi (o : V96) : Statement (.vsincospi o) := of_word rfl
theorem vdiv (o : V96) : Statement (.vdiv o) := of_word rfl
theorem vtanh (o : V96) : Statement (.vtanh o) := of_word rfl
theorem vcvtF32I32 (o : V96) : Statement (.vcvtF32I32 o) := of_word rfl
theorem vcvtF32N32 (o : V96) : Statement (.vcvtF32N32 o) := of_word rfl
theorem vcvtI32F32 (o : V96) : Statement (.vcvtI32F32 o) := of_word rfl
theorem vcvtN32F32 (o : V96) : Statement (.vcvtN32F32 o) := of_word rfl
theorem vcvtF32F16 (o : V96) : Statement (.vcvtF32F16 o) := of_word rfl
theorem vcvtF32Bf16 (o : V96) : Statement (.vcvtF32Bf16 o) := of_word rfl
theorem vpackF16 (o : V96) : Statement (.vpackF16 o) := of_word rfl
theorem vpackBf16 (o : V96) : Statement (.vpackBf16 o) := of_word rfl
theorem vcvtF32I64 (o : V96) : Statement (.vcvtF32I64 o) := of_word rfl
theorem vcvtI64F32 (o : V96) : Statement (.vcvtI64F32 o) := of_word rfl
theorem vcvtnTo (o : V96) : Statement (.vcvtnTo o) := of_word rfl
theorem vcvtnFrom (o : V96) : Statement (.vcvtnFrom o) := of_word rfl
theorem vmxscale (o : V96) : Statement (.vmxscale o) := of_word rfl
theorem vmov (o : V96) : Statement (.vmov o) := of_word rfl
theorem vrdlane (o : V96) : Statement (.vrdlane o) := of_word rfl
theorem vwrlane (o : V96) : Statement (.vwrlane o) := of_word rfl
theorem vlaneid (o : V96) : Statement (.vlaneid o) := of_word rfl
theorem vbshuf (o : V96) : Statement (.vbshuf o) := of_word rfl
theorem vfunnel (o : V96) : Statement (.vfunnel o) := of_word rfl
theorem vrngrd (o : V96) : Statement (.vrngrd o) := of_word rfl
theorem vrngwr (o : V96) : Statement (.vrngwr o) := of_word rfl
theorem vbrx (o : V96) : Statement (.vbrx o) := of_word rfl
theorem vredAddI32 (o : V96) : Statement (.vredAddI32 o) := of_word rfl
theorem vredAddF32 (o : V96) : Statement (.vredAddF32 o) := of_word rfl
theorem vredMinI32 (o : V96) : Statement (.vredMinI32 o) := of_word rfl
theorem vredMaxI32 (o : V96) : Statement (.vredMaxI32 o) := of_word rfl
theorem vredMinF32 (o : V96) : Statement (.vredMinF32 o) := of_word rfl
theorem vredMaxF32 (o : V96) : Statement (.vredMaxF32 o) := of_word rfl
theorem vredAnd (o : V96) : Statement (.vredAnd o) := of_word rfl
theorem vredOr (o : V96) : Statement (.vredOr o) := of_word rfl
theorem vscanAddI32 (o : V96) : Statement (.vscanAddI32 o) := of_word rfl
theorem vscanAddF32 (o : V96) : Statement (.vscanAddF32 o) := of_word rfl
theorem vvoteAny (o : V96) : Statement (.vvoteAny o) := of_word rfl
theorem vvoteAll (o : V96) : Statement (.vvoteAll o) := of_word rfl
theorem vballot (o : V96) : Statement (.vballot o) := of_word rfl
theorem vmatch (o : V96) : Statement (.vmatch o) := of_word rfl
theorem vbrank (o : V96) : Statement (.vbrank o) := of_word rfl
theorem vfirst (o : V96) : Statement (.vfirst o) := of_word rfl

end Sys2Proof.Laws.Reads
end

