-- ==== Sys2Proof/Tests/Slice0.lean ====
section
/-!
SUPPORT. The package's own tests: words written out from the spec's encodings, ill-formed instructions, small steps with results
worked out from the spec, and for each statement a state and operands that meet its hypotheses.
-/

namespace Sys2Proof.Machine.State

/-! ## Helpers for small states -/

/-- A state with scalars written. -/
def withS (s : State) (l : List (Nat × Word)) : State := l.foldl (fun s e => s.writeS s.cur e.1 e.2) s
/-- A state with lane 0 to 31 of a v-register written. -/
def withV (s : State) (r : Nat) (f : Nat → Word) : State :=
  (List.range 32).foldl (fun s l => s.updG s.cur.group fun g => g.writeV r l (f l)) s
/-- The issuing split changed. -/
def withSp (s : State) (f : Split → Split) : State := s.updS s.cur f
/-- The issuing group changed. -/
def withG (s : State) (f : Group → Group) : State := s.updG s.cur.group f
/-- Words in the home memory at a physical address. -/
def withMem (s : State) (a : Nat) (l : List Word) : State := { s with mem := setBs s.mem a (bytesOf l) }

end Sys2Proof.Machine.State

namespace Sys2Proof.Tests

open Sys2Proof Sys2Proof.Machine

set_option maxRecDepth 100000
set_option Elab.async false

/-! ## States to test on -/

/-- One running group of 32 lanes with every register block, as the load of log 6 has it. -/
def baseGroup : Group :=
  { live := true, saved := false,
    who := { ctx := 0, launch := 1, block := 0, gid := 0, cpos := 0, gidx := 0, cluster := 0, core := 0, gslot := 0, cslot := 0, prio := 0,
             gen := 0 },
    regs := { phys := (List.range 16).map some, v := [], p := List.replicate 8 0, s := [], segw := 32, rmode := 1, flags := 0, viewset := 0,
              rng := List.replicate 32 1, vpoison := [], spoison := [] },
    lch := { idx := [0, 0, 0], ext := [1, 1, 32], dom := [3, 5, 7], scopes := [3, 2, 0], stripdl := 0, itbeg := 0, itend := 0, itfix := 0,
             rbudget := 65536, spillCap := 0, spillFrames := [] },
    exited := 0, splits := { Split.empty with st := .ready, pc := 0x10040, mask := 0xFFFFFFFF } :: List.replicate 3 Split.empty,
    deferred := [], seq := 0, queue := [], taken := 0, startedN := 0, tris := List.replicate 4 emptyTri, rays := List.replicate 32 emptyRay,
    captures := [], async := [], ops := [], moved := 0, listed := 0, freed := 0 }
/-- Its block, with 4 KiB of scratchpad. -/
def baseBlock : Block :=
  { live := true, saved := false, ctx := 0, launch := 1, block := 0, cluster := 0, cores := [0], scrOff := 0, scrLen := 1, scratch := 4096,
    ngroups := 1, groups := [0], barriers := List.replicate 16 Barrier.reset, image := [], imagePoison := [], runs := [], why := .preempt,
    lastMove := none }
/-- The machine that holds them: one context with one page of code and data, one launch. -/
def base : State :=
  { State.reset with
      dev := { Device.reset with used := [(0, 1)] }
      groups := [baseGroup]
      blocks := [baseBlock]
      ctxs := [{ loadContext with
        launches := [{ id := 1, gen := 0, rc := loadRecord, recAddr := 0, state := .running, started := 1, completed := 0,
                       compFail := false, parent := none }]
        nextLaunch := 2 }]
      cores := { CoreSt.reset with
        slots := { st := .running, bind := loadBind, order := 0 } :: List.replicate 15 { st := .empty, bind := default, order := 0 }
        ctxs := [some 0, none, none]
        slotSt := [1, 0, 0] } :: List.replicate 95 CoreSt.reset
      clusters := { Cluster.reset with idle := false } :: List.replicate 23 Cluster.reset }
/-- Operand fields that are all 0 but those given. -/
def s64 (sd sa sb sc : BitVec 9) (aux : BitVec 14) : S64 :=
  { sd := sd, sa := sa, imm := false, cf := 0, sb := sb, sc := sc, aux := aux }
def vreg (n : BitVec 10) : VSrc := { route := 0, abs := false, neg := false, elem := 0, sel := n }
def v96 (vd : BitVec 8) (a b : VSrc) (c : BitVec 10) : V96 :=
  { vd := vd, nw := false, lat := 0, pe := false, pi := 0, pn := false, ew := 0, rnd := 0, a := a, b := b, cRoute := 0, cSel := c }
def emem (d va vdat : BitVec 8) (sa : BitVec 9) (width : BitVec 3) : EMem :=
  { d := d, pe := false, pi := 0, pn := false, sa := sa, heap := false, scope := 0, sub := 0, off := 0, policy := 0, mode := 0,
    width := width, vb := 0, vdat := vdat, va := va }
def eeng (d va : BitVec 8) (sa sb sc : BitVec 9) (sub : BitVec 6) (imm : Word) : EEng :=
  { d := d, pe := false, pi := 0, pn := false, sa := sa, imm := imm, sub := sub, va := va, sc := sc, sb := sb }
def c32 (f : BitVec 24) : C32 := { f := f }
/-- A record of kind 0 in s8 to s11: 64 bytes at 16 of the scratchpad, or at 0x10100 of device memory; the target in s14. -/
def scrRec : State := base.withS [(8, 16), (9, 0), (10, 64), (11, 0), (14, 0)]
def memRec : State := base.withS [(8, 0x10100), (9, 0), (10, 64), (11, 0), (14, 0)]
/-- An addition of 7 to a word, of one lane. -/
def addAtom : Access :=
  { kind := .atom 0, rkind := 0, width := 4, d := 0, scalar := false, scope := 0, policy := 0,
    lanes := [{ lane := 0, va := 0x10100, data := 7, cmp := 0 }] }
def cleanServe (v : Served) : Bool := v.poison == 0 && v.pend.isEmpty && v.refused.isEmpty

/-! ## Witnesses: scalar instructions -/

/-- Operands that every integer row takes: s4 from s0 and s0. -/
def so : S64 := s64 4 0 0 0 0
theorem wit_shifts : ∀ r ∈ shiftRows, Runs (toIWord (r.1 so)) base := by decide +kernel
theorem wit_integers : ∀ r ∈ scalarRows, Runs (toIWord (r.1 so)) base := by decide +kernel
theorem wit_bits : ∀ r ∈ scalarBitRows, Runs (toIWord (r.1 so)) base := by decide +kernel
theorem wit_pairs : ∀ r ∈ pairRows, Runs (toIWord (r.1 so)) base := by decide +kernel
/-- A compare into c1. -/
def cmpOps : S64 := { s64 5 0 0 0 0 with cf := 5 }
theorem wit_compares : (∀ r ∈ compareRows, Runs (toIWord (r.1 cmpOps)) base) ∧ Runs (.s64 0x2D cmpOps) base := by decide +kernel
theorem wit_scalar_floats : ∀ r ∈ floatRows, Runs (toIWord (r.1 so)) base := by decide +kernel
theorem wit_scalar_frame : base.curOk = true := by decide +kernel
theorem wit_nop : Runs (.c32 0x00 (c32 0)) base ∧ ((base.withSp fun sp =>
    { sp with latches := sp.latches.map fun l => { l with live := true } }).my).hasLatch = true := by decide +kernel
theorem wit_bra : Runs (.c32 0x01 (c32 0x900010)) base := by decide +kernel
/-- RET to an aligned address and to one that is not. -/
theorem wit_ret : Runs (.c32 0x04 (c32 0)) (base.withS [(30, 0x10080)]) ∧ Runs (.c32 0x04 (c32 0)) (base.withS [(30, 0x10082)]) ∧
    CanTrap (base.withS [(30, 0x10082)]) ∧ ((base.withS [(30, 0x10082)]).readS base.cur 30).toNat % 4 = 2 := by decide +kernel
/-- BRD p1 with all lanes, none and lane 0 set in p1. -/
def brdAt (p : Mask) : State := base.withG fun g => g.writeP 1 p
theorem wit_brd : Runs (.c32 0x02 (c32 0x200010)) (brdAt 0xFFFFFFFF) ∧ takenLanes (brdAt 0xFFFFFFFF) (c32 0x200010) = (brdAt 0xFFFFFFFF).my.mask ∧
    takenLanes (brdAt 0) (c32 0x200010) = 0 ∧ (brdAt 0).my.mask ≠ 0 ∧ (brdAt 1).my.trap = false ∧
    takenLanes (brdAt 1) (c32 0x200010) = 1 ∧ (brdAt 1).me.freeEntry = some 1 := by decide +kernel
/-- The issuing split in trap mode; a context without a handler; another split of the group in trap mode. -/
def trapped (s : State) : State := s.withSp fun sp => { sp with trap := true, tpc := 0x10086 }
def noBase (s : State) : State := s.updC 0 fun c => { c with trapBase := 0 }
def mateTraps (s : State) : State :=
  s.withG fun g => { g with splits := g.splits.set 2 { Split.empty with st := .ready, trap := true } }
/-- No entry is FREE; besides, the deferred list is full. -/
def tableFull : State := (brdAt 1).withG fun g =>
  { g with splits := g.splits.map fun sp => if sp.st = .free then { sp with st := .ready } else sp }
def listFull : State := tableFull.withG fun g => { g with deferred := List.replicate 16 (base.my.toDeferred 0) }
theorem wit_brd_defers : Runs (.c32 0x02 (c32 0x200010)) tableFull ∧ tableFull.me.freeEntry = none ∧ tableFull.my.idleCtrs = true ∧
    takenLanes tableFull (c32 0x200010) = 1 ∧ tableFull.my.trap = false ∧ tableFull.me.deferred.length < 16 + tableFull.me.lch.spillCap ∧
    (tableFull.withSp fun sp => { sp with xc := 1 }).my.idleCtrs = false ∧ Runs (.c32 0x02 (c32 0x200010)) listFull ∧
    16 + listFull.me.lch.spillCap ≤ listFull.me.deferred.length ∧ CanTrap listFull := by decide +kernel
theorem wit_brd_in_trap : Runs (.c32 0x02 (c32 0x200010)) (trapped (brdAt 1)) ∧ lowestLane (trapped (brdAt 1)).my.mask = some 0 ∧
    inMask (takenLanes (trapped (brdAt 1)) (c32 0x200010)) 0 = true ∧ inMask (takenLanes (trapped (brdAt 2)) (c32 0x200010)) 0 = false := by
  decide +kernel
theorem wit_call : Runs (.c32 0x03 (c32 0x000010)) base := by decide +kernel
/-- BRX and CALLX to a landing pad of tag 5 at 0x10100. -/
def padState : State := (base.withS [(6, 0x10100), (8, 5)]).withMem 0x100 [0x0B000005]
theorem wit_brx : Runs (.s64 0x3A (s64 0 6 8 0 0)) padState ∧ Runs (.s64 0x3B (s64 0 6 8 0 0)) padState ∧
    padState.xlate 0 (padState.readAddr padState.cur 6) .x = .ok 0x100 ∧ leNat (getBs padState.mem 0x100 4) = 0x0B000005 ∧
    (padState.srcB (s64 0 6 8 0 0)).toNat = 5 := by decide +kernel
/-- A misaligned target, one outside every mapping, and one whose word is the pad of another tag. -/
theorem wit_brx_traps : Runs (.s64 0x3A (s64 0 6 8 0 0)) (padState.withS [(6, 0x10102)]) ∧ CanTrap (padState.withS [(6, 0x10102)]) ∧
    Runs (.s64 0x3B (s64 0 6 8 0 0)) (padState.withS [(6, 0x90000000)]) ∧ padState.xlate 0 0x90000000 .x = .refused ∧
    Runs (.s64 0x3B (s64 0 6 8 0 0)) (padState.withS [(8, 6)]) ∧ ((padState.withS [(8, 6)]).srcB (s64 0 6 8 0 0)).toNat = 6 ∧
    (padState.withS [(8, 6)]).xlate 0 0x10100 .x = .ok 0x100 := by decide +kernel
/-- A second split holds the other lanes, so that an EXIT does not end the group; one with a counter above 0 is held. -/
def halfSplit : State := (base.withSp fun sp => { sp with mask := 0xFFFF }).updS { group := 0, split := 1 } fun sp =>
  { sp with st := .ready, mask := 0xFFFF0000 }
theorem wit_exit : Runs (.c32 0x05 (c32 0)) halfSplit ∧ halfSplit.my.idleCtrs = true ∧
    halfSplit.me.exited ||| halfSplit.my.mask ≠ BitVec.allOnes 32 ∧ halfSplit.me.deferred = [] ∧
    (halfSplit.withSp fun sp => { sp with xc := 1 }).my.idleCtrs = false ∧
    Runs (.c32 0x05 (c32 0)) (halfSplit.withSp fun sp => { sp with xc := 1 }) := by decide +kernel
theorem wit_exit_last : Runs (.c32 0x05 (c32 0)) base ∧ base.my.idleCtrs = true ∧ base.me.exited ||| base.my.mask = BitVec.allOnes 32 ∧
    base.blockOf base.me < base.blocks.length ∧ (base.blk (base.blockOf base.me)).groups = [base.cur.group] ∧ LinesResident base := by
  decide +kernel
theorem wit_waitc : Runs (.c32 0x06 (c32 0)) base ∧ base.my.vmc ≤ 0 ∧ Runs (.c32 0x06 (c32 0)) (base.withSp fun sp => { sp with vmc := 1 }) ∧
    ¬ (base.withSp fun sp => { sp with vmc := 1 }).my.vmc ≤ 0 := by decide +kernel
theorem wit_sleep_join_yield : Runs (.c32 0x0A (c32 7)) base ∧ Runs (.c32 0x0A (c32 0)) base ∧ Runs (.c32 0x08 (c32 0)) base ∧
    Runs (.c32 0x08 (c32 9)) halfSplit ∧ Runs (.c32 0x09 (c32 0)) base ∧ base.my.idleCtrs = true ∧
    Runs (.c32 0x09 (c32 0)) (base.withSp fun sp => { sp with smc := 1 }) ∧
    (base.withSp fun sp => { sp with smc := 1 }).my.idleCtrs = false := by decide +kernel
theorem wit_software_traps : Runs (.c32 0x0C (c32 3)) base ∧ Runs (.c32 0x0D (c32 0xFFFF)) base ∧ CanTrap base := by decide +kernel
/-- An SADD whose sd names no register fails step 4. -/
theorem wit_failed_check : toIWord (.sadd (s64 511 0 0 0 0)) ≠ .other ∧ base.curOk = true ∧
    base.precheck (toIWord (.sadd (s64 511 0 0 0 0))) = some 0x02 ∧ CanTrap base := by decide +kernel
/-- An SADD whose sd names no register in trap mode, without a handler, and beside a split in trap mode; a poisoned v4. -/
theorem wit_causes : (trapped base).precheck (toIWord (.sadd (s64 511 0 0 0 0))) = some 0x02 ∧ (trapped base).curOk = true ∧
    (trapped base).me.trapElsewhere 0 = false ∧ (noBase base).precheck (toIWord (.sadd (s64 511 0 0 0 0))) = some 0x02 ∧
    (noBase base).me.trapElsewhere 0 = false ∧ ((noBase base).ctx 0).trapBase = 0 ∧ (mateTraps base).me.trapElsewhere 0 = true ∧
    (mateTraps base).precheck (toIWord (.sadd (s64 511 0 0 0 0))) = some 0x02 ∧ (base.ctx 0).log.length ≤ 256 ∧
    (base.withG fun g => { g with regs := { g.regs with vpoison := [4 * 32 + 3] } }).precheck
      (toIWord (.vaddI32 (v96 2 (vreg 4) (vreg 0) 0))) = some 0x14 := by decide +kernel
theorem wit_other_causes : Runs (.c32 0x0C (c32 3)) (trapped base) ∧ Runs (.c32 0x0D (c32 3)) (noBase base) ∧
    Runs (.c32 0x04 (c32 0)) (trapped (base.withS [(30, 0x10082)])) ∧
    (trapped (base.withS [(30, 0x10082)])).readAddr base.cur 30 % 4 = 2 ∧ Runs (.c32 0x0E (c32 0)) (trapped base) ∧
    (trapped base).my.tpc.toNat % 4 = 2 ∧
    (∀ n ∈ [0x80, 0x83, 0x86, 0x88, 0x89, 0x8A], Runs (.s64 0x39 (s64 0 6 0 0 (BitVec.ofNat 14 n))) (trapped base)) ∧
    ((trapped base).srcA (s64 0 6 0 0 0x88)).toNat % 8 < 2 := by decide +kernel
theorem wit_rte : operandsOk (.c32 0x0E (c32 0)) = true ∧ base.my.trap = false ∧ base.my.hasLatch = false ∧
    Runs (.c32 0x0E (c32 0)) (base.withSp fun sp => { sp with trap := true, tpc := 0x10044 }) ∧
    (base.withSp fun sp => { sp with trap := true, tpc := 0x10044 }).my.tpc.toNat % 4 = 0 := by decide +kernel
theorem wit_plain_control : Runs (.c32 0x0B (c32 5)) base ∧ Runs (.c32 0x10 (c32 3)) base := by decide +kernel
/-- A block of two groups, so that an arrival leaves the phase open. -/
def twoGroups : State :=
  let g := base.grp 0
  { base with groups := [g, { g with who := { g.who with gid := 1, gidx := 1, gslot := 1 } }],
              blocks := base.blocks.map fun b => { b with ngroups := 2, groups := [0, 1] } }
def barBits : C32 := c32 0x000002
theorem wit_barrier : let s := twoGroups
    s.blockOf s.me < s.blocks.length ∧ 0 < (s.blk (s.blockOf s.me)).barriers.length ∧
    (s.blk (s.blockOf s.me)).barriers.all (fun x => x.cur == Phase.empty) = true ∧ (s.barrier 0).nxt = Phase.empty ∧ s.my.memIdle = true ∧
    s.my.mask ≠ 0 ∧ (s.blk (s.blockOf s.me)).ngroups = 2 ∧ (s.blk (s.blockOf s.me)).groups.Nodup ∧
    (∀ h ∈ (s.blk (s.blockOf s.me)).groups, (s.grp h).exited ≠ BitVec.allOnes 32) ∧
    (∀ h ∈ (s.blk (s.blockOf s.me)).groups, ∀ k ∈ (s.blk (s.blockOf s.me)).groups, (s.grp h).who.gid = (s.grp k).who.gid → h = k) ∧
    Runs (.c32 0x07 (c32 2)) s ∧ Runs (.c32 0x07 (c32 0x400002)) s ∧ Runs (.c32 0x07 (c32 0x800000)) s := by decide +kernel
/-- Barrier 0 of a block of two groups, changed; the lanes of the group GROUPID 1 have arrived in the current phase, or those of GROUPID 0. -/
def barState (f : Barrier → Barrier) : State :=
  twoGroups.updB 0 fun b => { b with barriers := b.barriers.set 0 (f Barrier.reset) }
def arrivedBy (gid : Nat) : State := barState fun b => { b with cur := markedPhase Phase.empty gid 2 0xFFFFFFFF }
def hereOf (s : State) : Phase := markedPhase (s.barrier 0).cur 0 2 s.my.mask
theorem wit_barrier_arrives :
    (arrivedBy 1).curOk = true ∧ (arrivedBy 1).my.memIdle = true ∧ barCount barBits = 2 ∧ barId barBits = 0 ∧
    2 ≤ ((arrivedBy 1).blk ((arrivedBy 1).blockOf (arrivedBy 1).me)).ngroups ∧ Runs (.c32 0x07 (c32 2)) (arrivedBy 1) ∧
    Runs (.c32 0x07 (c32 0x400002)) (arrivedBy 1) ∧ ((arrivedBy 1).barrier 0).cur.has 0 0 = false ∧
    ((arrivedBy 1).barrier 0).cur.expected = some 2 ∧
    (hereOf (arrivedBy 1)).complete ((arrivedBy 1).blockGroups 0) = true ∧ ((arrivedBy 1).barrier 0).last ≠ (arrivedBy 1).dev.cycle + 1 ∧
    Runs (.c32 0x07 (c32 0x400002)) (arrivedBy 0) ∧ ((arrivedBy 0).barrier 0).cur.has 0 0 = true ∧
    sget 0 ((arrivedBy 0).barrier 0).cur.arrived 0 ≠ 0 ∧ ((arrivedBy 0).barrier 0).nxt.has 0 0 = false ∧
    ((arrivedBy 0).barrier 0).nxt.expected = none := by decide +kernel
/-- BAR.wait of a group that joined phase 0 last: complete, open; and of one that never joined. -/
def joinedAt (phase : Nat) (joined : Sparse Nat) : State := barState fun b => { b with phase := phase, joined := joined }
theorem wit_bar_wait : Runs (.c32 0x07 (c32 0x800000)) (joinedAt 1 [(0, 1)]) ∧ ((0x800000 : BitVec 24).extractLsb' 22 2).toNat = 2 ∧
    barCount (c32 0x800000) = 0 ∧ sget 0 ((joinedAt 1 [(0, 1)]).barrier 0).joined 0 = 0 + 1 ∧ 0 < ((joinedAt 1 [(0, 1)]).barrier 0).phase ∧
    Runs (.c32 0x07 (c32 0x800000)) (joinedAt 0 [(0, 1)]) ∧ sget 0 ((joinedAt 0 [(0, 1)]).barrier 0).joined 0 = 0 + 1 ∧
    ((joinedAt 0 [(0, 1)]).barrier 0).phase ≤ 0 ∧ Runs (.c32 0x07 (c32 0x800000)) (joinedAt 0 []) ∧
    sget 0 ((joinedAt 0 []).barrier 0).joined 0 = 0 := by decide +kernel

/-! ## Witnesses: system registers, register blocks, waits, synchronization -/

/-- SRD of a number into s4, and SWR of a number from s6. -/
def srdOf (n : BitVec 14) : S64 := s64 4 0 0 0 n
def swrOf (n : BitVec 14) : S64 := s64 0 6 0 0 n
def inTrap : State := (base.withSp fun sp => { sp with trap := true }).withS [(6, 2)]
theorem wit_srd : ∀ r ∈ sysRows, Runs (.s64 0x38 (srdOf (BitVec.ofNat 14 r.1))) inTrap ∧ (r.1 < 128 ∨ inTrap.my.trap = true) := by
  decide +kernel
theorem wit_cyclo : Runs (.s64 0x38 (srdOf 0x20)) base ∧ Runs (.s64 0x38 (srdOf 0x21)) base := by decide +kernel
/-- Every writable register takes 2 but RMODE takes 1; SEGW refuses 3. -/
theorem wit_swr : (∀ r ∈ sysWriteRows, Runs (.s64 0x39 (swrOf (BitVec.ofNat 14 r.1))) inTrap ∧ r.2.1 (inTrap.srcA (swrOf 0)) = true) ∧
    Runs (.s64 0x39 (swrOf 0)) (base.withS [(6, 3)]) ∧ CanTrap (base.withS [(6, 3)]) := by decide +kernel
theorem wit_swr_refused : ∀ r ∈ sysWriteRows.take 1, r.2.1 ((base.withS [(6, 3)]).srcA (swrOf 0)) = false := by decide +kernel
theorem wit_privilege : CanTrap base ∧ Runs (.s64 0x38 (srdOf 0x80)) base ∧ Runs (.s64 0x39 (swrOf 0x86)) base ∧
    Runs (.s64 0x38 (srdOf 0x88)) base ∧ Runs (.s64 0x39 (swrOf 0x8A)) base := by decide +kernel
theorem wit_numbers : (∀ n ∈ [0x03, 0x0C, 0x0F, 0x25, 0x27, 0x2A, 0x2F, 0x31, 0x35, 0x7F, 0x87, 0x8B, 0xFF],
      Runs (.s64 0x38 (srdOf (BitVec.ofNat 14 n))) base ∧ Runs (.s64 0x39 (swrOf (BitVec.ofNat 14 n))) base) ∧
    ∀ n ∈ [0x04, 0x0B, 0x10, 0x24, 0x29, 0x30, 0x32, 0x34], Runs (.s64 0x39 (swrOf (BitVec.ofNat 14 n))) base := by decide +kernel
/-- SWR of CARVE with SPS 2, a shrink; 6, a growth; and 4, as it is. -/
theorem wit_carve_by_program : Runs (.s64 0x39 (swrOf 0x88)) inTrap ∧ (inTrap.srcA (swrOf 0x88)).toNat % 8 = 2 ∧ inTrap.my.trap = true ∧
    (inTrap.cl 0).sps = 4 ∧ (inTrap.cl 0).busy = false ∧ (inTrap.cl 0).pend = false := by decide +kernel
theorem wit_carve_sizes : ((inTrap.withS [(6, 6)]).srcA (swrOf 0x88)).toNat % 8 = 6 ∧
    ((inTrap.withS [(6, 4)]).srcA (swrOf 0x88)).toNat % 8 = 4 := by decide +kernel
theorem wit_ctxctl_plain : ((0x1000 : Word).extractLsb' 12 2).toNat = 1 ∧ (0x1000 : Word).getLsbD 15 = false ∧
    ((0xB000 : Word).extractLsb' 12 2).toNat = 3 := by decide +kernel
theorem wit_carve : (base.cl 0).busy = false ∧ (base.cl 0).pend = false ∧
    ((base.updCl 0 fun c => { c with busy := true }).cl 0).busy = true ∧ (∀ x ∈ (base.cl 0).cache, x.2.dirty = 0) ∧
    ((base.updCl 0 fun c => { c with pend := true }).cl 0).pend = true ∧
    (∀ b ∈ base.blocks, b.live = true → b.saved = false → b.cluster = 0 → b.scrLen = 0 ∨
      (b.scrOff + b.scrLen) * 4096 ≤ (base.cl 0).sps * 524288) := by decide +kernel
/-- A second context is ACTIVE in slot 1 of core 0. -/
def twoSlots : State := base.updCore 0 fun k => { k with slotSt := [1, 1, 0] }
theorem wit_ctxctl : ((0x9000 : Word).extractLsb' 12 2).toNat = 1 ∧ (twoSlots.core 0).busy = false ∧
    (twoSlots.core 0).slotSt.getD 1 0 = 1 ∧ (0x9000 : Word).getLsbD 15 = true ∧ 0 < twoSlots.cores.length := by decide +kernel
/-- Block 3 of the group is not mapped. -/
def noBlock3 : State := base.withG fun g => { g with regs := { g.regs with phys := g.regs.phys.set 3 none } }
theorem wit_vacq : Runs (.s64 0x3C (s64 0 0 467 0 0)) base ∧ base.blockNo (s64 0 0 467 0 0) = 3 ∧ base.blockBusy 0 3 = false ∧
    base.me.regs.phys.length = 16 ∧ base.me.regs.phys.getD 3 none = some 3 ∧ Runs (.s64 0x3C (s64 0 0 467 0 0)) noBlock3 ∧
    noBlock3.me.regs.phys.getD 3 none = none ∧ noBlock3.physFree 0 0 = some 3 ∧ (noBlock3.core 0).vacqs = [] ∧
    noBlock3.blockNo (s64 0 0 467 0 0) = 3 ∧ noBlock3.blockBusy 0 3 = false ∧ Runs (.s64 0x3D (s64 0 0 467 0 0)) base := by decide +kernel
/-- Block 16 by s8; a load in flight into block 3; partition 0 without a free block; another split waiting for a block. -/
def block16 : State := base.withS [(8, 16)]
def block3Busy : State :=
  base.countOp { base.accessOp .memory { addAtom with kind := .load, d := 4, lanes := [] } 1 0 [] with vwrites := [(50, 0, 1)] }
def noneFree : State :=
  { noBlock3 with groups := [noBlock3.grp 0, { baseGroup with regs := { baseGroup.regs with phys := (List.range 16).map fun k => some (16 + k) } },
                             { baseGroup with regs := { baseGroup.regs with phys := [some 3] } }] }
def waiter1 : State := noBlock3.updCore 0 fun c => { c with vacqs := [({ group := 0, split := 1 }, 3)] }
theorem wit_vacq_others : Runs (.s64 0x3C (s64 0 0 8 0 0)) block16 ∧ Runs (.s64 0x3D (s64 0 0 8 0 0)) block16 ∧ CanTrap block16 ∧
    block16.blockNo (s64 0 0 8 0 0) = 16 ∧ Runs (.s64 0x3C (s64 0 0 467 0 0)) block3Busy ∧ Runs (.s64 0x3D (s64 0 0 467 0 0)) block3Busy ∧
    block3Busy.blockBusy 0 3 = true ∧ Runs (.s64 0x3C { s64 0 0 467 0 1 with cf := 5 }) noneFree ∧ Runs (.s64 0x3C (s64 0 0 467 0 0)) noneFree ∧
    noneFree.physFree 0 0 = none ∧ noneFree.me.regs.phys.getD 3 none = none ∧ noneFree.blockBusy 0 3 = false ∧
    Runs (.s64 0x3C (s64 0 0 467 0 0)) waiter1 ∧
    (((waiter1.core 0).vacqs.find? fun v => (waiter1.grp v.1.group).part == waiter1.me.part).map fun v => v.1) ≠ some waiter1.cur ∧
    waiter1.blockBusy 0 3 = false := by decide +kernel
theorem wit_waita : (scrRec.recAt 8).2 = none ∧ (scrRec.recAt 8).1.kind = 0 ∧ (scrRec.recAt 8).1.inBounds 0 0 4 = true ∧
    (scrRec.recAt 8).1.addr 0 0 = 16 ∧ (scrRec.blk (scrRec.blockOf scrRec.me)).scratch = 4096 ∧
    scrRec.scrRead 0 (scrRec.scrBase 0 + 16) 4 = (0, false) ∧ Runs (.s64 0x45 (s64 4 8 14 0 0)) scrRec ∧
    (0 - scrRec.srcB (s64 4 8 14 0 0)).toNat < 2 ^ 31 ∧ Runs (.s64 0x45 (s64 4 8 14 0 0)) (scrRec.withS [(14, 1)]) ∧
    ¬ (0 - (scrRec.withS [(14, 1)]).srcB (s64 4 8 14 0 0)).toNat < 2 ^ 31 := by decide +kernel
theorem wit_swaitg : (memRec.recAt 8).2 = none ∧ (memRec.recAt 8).1.addr 0 0 = 0x10100 ∧ (memRec.recAt 8).1.inBounds 0 0 4 = true ∧
    (memRec.pathRead 0 0x10100 4).toOption = some ([0, 0, 0, 0], false) ∧ Runs (.s64 0x3F (s64 4 8 14 0 4)) memRec ∧
    (0 - memRec.srcB (s64 4 8 14 0 4)).toNat < 2 ^ 31 ∧ Runs (.s64 0x3F (s64 4 8 14 0 4)) (memRec.withS [(14, 1)]) ∧
    ¬ (0 - (memRec.withS [(14, 1)]).srcB (s64 4 8 14 0 4)).toNat < 2 ^ 31 := by decide +kernel
/-- Records that do not reach their word: 3 bytes long, misaligned, of kind 5, past the scratchpad. -/
theorem wit_wait_traps : CanTrap (scrRec.withS [(10, 3)]) ∧
    (∀ l ∈ [[(10, 3)], [(8, 18)], [(9, 0x05000000)], [(8, 4094)]], Runs (.s64 0x45 (s64 4 8 14 0 0)) (scrRec.withS l) ∧
      ((scrRec.withS l).recAt 8).2 = none) ∧ ((scrRec.withS [(10, 3)]).recAt 8).1.inBounds 0 0 4 = false ∧
    ((scrRec.withS [(8, 18)]).recAt 8).1.addr 0 0 = 18 ∧ ((scrRec.withS [(9, 0x05000000)]).recAt 8).1.kind = 5 ∧
    ((scrRec.withS [(8, 4094)]).recAt 8).1.addr 0 0 = 4094 ∧ Runs (.s64 0x3F (s64 4 8 14 0 4)) (memRec.withS [(10, 3)]) ∧
    Runs (.s64 0x3F (s64 4 8 14 0 4)) (memRec.withS [(8, 0x10102)]) ∧ ((memRec.withS [(8, 0x10102)]).recAt 8).1.addr 0 0 = 0x10102 := by
  decide +kernel
/-- A word of a granted range of the weight store in READ mode, at tick 30 and inside a refresh window; a word behind a window. -/
def ws6 (tick : Nat) : State :=
  { (memRec.withS [(8, 0), (9, 0x06000000)]).updC 0 (fun c => { c with grants := [(0, 0x200000)] }) with
      dev := { memRec.dev with wsLoad := false, tick := tick } }
def behindWindow : State := (memRec.withS [(8, 0x80000), (9, 0x03000000)]).updC 0 fun c =>
  { c with windows := [{ va := 0x80000, len := 0x10000, kind := 3, r := true, w := true, x := false, q := 1, remote := 0x500 }] }
theorem wit_far_waits : Runs (.s64 0x3F (s64 4 8 14 0 4)) (ws6 30) ∧ ((ws6 30).recAt 8).1.kind = 6 ∧ ((ws6 30).ctx 0).granted 0 4 = true ∧
    (ws6 30).wsReadable 0 4 = true ∧ (ws6 30).dev.wsPoison = [] ∧ (ws6 5).wsReadable 0 4 = false ∧
    Runs (.s64 0x3F (s64 4 8 14 0 4)) behindWindow ∧ (behindWindow.recAt 8).1.kind = 3 ∧
    ((behindWindow.ctx 0).window 3 0x80000 .r).map (fun w => w.remote) = some 0x500 ∧ behindWindow.winReqs = [] ∧
    (behindWindow.recAt 8).1.inBounds 0 0 4 = true ∧ (behindWindow.recAt 8).1.addr 0 0 = 0x80000 := by decide +kernel
/-- Splits that wait for a word of the scratchpad and for a word of memory. -/
def waitsA : State := scrRec.withSp fun sp => { sp with st := .wait, wait := .waita 16 0 false 0 4 0 }
def waitsG : State := memRec.withSp fun sp => { sp with st := .wait, wait := .swaitg 0 0x10100 0 false 0 4 0 }
theorem wit_polls : waitsA.resident waitsA.cur = .wait ∧ (waitsA.spl waitsA.cur).wait = .waita 16 0 false 0 4 0 ∧
    waitsA.scrRead 0 (waitsA.scrBase 0 + 16) 4 = (0, false) ∧ waitsG.resident waitsG.cur = .wait ∧
    (waitsG.spl waitsG.cur).wait = .swaitg 0 0x10100 0 false 0 4 0 ∧
    (({ waitsG with cur := waitsG.cur } : State).pathRead 0 0x10100 4).toOption = some ([0, 0, 0, 0], false) := by decide +kernel
/-- A split that waits for a word of the weight store, which is readable at tick 30 and not at tick 5. -/
def waits6 (tick : Nat) : State := (ws6 tick).withSp fun sp => { sp with st := .wait, wait := .swaitg 6 0 0 false 0 4 0 }
theorem wit_far_polls : (waits6 30).resident (waits6 30).cur = .wait ∧ ((waits6 30).spl (waits6 30).cur).wait = .swaitg 6 0 0 false 0 4 0 ∧
    ((waits6 30).ctx 0).granted 0 4 = true ∧ (waits6 30).wsReadable 0 4 = true ∧ (waits6 5).wsReadable 0 4 = false ∧
    (waits6 5).resident (waits6 5).cur = .wait ∧ (waits6 30).dev.wsPoison.contains 0 = false := by decide +kernel
/-- SACQ and SREL of the implicit object at device scope; of the object at 0x10200 with scope 3. -/
def impl : S64 := s64 4 0 0 0 0xC
def objState : State := (base.withS [(6, 0x10200), (7, 0)]).withMem 0x200 [7, 3, 0, 0]
def objOps : S64 := s64 4 6 0 0 0
theorem wit_sync_implicit : Runs (.s64 0x46 impl) base ∧ Runs (.s64 0x47 { impl with sd := 0 }) base ∧ base.my.memIdle = true ∧
    impl.aux.getLsbD 3 = true ∧ base.releaseActs 0 0 4 none = (base, []) := by decide +kernel
theorem wit_sync_object : Runs (.s64 0x46 objOps) objState ∧ Runs (.s64 0x47 objOps) objState ∧ objState.my.memIdle = true ∧
    objOps.aux.getLsbD 3 = false ∧ objState.readAddr objState.cur 6 = 0x10200 := by decide +kernel
theorem wit_sync_object_read : (objState.syncObj 0 0x10200).1 = objState ∧
    (objState.syncObj 0 0x10200).2.toOption.map (fun x => (x.rseq, x.scope)) = some (7, 3) ∧
    objState.releaseActs 0 0 3 (some 0x10200) = (objState, []) ∧ (objState.writeHomeVA 0 0x10200 (leBytes 4 8)).isSome = true := by
  decide +kernel
theorem wit_sync_held : (base.withSp fun sp => { sp with vsc := 2 }).my.memIdle = false ∧
    Runs (.s64 0x46 impl) (base.withSp fun sp => { sp with vsc := 2 }) ∧
    Runs (.s64 0x47 { impl with sd := 0 }) (base.withSp fun sp => { sp with vsc := 2 }) ∧
    Runs (.s64 0x46 objOps) (objState.withS [(6, 0x10204)]) ∧ Runs (.s64 0x47 objOps) (objState.withS [(6, 0x10204)]) ∧
    CanTrap (objState.withS [(6, 0x10204)]) ∧ (objState.withS [(6, 0x10204)]).readAddr objState.cur 6 % 16 = 4 := by decide +kernel
/-- SOBIND of object s6, base s12, length s14. -/
def bindOps : S64 := s64 4 6 12 14 0
def bindState (obj base' len : Word) : State := base.withS [(6, obj), (7, 0), (12, base'), (13, 0), (14, len)]
def bound1 : State := (bindState 0x10200 0x10100 256).updC 0 fun c => { c with binds := [{ obj := 0x10200, base := 0x10000, len := 512 }] }
theorem wit_sobind : Runs (.s64 0x48 bindOps) (bindState 0x10200 0x10100 256) ∧ Runs (.s64 0x48 bindOps) (bindState 0x10201 0x10100 256) ∧
    Runs (.s64 0x48 bindOps) (bindState 0x10200 0x10101 256) ∧ Runs (.s64 0x48 bindOps) bound1 ∧
    (∃ b ∈ (bound1.ctx 0).binds, b.base < 0x10100 + 256 ∧ 0x10100 < b.base + b.len) ∧
    Runs (.s64 0x49 { objOps with sa := 6 }) bound1 := by decide +kernel
/-- A binding table of 4,096 entries elsewhere. -/
def boundFull : State := (bindState 0x10200 0x10100 256).updC 0 fun c =>
  { c with binds := List.replicate 4096 { obj := 0x10200, base := 0, len := 0 } }
theorem wit_sobind_full : Runs (.s64 0x48 bindOps) boundFull ∧ 4096 ≤ (boundFull.ctx 0).binds.length ∧
    ((boundFull.ctx 0).binds.all fun b => b.base == 0 && b.len == 0) = true := by decide +kernel
theorem wit_fence_held : (base.withSp fun sp => { sp with vmc := 1 }).my.memIdle = false ∧
    Runs (.c32 0x0F (c32 0x888000)) (base.withSp fun sp => { sp with vmc := 1 }) := by decide +kernel
/-- A fence of every path at device scope, of the engines alone with XC above 0. -/
theorem wit_fences : Runs (.c32 0x0F (c32 0x888000)) base ∧ Runs (.c32 0x0F (c32 0x878000)) base ∧ base.my.memIdle = true ∧ base.my.xc = 0 ∧
    base.releaseActs 0 0 4 none = (base, []) ∧ base.releaseActs 0 0 3 none = (base, []) ∧ (c32 0x878000).f.getLsbD 18 = true ∧
    Runs (.c32 0x0F (c32 0x840000)) (base.withSp fun sp => { sp with xc := 1 }) ∧
    (base.withSp fun sp => { sp with xc := 1 }).my.xc ≠ 0 := by decide +kernel

/-! ## Witnesses: vector instructions -/

/-- Whether an instruction of a vector row runs with given operands. -/
def vecRuns (f : V96 → Instr) (o : V96) (s : State) : Bool :=
  match toIWord (f o) with
  | .v96 op x => (vsig op).isSome && x == o && s.curOk && (s.precheck (.v96 op x)).isNone
  | _ => false
/-- What that says. -/
theorem vecRuns_spec (f : V96 → Instr) (o : V96) (s : State) (h : vecRuns f o s = true) :
    ∃ op g, toIWord (f o) = .v96 op o ∧ vsig op = some g ∧ Runs (.v96 op o) s := by
  unfold vecRuns at h
  split at h
  · next op x e =>
    simp only [Bool.and_eq_true, beq_iff_eq, Option.isNone_iff_eq_none] at h
    obtain ⟨⟨⟨hs, rfl⟩, hc⟩, hp⟩ := h
    obtain ⟨g, hg⟩ := Option.isSome_iff_exists.mp hs
    exact ⟨op, g, e, hg, hc, hp⟩
  · cases h
/-- v2 from v4 and v0; a predicate p1 or the scalar s4 from v4 and v0. -/
def vo : V96 := v96 2 (vreg 4) (vreg 0) 0
def voP (c : BitVec 10) : V96 := v96 0 (vreg 4) (vreg 0) c
theorem wit_vector : ∀ r ∈ vectorRows, ([0, 1, 2].any fun ew => vecRuns r.1 { vo with ew := ew } base) = true := by decide +kernel
/-- The format word of E4M3, and a word that no format has. -/
def fmtState (w : Word) : State := base.withS [(4, w)]
def voF (vd : BitVec 8) (c : BitVec 10) : V96 := v96 vd (vreg 4) (vreg 516) c
theorem wit_formats : (∀ r ∈ vectorFormatRows, [0, 516].any (fun c => vecRuns r.1 (voF 2 c) (fmtState 0xFFFFFFFF) &&
      vecRuns r.1 (voF 2 c) (fmtState 0x000147C8)) = true) ∧ fmtValid 0xFFFFFFFF = false := by decide +kernel
theorem wit_format_valid : fmtValid ((fmtState 0x000147C8).readS base.cur 4) = true ∧ (fmtState 0x000147C8).vmask (voF 2 0) ≠ 0 ∧
    CanTrap (fmtState 0xFFFFFFFF) := by decide +kernel
theorem wit_vector_frame : base.curOk = true ∧ base.vmask { vo with lat := 4 } ≠ 0 ∧ base.my.latches.length = 4 := by decide +kernel
theorem wit_vector_compare : ∀ r ∈ compareOutcomes, ∀ c ∈ [265, 516],
    ([0, 1].any fun ew => vecRuns r.1 { voP c with ew := ew } base) = true := by decide +kernel
theorem wit_compare_targets : base.vmask (voP 265) ≠ 0 ∧ 1 < base.me.regs.p.length ∧ (265 : BitVec 10).toNat - 264 = 1 := by
  decide +kernel
theorem wit_collectives : (∀ r ∈ collectiveRows, vecRuns r.1 vo base = true) ∧ ∀ r ∈ floatCollectiveRows, vecRuns r.1 vo base = true := by
  decide +kernel
theorem wit_votes : ∀ c ∈ [265, 516], vecRuns .vvoteAny (voP c) base = true ∧ vecRuns .vvoteAll (voP c) base = true := by decide +kernel
theorem wit_lane_data : vecRuns .vlaneid (v96 2 (vreg 928) (vreg 0) 0) base = true ∧ vecRuns .vlaneid (v96 2 (vreg 933) (vreg 0) 0) base = true ∧
    vecRuns .vrngrd (v96 2 (vreg 928) (vreg 0) 0) base = true ∧ vecRuns .vrngrd (v96 2 (vreg 929) (vreg 0) 0) base = true ∧
    vecRuns .vrngwr (voP 0) base = true ∧ vecRuns .vrdlane (v96 0 (vreg 4) (vreg 516) 516) base = true ∧
    lowestLane (base.vmask (v96 0 (vreg 4) (vreg 516) 516)) = some 0 ∧ vecRuns .vwrlane (voF 2 0) base = true := by decide +kernel
/-- Every lane names the landing pad at 0x10100, and s4 its tag. -/
def vbrxState : State := ((base.withV 4 fun _ => 0x10100).withS [(4, 5)]).withMem 0x100 [0x0B000005]
def voB : V96 := voF 0 0
theorem wit_vbrx : vecRuns .vbrx voB vbrxState = true ∧ vbrxState.vmask voB ≠ 0 ∧ vbrxState.xlate 0 0x10100 .x = .ok 0x100 ∧
    leNat (getBs vbrxState.mem 0x100 4) = 0x0B000005 ∧ vbrxState.laneSel voB = 5 ∧
    ∀ l, l < 32 → inMask (vbrxState.vmask voB) l = true →
      (vbrxState.readAB { ty := .b, pair := true, zeroOnly := true, special := .target } 0 voB.a l).1 % 2 ^ 56 = 0x10100 := by
  decide +kernel
/-- Targets that fail: no multiple of 4, outside every mapping, the pad of another tag; lanes 0 to 15 and 16 to 31 with targets of their own. -/
def vbrxTo (f : Nat → Word) : State := ((base.withV 4 f).withS [(4, 5)]).withMem 0x100 [0x0B000005, 0x0B000005, 0x0B000006]
def vbrxTwo : State := vbrxTo fun l => if l < 16 then 0x10104 else 0x10100
theorem wit_vbrx_fails : vecRuns .vbrx voB (vbrxTo fun _ => 0x10102) = true ∧ vecRuns .vbrx voB (vbrxTo fun _ => 0x90000000) = true ∧
    vecRuns .vbrx voB (vbrxTo fun l => if l = 0 then 0x10100 else 0x10108) = true ∧ CanTrap (vbrxTo fun _ => 0x10102) ∧
    (vbrxTo fun _ => 0x10102).laneTarget voB 0 = 0x10102 ∧ (vbrxTo fun _ => 0x90000000).laneTarget voB 0 = 0x90000000 ∧
    (vbrxTo fun _ => 0x90000000).xlate 0 0x90000000 .x = .refused ∧
    (vbrxTo fun l => if l = 0 then 0x10100 else 0x10108).laneTarget voB 1 = 0x10108 ∧
    (vbrxTo fun _ => 0).xlate 0 0x10108 .x = .ok 0x108 ∧ leNat (getBs (vbrxTo fun _ => 0).mem 0x108 4) = 0x0B000006 := by decide +kernel
theorem wit_vbrx_divides : vecRuns .vbrx voB vbrxTwo = true ∧ vbrxTwo.my.trap = false ∧ vbrxTwo.me.freeEntry = some 1 ∧
    ((lanesOf (vbrxTwo.vmask voB)).map (vbrxTwo.laneTarget voB)).eraseDups = [0x10104, 0x10100] ∧ vbrxTwo.laneSel voB = 5 ∧
    vbrxTwo.xlate 0 0x10104 .x = .ok 0x104 ∧ leNat (getBs vbrxTwo.mem 0x104 4) = 0x0B000005 ∧
    vecRuns .vbrx voB (vbrxTwo.withSp fun sp => { sp with trap := true }) = true ∧ lowestLane (vbrxTwo.vmask voB) = some 0 := by decide +kernel

/-! ## Witnesses: memory -/

/-- Two lanes are active; the records of scrRec and memRec. -/
def twoLanes (s : State) : State := s.withSp fun sp => { sp with mask := 3 }
/-- Lane l uses the word at index 4·l; v16 is loaded into, v32 stored. -/
def mo : EMem := { emem 16 0 0 8 2 with mode := 1 }
def moStore : EMem := { emem 0 0 32 8 2 with mode := 1 }
def moOf (k : AccKind) (scr wide : Bool) : EMem :=
  if wide then { mo with width := 0 }
  else match k with
    | .load => mo
    | .store => moStore
    | .atom _ => { mo with vdat := 32, scope := if scr then 0 else 1 }
def scrOf (scr : Bool) : State := twoLanes (if scr then scrRec else memRec)
/-- A row's instruction meets the premises of its completion. -/
def memRowOk (e : (EMem → Instr) × (EMem → AccKind) × Bool × Bool) : Bool :=
  let s := scrOf e.2.2.1
  let mo := moOf (e.2.1 mo) e.2.2.1 e.2.2.2
  let k := e.2.1 mo
  let r := (s.memRec mo).2.1
  let w := if e.2.2.2 then 64 else 2 ^ mo.width.toNat
  decide (Runs (toIWord (e.1 mo)) s) && s.mmask mo != 0 && decide (s.memRec mo = (s, r, none)) && decide (r.kind = 0) &&
    !r.rdonly && match checkLanes r w (sextN 24 mo.off.toNat) (s.limitOf e.2.2.1) ((s.me).cands mo k r w (s.mmask mo)) with
      | .ok reqs _ =>
        let acc : Access := { memAccess mo k (if e.2.2.1 then scrKind else r.kind) w with lanes := reqs }
        !reqs.isEmpty && decide ((s.my).ctr acc.ctr < 63) && cleanServe (s.serve s.cur.group acc)
      | _ => false
theorem wit_vector_memory : vecMemRows.all memRowOk = true := by decide +kernel
/-- Every counter of the issuing split at 63. -/
def countersFull (s : State) : State := s.withSp fun sp => { sp with vmc := 63, vsc := 63, smc := 63, xc := 63 }
/-- The lanes of a row's instruction that pass their checks. -/
def rowLanes (e : (EMem → Instr) × (EMem → AccKind) × Bool × Bool) (o : EMem) (s : State) : Option (List LaneReq) :=
  let w := if e.2.2.2 then 64 else 2 ^ o.width.toNat
  match checkLanes (s.memRec o).2.1 w (sextN 24 o.off.toNat) (s.limitOf e.2.2.1) ((s.me).cands o (e.2.1 o) (s.memRec o).2.1 w (s.mmask o)) with
  | .ok reqs _ => some reqs
  | _ => none
def rowOps (e : (EMem → Instr) × (EMem → AccKind) × Bool × Bool) : EMem := moOf (e.2.1 mo) e.2.2.1 e.2.2.2
/-- A row's instruction runs at a state whose record is of a kind, and its lanes pass their checks. -/
def rowRuns (e : (EMem → Instr) × (EMem → AccKind) × Bool × Bool) (o : EMem) (s : State) (kind : Nat) : Bool :=
  decide (Runs (toIWord (e.1 o)) s) && (s.memRec o).2.2.isNone && (s.memRec o).2.1.kind == kind && (rowLanes e o s).any (!·.isEmpty) && s.mmask o != 0
theorem wit_memory_held : vecMemRows.all (fun e => rowRuns e (rowOps e) (countersFull (scrOf e.2.2.1)) 0) = true ∧
    (countersFull memRec).my.vmc = 63 ∧ (countersFull memRec).my.vsc = 63 := by decide +kernel
/-- The rows outside the scratchpad. -/
def deviceRows : List ((EMem → Instr) × (EMem → AccKind) × Bool × Bool) := vecMemRows.filter fun e => !e.2.2.1
/-- Device memory bound to the object at 0x10200, through a record of kind 5; addresses behind a window. -/
def mappedRec : State := ((twoLanes memRec).withS [(9, 0x05000000)]).updC 0 fun c =>
  { c with binds := [{ obj := 0x10200, base := 0x10000, len := 512 }] }
def windowRec (kind : Nat) (base : Word) : State := ((twoLanes memRec).withS [(8, base), (9, BitVec.ofNat 32 (kind * 2 ^ 24))]).updC 0 fun c =>
  { c with windows := [{ va := 0x80000, len := 0x10000, kind := kind, r := true, w := true, x := false, q := 1, remote := 0x500 }] }
theorem wit_mapped_access : deviceRows.all (fun e => rowRuns e (rowOps e) mappedRec 5 &&
    match mappedRec.map5All 0 (if e.2.2.2 then 64 else 4) ((rowLanes e (rowOps e) mappedRec).getD []) with
    | (u, .ok mapped) => u.cur == mappedRec.cur &&
      cleanServe (u.serve 0 { memAccess (rowOps e) (e.2.1 (rowOps e)) 0 (if e.2.2.2 then 64 else 4) with lanes := mapped })
    | _ => false) = true := by decide +kernel
theorem wit_window_access : deviceRows.all (fun e => rowRuns e (rowOps e) (windowRec 3 0x80000) 3 &&
    ((rowLanes e (rowOps e) (windowRec 3 0x80000)).getD []).all fun q => (((windowRec 3 0x80000).ctx 0).window 3 q.va .w).isSome) = true ∧
    rowRuns (.vatom, fun o => .atom o.sub.toNat, false, false) { mo with vdat := 32, scope := 1, width := 3, mode := 0 } (windowRec 4 0x80000) 4 = true := by
  decide +kernel
/-- A window record of the scratchpad forms and a strided one of VLDW; a 32-bit atomic through a window of kind 4; a lane past its window. -/
theorem wit_record_kinds : (vecMemRows.filter (·.2.2.1)).all (fun e => rowRuns e (rowOps e) ((scrOf true).withS [(9, 0x05000000)]) 5) = true ∧
    Runs (.mem 0x07 { mo with width := 0 }) ((scrOf false).withS [(9, 0x01000000)]) ∧
    (((scrOf false).withS [(9, 0x01000000)]).memRec mo).2.1.linear = false ∧
    rowRuns (.vatom, fun o => .atom o.sub.toNat, false, false) { mo with vdat := 32, scope := 1 } (windowRec 4 0x80000) 4 = true ∧
    rowRuns (.vld, fun _ => .load, false, false) mo (windowRec 3 0x8FFFC) 3 = true ∧
    (((rowLanes (.vld, fun _ => .load, false, false) mo (windowRec 3 0x8FFFC)).getD []).filter fun q =>
      (((windowRec 3 0x8FFFC).ctx 0).window 3 q.va .r).isNone).map (·.va) = [0x90000] ∧ CanTrap (windowRec 3 0x8FFFC) := by decide +kernel
/-- Poison in the sector of the device words and in the scratchpad. -/
def poisonedRec (scr : Bool) : State :=
  { ((scrOf scr).updCl 0 fun c => { c with spoison := [0, 1] }) with dev := { base.dev with poison := [4] } }
theorem wit_memory_poison : (vecMemRows.filter fun e => (e.2.1 mo).isLoad || (e.2.1 mo).isAtom).all (fun e =>
    rowRuns e (rowOps e) (poisonedRec e.2.2.1) 0 && ((poisonedRec e.2.2.1).serve 0
      { memAccess (rowOps e) (e.2.1 (rowOps e)) (if e.2.2.1 then scrKind else 0) (if e.2.2.2 then 64 else 4) with
          lanes := (rowLanes e (rowOps e) (poisonedRec e.2.2.1)).getD [] }).poison != 0) = true := by decide +kernel
theorem wit_no_lane : Runs (.mem 0x00 mo) (memRec.withSp fun sp => { sp with mask := 0 }) ∧
    (memRec.withSp fun sp => { sp with mask := 0 }).mmask mo = 0 := by decide +kernel
/-- The index is s14, the datum s15, the destination s4. -/
def soOf (k : AccKind) (scr : Bool) : S64 :=
  match k with
  | .load => s64 4 8 14 0 2
  | .store => s64 0 8 14 15 2
  | .atom _ => s64 4 8 14 15 (if scr then 2 else 10)
def scalarRowOk (e : (S64 → Instr) × (S64 → AccKind) × Bool) : Bool :=
  let s := if e.2.2 then scrRec else memRec
  let so := soOf (e.2.1 (s64 0 0 0 0 0)) e.2.2
  let k := e.2.1 so
  let r := (s.recAt 8).1
  decide (Runs (toIWord (e.1 so)) s) && decide (s.recAt 8 = (r, none)) && decide (r.kind = 0) && !r.rdonly &&
    match checkLanes r (scalarAccess so k 0).width 0 (s.limitOf e.2.2)
        [{ lane := 0, i := (s.srcB so).toNat, data := if k.isLoad then 0 else s.scalarData so.sc.toNat (scalarAccess so k 0).width,
           cmp := if k = .atom 0xA then s.scalarData 4 (scalarAccess so k 0).width else 0 }] with
      | .ok reqs _ =>
        let acc : Access := { scalarAccess so k (if e.2.2 then scrKind else r.kind) with lanes := reqs }
        !reqs.isEmpty && decide ((s.my).ctr acc.ctr < 63) && cleanServe (s.serve s.cur.group acc)
      | _ => false
theorem wit_scalar_memory : scalarMemRows.all scalarRowOk = true := by decide +kernel
/-- Records of scalar accesses: reserved kind, misaligned base of kind 2, OOBTRAP over 3 bytes, misaligned address; the weight store's, RDONLY. -/
theorem wit_scalar_traps : scalarMemRows.all (fun e => let s := if e.2.2 then scrRec else memRec; let o := soOf (e.2.1 (s64 0 0 0 0 0)) e.2.2
    [[(9, 0x08000000)], [(8, 0x11), (9, 0x02000000)], [(9, 0x80000000), (10, 3)], [(8, 0x11)], [(9, 0x05000000)], [(9, 0x06000000)],
      [(9, 0x40000000)]].all fun l => decide (Runs (toIWord (e.1 o)) (s.withS l))) = true ∧
    (scrRec.withS [(9, 0x08000000)]).recAt 8 = (((scrRec.withS [(9, 0x08000000)]).recAt 8).1, some 0x02) ∧
    checkLanes ((memRec.withS [(9, 0x80000000), (10, 3)]).recAt 8).1 4 0 none [{ lane := 0, i := 0, data := 0, cmp := 0 }] = .trap 0x12 1 := by
  decide +kernel
/-- Records that a store may not use: RDONLY, and the weight store's; and one of 4 bytes that traps lane 1. -/
def readOnlyRec : State := (twoLanes memRec).withS [(9, 0x40000000)]
def wsRec : State := (twoLanes memRec).withS [(9, 0x06000000)]
def shortRec : State := (twoLanes memRec).withS [(9, 0x80000000), (10, 4)]
theorem wit_store_checks : CanTrap wsRec ∧ (wsRec.memRec mo).2.1.kind = 6 ∧ Runs (.mem 0x01 moStore) wsRec ∧
    (readOnlyRec.memRec mo).2.1.rdonly = true ∧ (readOnlyRec.memRec mo).2.1.kind = 0 ∧ Runs (.mem 0x01 moStore) readOnlyRec := by decide +kernel
theorem wit_lane_checks : Runs (.mem 0x00 mo) shortRec ∧ shortRec.memRec mo = (shortRec, (shortRec.memRec mo).2.1, none) ∧
    checkLanes (shortRec.memRec mo).2.1 4 0 none ((shortRec.me).cands mo .load (shortRec.memRec mo).2.1 4 (shortRec.mmask mo)) =
      .trap 0x12 2 := by decide +kernel
/-- R29, R30: lane 0 within 8 bytes at 0x10100, lane 1 past them. -/
def smallRec : BufRec :=
  { base := 0x10100, kind := 0, extent := 8, stride := 0, swzw := 0, esize := 0, rdonly := false, oobtrap := false }
def twoCands : List Cand := [{ lane := 0, i := 4, data := 0, cmp := 0 }, { lane := 1, i := 8, data := 0, cmp := 0 }]
theorem wit_bounds : checkLanes smallRec 4 0 none twoCands = .ok [{ lane := 0, va := 0x10104, data := 0, cmp := 0 }] 2 ∧
    checkLanes { smallRec with oobtrap := true } 4 0 none twoCands = .trap 0x12 2 ∧
    checkLanes smallRec 4 2 none [{ lane := 0, i := 0, data := 0, cmp := 0 }] = .trap 0x13 1 := by decide +kernel
theorem wit_store_levels : 0 < base.cores.length ∧ 0 < base.clusters.length ∧ 0 < base.ctxs.length ∧
    (base.storeSector 0 (vkey 0 0x10100) 15 0x01020304 4 0).2 = true ∧ base.xlate 0 0x10100 .w = .ok 0x100 ∧
    cacheWays (base.cl 0) = true ∧ base.ccAt 0 (vkey 0 0x10100) = noSector := by decide +kernel
theorem wit_home_atomic : base.placeOf (base.grp 0).who.ctx addAtom 0x10100 = .ok ∧ atomIsFloat 0 = false ∧
    (base.grp 0).coreIx < base.cores.length ∧ 0x10100 / 64 * 64 = 0x10100 ∧
    base.placeOf (base.grp 0).who.ctx addAtom (0x10100 / 64 * 64) = .ok ∧ base.xlate 0 0x10100 .w = .ok 0x100 := by decide +kernel
/-- Lanes 0 and 1 of a load and of a store at 0x10100 and 0x10104, in the scratchpad, in memory and in the weight store. -/
def served2 (kind : AccKind) (rkind : Nat) : Access :=
  { addAtom with kind := kind, rkind := rkind, lanes := [{ lane := 0, va := 0x10100, data := 7, cmp := 0 }, { lane := 1, va := 0x10104, data := 8, cmp := 0 }] }
theorem wit_lanes_served : ([(AccKind.load, 0), (.store, 0), (.load, scrKind), (.store, scrKind), (.load, 6)].all fun x =>
      (served2 x.1 x.2).lanes.all fun r => (ws6 30).placeOf 0 (served2 x.1 x.2) r.va == .ok) = true ∧
    base.xlate 0 (0x10104 / 64 * 64) .r = .ok 0x100 ∧ base.l1At 0 (vkey 0 0x10104) = noSector ∧ base.ccAt 0 (vkey 0 0x10104) = noSector ∧
    base.l1At 0 (wkey 0x10104) = noSector ∧ base.ccAt 0 (wkey 0x10104) = noSector ∧ (base.grp 0).who.cluster < base.clusters.length := by
  decide +kernel
def moPref : EMem := { mo with d := 0 }
theorem wit_prefetch : Runs (.mem 0x06 moPref) memRec ∧ memRec.memRec moPref = (memRec, (memRec.memRec moPref).2.1, none) ∧
    (memRec.memRec moPref).2.1.kind ≠ 5 := by decide +kernel

/-! ## Witnesses: events of splits and of the memory unit -/

/-- A load of lane 0 into v4 that has acted, under each kind of operation. -/
def pendOf (k : PendKind) : State :=
  base.countOp (base.accessOp k { addAtom with kind := .load, d := 4, lanes := [] } 1 0 [(0, 5)])
theorem wit_completions : ∀ e ∈ completionRows, ((pendOf e.2).findOp 0 0).any (fun p => p.kind == e.2 && p.vwrites == [(4, 0, 5)] &&
    (pendOf e.2).outsideWindows p) := by
  decide +kernel
theorem wit_ray_completion : ((pendOf .ray).findOp 0 0).any (fun p => p.kind == .ray && p.lanes == 1) ∧
    (((pendOf .ray).grp 0).ray 0).st = .none ∧ ((pendOf .ray).grp 0).saved = false ∧ (pendOf .ray).mustWait 0 = false := by decide +kernel
/-- A split in a wait, its PC at the instruction. -/
def waiting (st : SState) (w : WaitKind) : State := base.withSp fun sp => { sp with st := st, wait := w }
def who0 : SplitRef := { group := 0, split := 0 }
theorem wit_waits : (waiting .sleep .yield).resident who0 = .sleep ∧ ((waiting .sleep .yield).spl who0).wake ≤ base.dev.cycle ∧
    (waiting .join .yield).resident who0 = .join ∧
    ((waiting .join .yield).spl who0).mask ||| ((waiting .join .yield).grp 0).exited = BitVec.allOnes 32 ∧
    (waiting .wait .yield).resident who0 = .wait ∧ ((waiting .wait .yield).spl who0).wait = .yield := by decide +kernel
/-- Barrier 2 has completed phase 0. -/
def barrierDone : State :=
  (waiting .wait (.barrier 2 0)).updB 0 fun b => { b with barriers := b.barriers.set 2 { Barrier.reset with phase := 1 } }
theorem wit_barrier_wait : barrierDone.resident who0 = .wait ∧ (barrierDone.spl who0).wait = .barrier 2 0 ∧
    0 < ((barrierDone.blk (barrierDone.blockOf (barrierDone.grp 0))).barriers.getD 2 default).phase := by decide +kernel
/-- Two splits of half the lanes each, at one PC or at two. -/
def halves (pc : Addr56) : State :=
  let a := { base.my with mask := 0xFFFF, vmc := 1 }
  base.withG fun g => { g with splits := [a, { a with mask := 0xFFFF0000, pc := pc }, Split.empty, Split.empty] }
theorem wit_merge : ((halves 0x10040).grp 0).live? = true ∧ ((halves 0x10040).grp 0).deferred = [] ∧
    ((halves 0x10040).grp 0).splits.length = 4 ∧
    (∀ sp ∈ ((halves 0x10040).grp 0).splits.take 2, sp.st = .ready ∧ sp.trap = false ∧ sp.hasLatch = false ∧ sp.replayNow = false ∧
      sp.pc = 0x10040 ∧ sp.vmc = 1) ∧ (((halves 0x10080).grp 0).splits.getD 1 default).pc ≠ 0x10040 := by decide +kernel
/-- Four splits, the third of which waits, and one deferred entry. -/
def fourSplits : State :=
  let a := { base.my with mask := 0xFF, vmc := 1 }
  base.withG fun g =>
    { g with splits := [a, { a with mask := 0xFF00 }, { a with mask := 0xFF0000, st := .wait, vmc := 0 }, { a with mask := 0xF000000 }],
             deferred := [{ a with mask := 0xF0000000 : Split }.toDeferred 0], seq := 1 }
theorem wit_deferral : (fourSplits.grp 0).live? = true ∧ (fourSplits.grp 0).moved ≠ fourSplits.dev.cycle + 1 ∧
    (fourSplits.grp 0).deferred ≠ [] ∧ 2 < (fourSplits.grp 0).splits.length ∧
    (∀ j, j < (fourSplits.grp 0).splits.length → ((fourSplits.grp 0).movable fourSplits.dev.cycle j = true ↔ j = 2)) ∧
    (∀ sp ∈ (fourSplits.grp 0).splits, sp.st ≠ .free) ∧ (∀ d ∈ (fourSplits.grp 0).deferred, d.st = .ready) ∧
    (fourSplits.grp 0).listed ≤ (fourSplits.grp 0).freed := by decide +kernel
/-- The same in a cycle that the list began with one entry. -/
def listedOne : State := fourSplits.withG fun g => { g with listed := 1 }
theorem wit_exchange : (listedOne.grp 0).freed < (listedOne.grp 0).listed ∧ (listedOne.grp 0).splits = (fourSplits.grp 0).splits ∧
    (listedOne.grp 0).deferred = (fourSplits.grp 0).deferred ∧
    ∀ j, j < (listedOne.grp 0).splits.length → ((listedOne.grp 0).movable listedOne.dev.cycle j = true ↔ j = 2) := by decide +kernel
def asyncOne : AsyncCause := { cause := 0x18, addr := 0x20000, lane := 3 }
def asyncState : State := base.withG fun g => { g with async := [asyncOne] }
theorem wit_async : base.curOk = true ∧ CanTrap base ∧ (asyncState.grp 0).asyncTarget asyncOne = some 0 ∧
    (asyncState.grp 0).asyncReady 0 = true ∧ (asyncState.ctx (asyncState.grp 0).who.ctx).trapBase ≠ 0 ∧ (asyncState.grp 0).live? = true ∧
    (asyncState.core (asyncState.grp 0).coreIx).active = (asyncState.grp 0).who.cslot := by decide +kernel
/-- The context is in slot 0 while slot 1 is the active one. -/
def asyncAway : State := asyncState.updCore 0 fun k => { k with active := 1 }
theorem wit_async_away : (asyncAway.grp 0).async = [asyncOne] ∧ (asyncAway.grp 0).asyncTarget asyncOne = some 0 ∧
    (asyncAway.grp 0).live? = true ∧ (asyncAway.grp 0).asyncReady 0 = true ∧
    (asyncAway.core (asyncAway.grp 0).coreIx).active ≠ (asyncAway.grp 0).who.cslot := by decide +kernel
/-- A second range, not pinned, read only or writable, with a load of a line of it parked. -/
def paged (w : Bool) : State :=
  base.updC 0 fun c =>
    { c with maps := c.maps ++ [{ va := 0x40000, len := 0x20000, r := true, w := w, x := false, pin := false, pages := [] }] }
def parkedAccess (kind : AccKind) (va : Nat) : Access :=
  { addAtom with kind := kind, lanes := [{ lane := 0, va := va, data := 7, cmp := 0 }] }
def parkedAt (w : Bool) (kind : AccKind) : State := (paged w).accessHere (parkedAccess kind 0x40100) 1 0
theorem wit_page_fault :
    ((parkedAt true .load).spl who0).parked.any (fun p => p.acc.rkind == 0 &&
      p.faults.map (fun f => (f.line, f.read, f.write, f.resolved, f.refused)) == [(0x40100, true, false, false, false)]) ∧
    (((parkedAt true .load).openRecord who0).any fun x => x.2.line == 0x40100) ∧ (parkedAt true .load).servedNext who0 = true ∧
    ((parkedAt true .load).spl who0).parked = ((parkedAt true .load).openRecord who0).map (·.1) ∧
    (parkedAt true .load).xlate 0 0x40100 .r = .absent ∧ ((parkedAt true .load).takeFrames 1 false).isSome ∧
    Memory.wf ((parkedAt true .load).ctx 0).backing = true ∧
    ((parkedAt false .store).spl who0).parked.any (fun p => p.faults.length == 1) ∧
    (parkedAt false .store).xlate 0 0x40100 .w = .readOnly ∧ (parkedAt false .store).servedNext who0 = true ∧
    ((parkedAt false .store).openRecord who0).any (fun x => x.2.line == 0x40100 && x.2.write && !x.2.read) ∧
    ((parkedAt true (.atom 0)).openRecord who0).any (fun x => x.2.read && x.2.write) ∧
    (parkedAt true (.atom 0)).xlate 0 0x40100 .w = .absent := by decide +kernel
/-- Two words of an absent page; one in the last word of a page and one past it. -/
def absentRec (base' : Word) : State := ((scrOf false).updC 0 fun c =>
  { c with maps := c.maps ++ [{ va := 0x40000, len := 0x20000, r := true, w := true, x := false, pin := false, pages := [] }] }).withS
    [(8, base'), (10, 0x100)]
/-- What an access of the lanes of a row's instruction leaves for its fault records. -/
def rowLeft (e : (EMem → Instr) × (EMem → AccKind) × Bool × Bool) (s : State) : Nat :=
  let v := s.serve 0 { memAccess (rowOps e) (e.2.1 (rowOps e)) 0 (if e.2.2.2 then 64 else 4) with lanes := (rowLanes e (rowOps e) s).getD [] }
  if v.poison = 0 then (v.pend ++ v.refused).length else 0
theorem wit_absent_pages : deviceRows.all (fun e => rowRuns e (rowOps e) (absentRec 0x40100) 0 && rowLeft e (absentRec 0x40100) == 2) = true ∧
    rowRuns (.vld, fun _ => .load, false, false) mo (absentRec 0x1FFFC) 0 = true ∧ rowLeft (.vld, fun _ => .load, false, false) (absentRec 0x1FFFC) = 1 ∧
    (absentRec 0x1FFFC).me.freeEntry = some 1 ∧ (absentRec 0x40100).recordsFree [0x40100] = true := by decide +kernel
theorem wit_absent_scalar : (scalarMemRows.filter fun e => !e.2.2).all (fun e => let o := soOf (e.2.1 (s64 0 0 0 0 0)) false
    decide (Runs (toIWord (e.1 o)) (absentRec 0x40100))) = true ∧
    (absentRec 0x40100).xlate 0 0x40100 .r = .absent ∧ (absentRec 0x40100).xlate 0 0x40100 .w = .absent := by decide +kernel
/-- The same once the page fault has been served. -/
def servedState : State := outcomeState base (execPageFaultService 0 0 (parkedAt true .load))
theorem wit_replay :
    ((servedState.spl who0).parked.any fun p => p.acc.lanes.length == 1 && p.faults.all (fun f => f.resolved && !f.refused) &&
      ((servedState.findOp 0 p.op).any fun op => op.holders == [0] && op.vwrites.isEmpty && op.swrites.isEmpty) &&
      cleanServe (servedState.serve 0 p.acc)) = true ∧
    (servedState.spl who0).st = .parked ∧ servedState.cur = who0 ∧ (servedState.ctx 0).drawer ≠ some who0 := by decide +kernel
/-- A store that L1 holds, and one that the cluster cache holds. -/
def dirtyL1 : State := (base.storeSector 0 (vkey 0 0x10100) 15 0x01020304 0 0).1
def dirtyCC : State := (base.storeSector 0 (vkey 0 0x10100) 15 0x01020304 3 0).1
theorem wit_eviction : cacheWays (dirtyL1.cl 0) = true ∧ (dirtyL1.l1At 0 (vkey 0 0x10100)).dirty = 15 ∧
    (dirtyCC.ccAt 0 (vkey 0 0x10100)).dirty = 15 ∧ (dirtyCC.flushCC 0 (vkey 0 0x10100)).2 = true ∧ 0 < dirtyCC.ctxs.length ∧
    0 < dirtyCC.cores.length ∧ 0 < dirtyCC.clusters.length ∧ (dirtyL1.core 0).protects (vkey 0 0x10100) = false ∧
    (dirtyL1.l1At 0 (vkey 0 0x10100)).dirty &&& 1 ≠ 0 ∧ (dirtyL1.l1At 0 (vkey 0 0x10100)).dirty &&& 16 = 0 ∧
    (dirtyCC.ccAt 0 (vkey 0 0x10100)).dirty &&& 1 ≠ 0 ∧ (dirtyCC.ccAt 0 (vkey 0 0x10100)).dirty &&& 16 = 0 := by decide +kernel
/-- The line of the sector is marked `.keep`. -/
def keptL1 : State := dirtyL1.updCore 0 fun k => { k with keep := [vkey 0 0x10100 / 4] }
theorem wit_eviction_kept : (keptL1.core 0).protects (vkey 0 0x10100) = true := by decide +kernel

/-! ## Witnesses: texture, matrix and copy -/

/-- A heap of a 4 by 4 texture of one level and layer, whose texels read as 0, and a null entry. -/
def texState : State :=
  (base.updC 0 fun c => { c with heapBase := 0x10200, heapN := 2 }).withMem 0x200
    [0x10300, 0, 0x00030003, 0, 0, 0, 0, 0x20000000]
/-- Entry 0 by inline code, into v8 from v4. -/
def texO : EEng := eeng 8 4 464 0 0 0 0
def texQ : EEng := eeng 8 0 464 4 0 0 0
def texEnts (o : EEng) : State × List (Nat × TexEntry) × Option (Nat × Nat) := texState.texEntries (texState.execMask o.pe o.pi.toNat o.pn) (texState.texIndex o)
def texClean (v : TexServed) : Bool := v.poison == 0 && v.pend.isEmpty && v.refused.isEmpty
theorem wit_texture_entries : (texEnts texO).2.2 = none ∧ (texEnts texQ).2.2 = none ∧ texState.my.xc < 63 ∧
    texState.execMask texO.pe texO.pi.toNat texO.pn ≠ 0 ∧ texState.execMask texQ.pe texQ.pi.toNat texQ.pn ≠ 0 ∧
    ((texEnts texO).2.1.all fun x => entryKind x.2.1 == .texture) = true ∧
    ((List.range 32).all fun l => entryKind (entryOf (texEnts texQ).2.1 l) == .texture) = true := by decide +kernel
theorem wit_texture_runs : Runs (.eng 0x10 texO) texState ∧ Runs (.eng 0x12 texO) texState ∧ Runs (.eng 0x11 texO) texState ∧
    Runs (.eng 0x13 texQ) texState ∧ Runs (.eng 0x14 (eeng 0 0 464 8 0 0 0)) texState ∧ (texState.heapEntry 0).2.2 = none := by
  decide +kernel
/-- TFETCH where entry 0 is a linear buffer of 64 bytes: lane l asks for word l; with OOBTRAP it traps. -/
def bufTex (hi : Word) : State :=
  (texState.withV 4 fun l => BitVec.ofNat 32 l).withMem 0x200 [0x10000, hi, 64, 0, 0, 0, 0, 0x10000000]
def bufEnts (s : State) : State × List (Nat × TexEntry) × Option (Nat × Nat) := s.texEntries 0xFFFFFFFF (s.texIndex texO)
def bufWords (s : State) : List FetchWord := (bufEnts s).1.fetchWords texO 0xFFFFFFFF (bufEnts s).2.1
theorem wit_fetch_buffer : Runs (.eng 0x11 texO) (bufTex 0) ∧ (bufEnts (bufTex 0)).2.2 = none ∧
    ((bufEnts (bufTex 0)).1.texReject (bufEnts (bufTex 0)).2.1 true).isNone = true ∧ fetchChecks (bufWords (bufTex 0)) = none ∧
    (((bufEnts (bufTex 0)).1.fetchMap ((bufWords (bufTex 0)).filter (·.inside))).2.toOption.map fun l => l.length) = some 16 ∧
    ((bufWords (bufTex 0)).all fun w => (parseRec [0x10000, 0, 64, 0]).2.isNone && w.r.kind == 0) = true := by decide +kernel
theorem wit_fetch_traps : Runs (.eng 0x11 texO) (bufTex 0x80000000) ∧
    fetchChecks (bufWords (bufTex 0x80000000)) = some (0x12, 0xFFFF0000) ∧ CanTrap (bufEnts (bufTex 0x80000000)).1 := by decide +kernel
theorem wit_fetch_serves : texClean ((texEnts texO).1.texServe 0 (texReq 0x11 texO)
    ((lanesOf (texState.my).mask).filterMap fun l =>
      (fetchTexel (texReq 0x11 texO) (entryOf (texEnts texO).2.1 l) ((texEnts texO).1.texCoords texO l)).map fun a => (l, a))) = true := by
  decide +kernel
/-- TSAMPLE of one lane: its coordinates and level are fixed, so no free value is looked at. -/
def texOne : State := texState.withSp fun sp => { sp with mask := 1 }
def oneEnts : State × List (Nat × TexEntry) × Option (Nat × Nat) := texOne.texEntries (texOne.execMask false 0 false) (texOne.texIndex texO)
theorem wit_sample_serves : oneEnts.2.2 = none ∧
    texClean (({ oneEnts.1 with fresh := oneEnts.1.fresh + 64 } : State).texServe 0 (texReq 0x10 texO)
      (oneEnts.1.filterAsks texO oneEnts.1.fresh [0] oneEnts.2.1)) = true ∧
    texClean (({ oneEnts.1 with fresh := oneEnts.1.fresh + 64 } : State).texServe 0 (texReq 0x12 texO)
      (oneEnts.1.filterAsks texO oneEnts.1.fresh [0] oneEnts.2.1)) = true := by decide +kernel

/-- 64 KiB of scratchpad, tile 0 bound, the format block of F16 by F16 in s16 to s19. -/
def matState : State :=
  (((base.updB 0 fun b => { b with scratch := 65536, scrLen := 16 }).updCl 0 fun c =>
    { c with tiles := c.tiles.set 0 { Tile.reset with owner := some 0 } }).withS [(18, 5), (21, 0x10000)])
def mmaO : EEng := eeng 0 0 464 16 464 0 0
def mrdO : EEng := eeng 4 0 464 0 464 0 0
def storeO : EEng := eeng 0 0 464 0 464 0 0
theorem wit_mma : Runs (.eng 0x20 mmaO) matState ∧ matState.ownsTile 0 = true ∧ fblockOk (matState.readSs matState.cur 16 4) = true ∧
    matState.mmaInside (matState.readSs matState.cur 16 4) false (matState.one 464).toNat (wfield (matState.one 464) 15 0) = true ∧
    StoresDone matState ∧ SequenceMatches matState mmaO 0 := by decide +kernel
theorem wit_mzero : Runs (.eng 0x21 (eeng 0 0 0 464 464 0 0)) matState ∧ (matState.one 464).toInt = 0 ∧
    SequenceMatches matState (eeng 0 0 0 464 464 0 0) 0 ∧ Runs (.eng 0x21 (eeng 0 0 0 16 464 1 0)) matState := by decide +kernel
/-- Tile 0 has accepted a command in this cycle. -/
def takenTile : State := matState.updCl 0 fun c => { c with tiles := c.tiles.modify 0 fun t => { t with acceptAt := 1 } }
theorem wit_mzero_held : Runs (.eng 0x21 (eeng 0 0 0 464 464 0 0)) takenTile ∧ takenTile.ownsTile 0 = true ∧
    (takenTile.one 464).toInt = 0 ∧ (takenTile.tile takenTile.curCluster 0).acceptAt = takenTile.dev.cycle + 1 := by decide +kernel
theorem wit_mrd : Runs (.eng 0x22 mrdO) matState ∧ eImm mrdO 5 3 = 0 ∧ matState.execMask mrdO.pe mrdO.pi.toNat mrdO.pn ≠ 0 ∧
    SequenceMatches matState mrdO 0 ∧ eImm mrdO 2 0 ≠ 7 ∧ matState.my.vmc < 63 := by decide +kernel
theorem wit_mst_mld : Runs (.eng 0x23 storeO) matState ∧ Runs (.eng 0x24 storeO) matState ∧
    (matState.tilePlace storeO false true (mstBytes 0 (matState.one 0))).toOption = some 0 ∧
    (matState.tilePlace storeO false false 16384).toOption = some 0 := by decide +kernel
theorem wit_versions : Runs (.eng 0x25 (eeng 0 0 0 20 0 0 0)) matState ∧ Runs (.eng 0x25 (eeng 0 0 0 20 0 1 0)) matState ∧
    (matState.tile 0 0).anchor = 0 ∧ Runs (.eng 0x26 (eeng 0 0 0 0 464 0 0)) matState ∧
    Runs (.eng 0x26 (eeng 0 0 0 0 21 0 0)) matState ∧ wfield (matState.one 21) 31 16 = 1 ∧ wfield (matState.one 464) 31 16 = 0 := by
  decide +kernel
/-- Tile 0 at version 5; of no context; the queue full. -/
def tileTv (n : Nat) : State := matState.updCl 0 fun c => { c with tiles := c.tiles.modify 0 fun t => { t with tv := n } }
def tileAway : State := matState.updCl 0 fun c => { c with tiles := c.tiles.modify 0 fun t => { t with owner := none } }
def matFull : State := matState.updCl 0 fun c => { c with matq := List.replicate 32 default }
def matOps : List (Instr × Nat × EEng) :=
  [(.mma mmaO, 0x20, mmaO), (.mzero (eeng 0 0 0 464 464 0 0), 0x21, eeng 0 0 0 464 464 0 0), (.mrd mrdO, 0x22, mrdO), (.mst storeO, 0x23, storeO),
   (.mld storeO, 0x24, storeO)]
theorem wit_matrix_versions : ∀ e ∈ matOps, Runs (.eng e.2.1 e.2.2) (tileTv 5) ∧ Runs (.eng e.2.1 e.2.2) takenTile ∧ Runs (.eng e.2.1 e.2.2) matFull ∧
    Runs (.eng e.2.1 e.2.2) tileAway ∧ Runs (.eng e.2.1 { e.2.2 with sc := 21 }) matState := by decide +kernel
theorem wit_matrix_distances : (BitVec.ofNat 16 (wfield ((tileTv 5).one 464) 31 16) - BitVec.ofNat 16 ((tileTv 5).tile 0 0).tv).toNat = 65531 ∧
    (BitVec.ofNat 16 (wfield (matState.one 21) 31 16) - BitVec.ofNat 16 (matState.tile 0 0).tv).toNat = 1 ∧ tileAway.ownsTile 0 = false ∧
    (tileTv 5).ownsTile 0 = true ∧ ((tileTv 5).tile 0 0).acceptAt ≠ (tileTv 5).dev.cycle + 1 ∧ 32 ≤ (matFull.cl matFull.curCluster).matq.length ∧
    CanTrap (tileTv 5) ∧ eImm mrdO 2 0 ≠ 7 := by decide +kernel
/-- A granted range of the weight store in READ mode; 128 KiB of scratchpad, a record of 96 KiB in s8 to s11, format words in s24 and s25. -/
def matWs : State := { (matState.updC 0 fun c => { c with grants := [(0, 0x200000)] }) with dev := { matState.dev with wsLoad := false, tick := 30 } }
def mmaW : EEng := { mmaO with sub := 0xC }
def placeState : State := (matState.withS [(8, 0x10000), (10, 0x18000), (24, 0x000147C8), (25, 0x000101A4), (27, 0x700)]).updB 0 fun b =>
  { b with scratch := 131072, scrLen := 32 }
def mstPlaces (sub : BitVec 6) (sa sb : BitVec 9) : Bool :=
  let o := eeng 0 0 sa sb 27 sub 0
  let w := placeState.one o.sb.toNat
  decide (Runs (.eng 0x23 o) placeState) && (placeState.tilePlace o (nbit o.sub.toNat 4) true (mstBytes (eSub o 2 0) w)).toOption.isSome &&
    (eSub o 2 0 != 4 || fmtValid w && (FmtWord.ofWord w).blk == 0) && placeState.inScratch (wfield (placeState.one o.sc.toNat) 15 0 * 64) 4
def mldPlaces (sub : BitVec 6) (sa sb : BitVec 9) : Bool :=
  let o := eeng 0 0 sa sb 464 sub 0
  decide (Runs (.eng 0x24 o) placeState) &&
    (placeState.tilePlace o (nbit o.sub.toNat 2) false (if nbit o.sub.toNat 0 then 98304 else 16384)).toOption.isSome
theorem wit_matrix_places : Runs (.eng 0x20 mmaW) matWs ∧ matWs.mmaGap (matWs.readSs matWs.cur 16 4) 0 = none ∧
    matWs.mmaInside (matWs.readSs matWs.cur 16 4) true 0 0 = true ∧
    [(0, 464, 0), (1, 464, 0), (2, 464, 0), (3, 464, 0), (4, 464, 24), (4, 464, 25), (5, 464, 0), (0x10, 8, 0), (0x15, 8, 0), (0x28, 464, 0)].all
      (fun x => mstPlaces x.1 x.2.1 x.2.2) = true ∧ (placeState.one 467).toInt = 3 ∧
    [(0, 464, 0), (1, 464, 0), (8, 464, 467), (6, 8, 0)].all (fun x => mldPlaces x.1 x.2.1 x.2.2) = true := by decide +kernel
/-- Each command alone in the queue of cluster 0. -/
def queued (m : MatCmd) : State := matState.updCl 0 fun c => { c with matq := [m] }
def mzeroM : MatCmd := { matState.matCmd .mzero 0 storeO with anchor := some 3 }
def mmaM : MatCmd := { matState.matCmd .mma 0 mmaO with fmt := matState.readSs matState.cur 16 4 }
def mstM : MatCmd := { matState.matCmd .mst 0 storeO with fmt := [0] }
theorem wit_matrix_performs : 0 < (matState.cl 0).tiles.length ∧ ((queued mzeroM).cl 0).matq = [mzeroM] ∧ mzeroM.anchor = some 3 ∧
    mmaM.kind = .mma ∧ nbit mmaM.sub 2 = false ∧ nbit mmaM.sub 3 = false ∧ ((queued mmaM).cl 0).spoison = [] ∧ mstM.snapshot = none ∧
    mstM.sub % 8 = 0 ∧ nbit mstM.sub 4 = false ∧ mstM.cw = none ∧ (matState.tile 0 0).poison = [] ∧ mstM.mode ≠ 6 ∧
    mstM.kind = .mst ∧ (queued mmaM).mustWait mmaM.ctx = false := by decide +kernel
/-- MMA with A in the weight store; an MST and an MLD of a record: what they read and write is present. -/
def mmaWM : MatCmd := { matWs.matCmd .mma 0 mmaW with fmt := matWs.readSs matWs.cur 16 4 }
def mstMem : MatCmd := { placeState.matCmd .mst 0 (eeng 0 0 8 0 464 0x14 0) with addr := 0x10000, fmt := [0x000101A4] }
def mldMem : MatCmd := { placeState.matCmd .mld 0 (eeng 0 0 8 0 464 4 0) with addr := 0x10000 }
theorem wit_matrix_performs_afar : matWs.wsReadable (mmaWM.locA * 4096) (operandBytes (fblockA mmaWM.fmt) (wordAt mmaWM.fmt 0) (fblockK mmaWM.fmt)) = true ∧
    matWs.dev.wsPoison = [] ∧ nbit mmaWM.sub 2 = true ∧ nbit mmaWM.sub 3 = true ∧ nbit mstMem.sub 4 = true ∧
    ((placeState.matLeave 0 0 mstMem).engineWrite 0 0x10000 (List.replicate 64 1)).2 = none ∧ nbit mldMem.sub 2 = true ∧
    ((placeState.matLeave 0 0 mldMem).engineRead 0 0x10000 16384).2.2 = none ∧
    ((placeState.matLeave 0 0 mldMem).engineRead 0 0x10000 16384).1.clusters = (placeState.matLeave 0 0 mldMem).clusters := by decide +kernel
/-- An MRD accepted. -/
def mrdDone : State := outcomeState base (execMrd mrdO matState)
theorem wit_mrd_performs : (match (mrdDone.cl 0).matq with
    | [m] => m.kind == .mrd && m.snapshot.isNone && (mrdDone.findOp m.group m.op).any fun op => op.vwrites.isEmpty && op.swrites.isEmpty
    | _ => false) = true := by decide +kernel

/-- A source of 128 bytes at 0x10100, a destination of 128 bytes at 0x200, the control words in s24 to s31. -/
def copyState (src : Word) (ctl : List (Nat × Word)) : State :=
  matState.withS ([(8, 0x10100), (9, src), (10, 128), (12, 0x200), (14, 128)] ++ ctl)
def copyCase (op : Nat) : State × EEng :=
  match op with
  | 0x31 => (copyState 0 [(26, 5), (30, 1)], eeng 0 0 8 12 24 0 0)
  | 0x32 => (copyState 0 [(24, 0x10040), (26, 1)], eeng 0 0 8 12 24 0 0)
  | 0x33 => (copyState 0 [(24, 0x10001), (25, 64), (27, 8)], eeng 0 0 8 12 24 0 0)
  | 0x34 => (copyState 0 [(24, 0x10001), (25, 64), (27, 8)], eeng 0 0 8 12 24 0 0)
  | 0x35 => (copyState 0x03000000 [], eeng 0 0 8 12 465 0 0)
  | _ => (copyState 0 [], eeng 0 0 8 12 465 0 0)
def copyCheck (op : Nat) : Bool :=
  let (s, o) := copyCase op
  let m := s.copyCmd op o
  let src := (parseRec m.src).1
  let dst := (parseRec m.dst).1
  decide (Runs (.eng op o) s) && decide (parseRec m.src = (src, none)) && decide (parseRec m.dst = (dst, none)) &&
    decide (m.opcode = 0x31 → s.ownsTile m.tile = true) && copyKinds m.opcode m.sub src dst && copyGeometry m.opcode m.ctl &&
    !dst.rdonly && dst.kind != 6 && (m.opcode != 0x31 || fblockOk (m.ctl.take 4)) && s.copyInside m src dst &&
    (copyReads m.opcode m.ctl).all src.aligned && (copyWrites m.opcode m.ctl).all dst.aligned &&
    (m.opcode != 0x32 || addr56 m.ctl 0 % 16 == 0) && s.copyGap m src == none
theorem wit_copies : (∀ e ∈ copyRows, copyCheck e.2 = true) ∧ StoresDone matState ∧ matState.my.xc < 63 := by decide +kernel
/-- A CPY in the port of cluster 0; one within the scratchpad in the queue; a CPYM's offer. -/
def inPort : State := outcomeState base (execCpy (copyCase 0x30).2 (copyCase 0x30).1)
theorem wit_copy_acceptance : ((inPort.nextPort 0).any fun m => (inPort.findOp m.group m.op).any fun p =>
    p.holders == [0] && p.ctr == .xc && p.vwrites.isEmpty && p.swrites.isEmpty) = true ∧ (inPort.cl 0).copyq.length < 16 := by
  decide +kernel
def scratchCopy : CopyCmd := (matState.withS [(10, 128), (12, 0x200), (14, 128)]).copyCmd 0x30 (eeng 0 0 8 12 465 3 0)
theorem wit_copy_performs : nbit scratchCopy.sub 0 = true ∧ nbit scratchCopy.sub 1 = true ∧ nbit scratchCopy.sub 2 = false ∧
    (parseRec scratchCopy.src).2 = none ∧ (parseRec scratchCopy.src).1.kind = 0 ∧ (parseRec scratchCopy.dst).2 = none ∧
    (parseRec scratchCopy.dst).1.kind = 0 ∧ (matState.cl 0).spoison = [] ∧ copyLen 0x30 scratchCopy.ctl = 64 ∧
    (matState.updCl 0 fun c => { c with copyq := [scratchCopy] }).copyReady 0 0 scratchCopy = true := by decide +kernel
def offerM : CopyCmd := (copyCase 0x31).1.copyCmd 0x31 (copyCase 0x31).2
def offered (s : State) (l : List CopyCmd) : State := s.updCl 0 fun c => { c with offers := l }
theorem wit_offer : ((offered matState [offerM]).cl 0).offers[0]? = some offerM ∧
    ((offered matState [offerM]).offersNow 0).head?.map (·.1) = some 0 ∧ offerM.follow.e = (matState.tile 0 offerM.tile).tv ∧
    offerM.tile < (matState.cl 0).tiles.length ∧ ((offered (tileTv 5) [offerM]).offersNow 0).head?.map (·.1) = some 0 ∧
    (offered (tileTv 5) [offerM]).offerDist 0 offerM ≠ 0 ∧ ((tileTv 5).grp offerM.group).live = true := by decide +kernel
/-- Each case's command alone in the queue, with 128 bytes at 0x10200 as the destination but for CPYM. -/
def copyM (op : Nat) : CopyCmd :=
  let m := (copyCase op).1.copyCmd op (copyCase op).2
  if op = 0x31 then m else { m with dst := [0x10200, 0, 128, 0] }
def queuedCopy (s : State) (m : CopyCmd) : State := s.updCl 0 fun c => { c with copyq := [m] }
def copyQueued (op : Nat) : State := queuedCopy (copyCase op).1 (copyM op)
/-- The state after the payload, where nothing stops it. -/
def copyMoved (s : State) (m : CopyCmd) : Option State :=
  let (u, rows, e) := s.payReadAll 0 m (parseRec m.src).1 (copySsp m.opcode m.sub) (copyReads m.opcode m.ctl)
  let (w, e2) := u.payWrite 0 m (parseRec m.dst).1 (copyDsp m.opcode m.sub) (copyOutputs m.opcode m.ctl rows)
  if e.isNone && e2.isNone then some w else none
theorem wit_copy_first : (∀ e ∈ copyRows, (copyQueued e.2).copyReady 0 0 (copyM e.2) = true ∧ (copyM e.2).opcode = e.2 ∧
    (copyM e.2).landed = false ∧ (parseRec (copyM e.2).src).2 = none ∧ (parseRec (copyM e.2).dst).2 = none) ∧
    (∀ op ∈ [0x30, 0x31, 0x33, 0x34], (copyMoved (copyQueued op) (copyM op)).any (fun w => w.clusters.length == 24) = true) := by decide +kernel
/-- The state after the payload of a CPUB to an object with a SCOPE. -/
def published (scope : Word) : State :=
  (copyMoved (queuedCopy ((copyCase 0x32).1.withMem 0x40 [7, scope, 0, 0]) (copyM 0x32)) (copyM 0x32)).getD base
theorem wit_publish : addr56 (copyM 0x32).ctl 0 = 0x10040 ∧ (published 3).xlate 0 0x10040 .r = .ok 0x40 ∧
    ((published 3).syncObj 0 0x10040).2.toOption.map (fun x => (x.rseq, x.scope)) = some (7, 3) ∧
    ((published 3).writeHomeVA 0 0x10040 (leBytes 4 8 ++ leBytes 4 3 ++ leBytes 8 0x10200)).isSome = true ∧
    (match ((published 0).syncObj 0 0x10040).2 with | .error e => e.1 | _ => 0) = 2 := by decide +kernel
/-- A CPY from outside every mapping. -/
def lostM : CopyCmd := { copyM 0x30 with src := [0x90000000, 0, 128, 0] }
theorem wit_copy_fails : (queuedCopy matState lostM).copyReady 0 0 lostM = true ∧
    ((queuedCopy matState lostM).copyPayload 0 lostM).2 = some (0x1A, 0x90000000) ∧
    (queuedCopy matState lostM).payReadAll 0 lostM (parseRec lostM.src).1 (copySsp lostM.opcode lostM.sub) (copyReads lostM.opcode lostM.ctl) =
      (queuedCopy matState lostM, [[]], some (0x1A, 0x90000000)) := by decide +kernel
theorem wit_copy_fails_live : (((queuedCopy matState lostM).copyPayload 0 lostM).1.grp lostM.group).live = true := by
  unfold State.copyPayload
  rw [show (parseRec lostM.src) = ((parseRec lostM.src).1, (parseRec lostM.src).2) from rfl]
  simp only [wit_copy_fails.2.2]
  have h : copyOutputs lostM.opcode lostM.ctl [[]] = [] := by decide +kernel
  simp only [show ((some ((0x1A, 0x90000000) : EngineFault)).isSome && lostM.opcode == 0x33) = false by decide +kernel, Bool.false_eq_true,
    if_false, h, List.take_nil]
  decide +kernel
/-- A CPREM that reads a window, one that writes it, and one that has sent its requests, with one left and with none. -/
def windowed : State := matState.updC 0 fun c =>
  { c with windows := [{ va := 0x80000, len := 0x10000, kind := 3, r := true, w := true, x := false, q := 1, remote := 0x500 }] }
def remIn : CopyCmd := { copyM 0x35 with src := [0x80000, 0x03000000, 128, 0] }
def remOut : CopyCmd := { copyM 0x35 with src := [0x10200, 0, 128, 0], dst := [0x80000, 0x03000000, 128, 0] }
def remSent : CopyCmd := { remIn with landed := true }
theorem wit_copy_remote : (∀ m ∈ [remIn, remOut, remSent], (queuedCopy windowed m).copyReady 0 0 m = true ∧ (parseRec m.src).2 = none ∧
      (parseRec m.dst).2 = none ∧ m.opcode = 0x35) ∧ (parseRec remIn.src).1.kind = 3 ∧ (parseRec remOut.dst).1.kind = 3 ∧
    (windowLines (parseRec remIn.src).1 (copyLen 0x35 remIn.ctl)).all (fun x => ((windowed.ctx 0).window 3 x.2.1 .r).isSome &&
      ((windowed.ctx 0).window 3 x.2.1 .w).isSome) = true ∧ windowed.up = true ∧ windowed.winReqs = [] ∧
    ((queuedCopy windowed remOut).payReadAll 0 remOut (parseRec remOut.src).1 false [(0, copyLen 0x35 remOut.ctl)]).2.1.map (·.length) = [64] ∧
    ((outcomeState base (execCopyCommandCompletion 0 0 (queuedCopy windowed remIn))).winReqs.any fun q => q.use == .copy 0 remIn.order) = true := by
  decide +kernel

/-! ## Witnesses: views, strips and rays -/

/-- A set of one view of 64 by 64 pixels and one strip of 64 rows, bound to context 0 as the group's set 0. -/
def viewBase : View := { fovx := 1, fovy := 1, dgx := 512, dgy := 512, codes := 0, m := [], lens := [], route := [], gaze := none }
def warpBase : Warp := viewBase.latch 64 64 64 (512, 512) true
def stripBase : Strip :=
  { st := .idle, latch := 0, dl := 0, stale := false, gzseq := 0,
    views := [{ emitted := false, last := none, fseq := 0, due := [], warp := warpBase }] }
def setBase : ViewSet := { ViewSet.reset with ctx := some 0, w := 64, h := 64, sh := 64, views := [viewBase], strips := [stripBase] }
def viewState (st : StripState) : State :=
  base.updSet 0 fun _ => { setBase with strips := [{ stripBase with st := st }] }
def setOf (st : StripState) : ViewSet := { setBase with strips := [{ stripBase with st := st }] }
def latchO : EEng := eeng 0 0 464 4 0 0 0
theorem wit_gzlatch : Runs (.eng 0x40 latchO) (viewState .idle) ∧ HasSet (viewState .idle) 0 (setOf .idle) ∧
    HasSet (viewState .latched) 0 (setOf .latched) ∧ Runs (.eng 0x40 latchO) (viewState .latched) ∧
    ((viewState .idle).one 464).toNat = 0 ∧ 0 < (setOf .idle).nstrip ∧ ((setOf .idle).strip 0).st = .idle ∧
    ((setOf .latched).strip 0).st ≠ .idle := by decide +kernel
theorem wit_vwarp : Runs (.eng 0x41 (eeng 8 4 464 0 0 0 0)) (viewState .latched) ∧
    Runs (.eng 0x41 (eeng 8 4 464 464 0 1 0)) (viewState .latched) ∧ Runs (.eng 0x41 (eeng 8 0 464 464 0 2 0)) (viewState .latched) ∧
    0 < (setOf .latched).nviews ∧ (viewState .latched).execMask false 0 false ≠ 0 := by decide +kernel
/-- The triangles (0,0), (256,0), (0,256), its reverse and a point, in s8 to s14; one too far away. -/
def triState (x1 y1 x2 y2 : Word) : State := (viewState .latched).withS [(10, x1), (11, y1), (12, x2), (13, y2)]
def triO (mode : BitVec 6) : EEng := eeng 0 0 8 4 0 mode 0
def triArea (s : State) : Int :=
  let w := s.readSs s.cur 8 7
  let x (j : Nat) : Int := (wordAt w (2 * j)).toInt
  let y (j : Nat) : Int := (wordAt w (2 * j + 1)).toInt
  (x 1 - x 0) * (y 2 - y 0) - (x 2 - x 0) * (y 1 - y 0)
/-- A vertex lies on either side of some position (R343). -/
def meetsAt (ps : List (Nat × Nat)) (v : List Int) : Bool :=
  ps.any fun p => (v.any fun x => decide (x ≤ (p.1 : Int))) && v.any fun x => decide ((p.1 : Int) ≤ x)
theorem wit_rtri_inside : triArea (triState 0x2000 0 0 0x2000) ≠ 0 ∧ meetsAt ((setOf .latched).warp 0 0).cols [0, 0x2000, 0] = true ∧
    meetsAt (((setOf .latched).warp 0 0).rows 0) [0, 0, 0x2000] = true ∧ Runs (.eng 0x42 (triO 0)) (triState 0x2000 0 0 0x2000) ∧
    triArea (triState 1 0 0 1) = 1 ∧ meetsAt ((setOf .latched).warp 0 0).cols [0, 1, 0] = false ∧
    Runs (.eng 0x42 (triO 0)) (triState 1 0 0 1) := by decide +kernel
theorem wit_rtri : Runs (.eng 0x42 (triO 0)) (triState 0x100 0 0 0x100) ∧ triArea (triState 0x100 0 0 0x100) = 0x10000 ∧
    Runs (.eng 0x42 (triO 1)) (triState 0 0x100 0x100 0) ∧ triArea (triState 0 0x100 0x100 0) = -0x10000 ∧
    triArea (triState 0 0 0 0) = 0 ∧ HasSet (triState 0 0 0 0) 0 (setOf .latched) ∧ (setOf .latched).viewStrip 0 = some (0, 0) ∧
    (wordAt ((triState 0x8000000 0 0 0).readSs base.cur 8 7) 2).toInt.natAbs = 2 ^ 27 ∧ (triState 0 0 0 0).me.tris.length = 4 := by
  decide +kernel
/-- The slot after RTRI, and a walk of it from the start. -/
def triDone : State := outcomeState base (execRtri (triO 0) (triState 0x2000 0 0 0x2000))
theorem wit_rwalk : (triDone.me.tris.getD 0 emptySlot).ready = true ∧ Runs (.eng 0x43 (eeng 8 0 464 4 0 0 0)) triDone ∧
    triDone.my.xc < 63 ∧ wfield (triDone.one 464) 30 29 = 0 ∧ wfield (triDone.one 464) 15 13 = 0 := by decide +kernel
/-- A tile of 64 columns in the scratchpad, in s8 to s11; the payload record of TEMIT. -/
def tileState : State :=
  ((viewState .latched).updB 0 fun b => { b with scratch := 65536, scrLen := 16 }).withS [(8, 0), (9, 0x02000000), (10, 4096), (11, 0x30060000)]
def lresO : EEng := eeng 8 4 8 464 0 0 0
theorem wit_lres : Runs (.eng 0x44 lresO) tileState ∧ HasSet tileState 0 (setOf .latched) ∧ (tileState.recAt 8).2 = none ∧
    (tileState.recAt 8).1.kind = 2 ∧ (tileState.recAt 8).1.esize = 3 ∧
    (lresAxes (setOf .latched) 0 0 false).1.length ≤ 2 ^ (tileState.recAt 8).1.swzw ∧
    (tileState.recAt 8).1.tileIn (lresAxes (setOf .latched) 0 0 false).2.length tileState.scrSize = true ∧
    (tileState.cl tileState.curCluster).spoison = [] ∧ tileState.my.xc < 63 := by decide +kernel
def emitO : EEng := eeng 0 0 8 464 4 0 0
def emitState (st : StripState) : State := (viewState st).withS [(8, 0x10100), (10, 16384)]
theorem wit_temit : ∀ st ∈ [StripState.latched, .building, .fallback, .idle, .emitted], Runs (.eng 0x45 emitO) (emitState st) ∧
    ((emitState st).recAt 8).2 = none ∧ ((emitState st).recAt 8).1.kind = 0 ∧ 64 * 64 * 4 ≤ ((emitState st).recAt 8).1.extent ∧
    ((emitState st).recAt 8).1.base % 256 = 0 ∧ StoresDone (emitState st) ∧ HasSet (emitState st) 0 (setOf st) := by decide +kernel
/-- Subport 0 of port 0 is up; the only view is due, late and never sent, or with a payload of 1,024 bytes. -/
def dueState (late : Bool) (p : Option Payload) : State :=
  (({ base with ports := { Port.reset with subs := { Subport.reset with up := true } :: List.replicate 3 Subport.reset } ::
      List.replicate 11 Port.reset } : State).updSet 0 fun _ => { setBase with
        w := 16, sh := 16, h := 16
        strips := [{ stripBase with st := .fallback, views := [{ emitted := false, last := p, fseq := 3,
                                                                 due := [{ late := late, fseq := 3, payload := p }], warp := warpBase }] }] })
def payload0 : Payload :=
  { base := 0x10000, ctx := 0, pfmt := 0, fseq := 3, stale := false, gzseq := 0, group := 0, splitMask := 1, pc := 0x10040 }
theorem wit_due : (((dueState true none).subport 0 0).up = true) ∧ ((dueState true none).subport 0 0).paused.getLsbD 0 = false ∧
    ((((dueState true none).set 0).strip 0).views.getD 0 default).due = [{ late := true, fseq := 3, payload := none }] ∧
    ((((dueState false (some payload0)).set 0).strip 0).views.getD 0 default).due.length = 1 ∧
    (dueState false (some payload0)).mustWait 0 = false ∧ ((dueState true none).set 0).releasing = false ∧ (dueState true none).up = true ∧
    routePort ((((dueState true none).set 0).view 0).route) = 0 ∧
    ((dueState false (some payload0)).engineRead 0 0x10000 1024).2.2 = none := by decide +kernel
theorem wit_strip_expiry : (((viewState .latched).set 0).strip 0).st = .latched ∧
    (((viewState .latched).set 0).strip 0).latch + (((viewState .latched).set 0).strip 0).dl ≤ (viewState .latched).dev.tick ∧
    0 < ((viewState .latched).set 0).strips.length := by decide +kernel
/-- A packet of SEQ 5 for one view at port 0; one of three bytes more is not accepted. -/
def gazeWords : List Byte := bytesOf [0x0101475A, 5, 0x01000100]
theorem wit_gaze : (viewState .idle).sets.head?.any (fun v => v.ctx.isSome && v.gzport == 0 && v.accepts gazeWords && v.seq.isNone) = true ∧
    gazeWords.length = 12 ∧ leNat (gazeWords.take 4) % 2 ^ 24 = 0x01475A ∧ leNat (gazeWords.take 4) / 2 ^ 24 = 1 := by decide +kernel

/-- A record of kind 0 in s8; the rays' words are 0 but D.z = 1 and TMAX = 1. -/
def rayBase : State := (base.withS [(8, 0x10100), (10, 64)]).withV 10 (fun _ => 0x3F800000)
def oneRay : State := ((rayBase.withV 11 fun _ => 0x3F800000).withSp fun sp => { sp with mask := 1 }).updCl 0 fun c =>
  { c with spawnOwner := some 0 }
def traceO (sub : BitVec 6) : EEng := eeng 16 4 8 0 (if sub = 2 then 12 else 0) sub 0
theorem wit_rtrace : Runs (.eng 0x50 (traceO 0)) oneRay ∧ Runs (.eng 0x50 (traceO 2)) oneRay ∧ (oneRay.recAt 8).2 = none ∧
    (oneRay.recAt 8).1.kind = 0 ∧ (oneRay.recAt 12).2 = none ∧ (oneRay.recAt 12).1.kind = 0 ∧ oneRay.rayBusy 1 = false ∧
    oneRay.me.rays.length = 32 ∧ oneRay.my.xc < 63 ∧ oneRay.execMask false 0 false = 1 := by decide +kernel
/-- RTRACE.pat of cell (0, 0) of view 0's strip 0; lane 0's ray RUNNING; XC at 63; no lane. -/
def patState : State := { oneRay with sets := (viewState .latched).sets }
def patO : EEng := { traceO 1 with sb := 464 }
def rayRuns : State := oneRay.withG fun g => { g with rays := g.rays.set 0 { emptyRay with st := .running } }
def rayFull : State := oneRay.withSp fun sp => { sp with xc := 63 }
def rayNone : State := oneRay.withSp fun sp => { sp with mask := 0 }
theorem wit_ray_cells : Runs (.eng 0x50 patO) patState ∧ HasSet patState 0 (setOf .latched) ∧ (setOf .latched).viewStrip (patState.one 464) = some (0, 0) ∧
    nbit patO.sub.toNat 0 = true ∧ nbit patO.sub.toNat 1 = false := by decide +kernel
theorem wit_rays_held : rayRuns.rayBusy 1 = true ∧ Runs (.eng 0x51 (eeng 16 0 0 0 0 0 0)) rayRuns ∧ Runs (.eng 0x52 (eeng 0 0 0 0 0 1 0)) rayRuns ∧
    Runs (.eng 0x51 (eeng 16 0 0 0 0 0 0)) rayFull ∧ 63 ≤ rayFull.my.xc ∧ rayFull.execMask false 0 false = 1 ∧
    Runs (.eng 0x50 (traceO 0)) rayNone ∧ Runs (.eng 0x51 (eeng 16 0 0 0 0 0 0)) rayNone ∧ rayNone.execMask false 0 false = 0 := by decide +kernel
/-- Lane 0's ray is at an EVENT with a candidate. -/
def eventRay (d : Nat) : State :=
  oneRay.withG fun g => { g with rays := g.rays.set 0 { emptyRay with st := .event, decision := d, cand := some default } }
theorem wit_rnext : (Runs (.eng 0x51 (eeng 16 0 0 0 0 0 0)) (eventRay 0) ∧ Runs (.eng 0x51 (eeng 16 0 0 0 0 0 0)) (eventRay 1)) ∧
    Runs (.eng 0x52 (eeng 0 0 0 0 0 1 0)) (eventRay 0) := by decide +kernel
theorem wit_events : ([0, 1].all fun d => !(eventRay d).rayBusy 1 && ((eventRay d).me.ray 0).st == .event &&
    ((eventRay d).me.ray 0).decision == d && ((eventRay d).me.ray 0).cand.isSome) = true := by decide +kernel
theorem wit_rspawn : Runs (.eng 0x53 (eeng 16 4 0 0 0 0 0)) oneRay ∧ oneRay.ownsSpawn = true ∧
    rayInvalid (oneRay.ray9 4 0) = false ∧ (oneRay.cl 0).spawn = [] ∧ (∀ g ∈ oneRay.groups, g.ops = []) := by decide +kernel
/-- Two records of an earlier cycle, the second deeper. -/
def poolState : State :=
  (oneRay.updCl 0 fun c => { c with spawn := [(List.replicate 9 0, 8, 0), (List.replicate 8 0 ++ [1], 8, 0)] }).updDev fun d => { d with cycle := 5 }
def popO : EEng := eeng 16 0 0 4 0 0 0
theorem wit_rpop : Runs (.eng 0x54 popO) oneRay ∧ Runs (.eng 0x54 popO) poolState ∧ lanesOf (oneRay.execMask false 0 false) = [0] ∧
    poolState.ownsSpawn = true ∧ ((poolState.cl 0).spawn[1]?.map fun e => rayDepth e.1) = some 1 ∧
    ((poolState.cl 0).spawn[0]?.map fun e => rayDepth e.1) = some 0 ∧ (poolState.cl 0).spawn.length = 2 ∧
    ((poolState.cl 0).spawn.all fun e => decide (e.2.2 < poolState.dev.cycle)) = true := by decide +kernel
/-- An RSPAWN.blk whose lane 0 waits. -/
def spawnWaits : State :=
  oneRay.countOp { oneRay.rayOp .spawn 0x53 (eeng 16 4 0 0 0 0 0) 1 1 with laneArgs := [(0, oneRay.ray9 4 0)] }
theorem wit_spawn_push : (spawnWaits.grp 0).live? = true ∧ ((spawnWaits.grp 0).ops.head?.any fun p => p.kind == .spawn && p.ctr == .xc &&
    p.laneArgs == [(0, oneRay.ray9 4 0)] && p.holders == [0] && p.vwrites.isEmpty && p.swrites.isEmpty) = true ∧
    (spawnWaits.grp 0).ops.length = 1 ∧ spawnWaits.groups.length = 1 := by decide +kernel

/-! ## Witnesses: launches, saves, power and storage errors -/

/-- A record at 0x10200 and its descriptor at 0x10300: one block of one group of 32 lanes with one argument. -/
def launchWords : List Word :=
  [0x10300, 0, 0x103, 7] ++ List.replicate 12 0 ++ [1, 0x33, 1, 0x25, 32, 0x07] ++ List.replicate 10 0 ++ [99]
def launchState : State :=
  (((base.withMem 0x200 launchWords).withMem 0x300 ([1, 1, 4096, 0] ++ List.replicate 12 0)).withS [(8, 0x10200)])
def launchO : S64 := s64 4 8 0 0 0
def launchNb : S64 := s64 4 8 0 0 1
def launchOk (s : State) : Option LaunchRec :=
  match (s.releaseAll 0 0).1.readRecord 0 (s.addrAt 8) (some 0) 0 with | .got (.ok r) _ => some r | _ => none
theorem wit_launch : Runs (.s64 0x3E launchO) launchState ∧ launchState.my.memIdle = true ∧ (launchState.releaseAll 0 0).2 = [] ∧
    (launchOk launchState).map (fun r => (r.entry, r.args, r.blocks, r.scratch)) = some (0x10340, [99], 1, 4096) ∧
    launchState.me.queue.length < 4 ∧ Runs (.s64 0x3E launchNb) launchState ∧ launchOk memRec = none ∧ launchState.me.who.gen = 0 := by
  decide +kernel
/-- The record lies in an absent page, no frame is free, and the context draws on its reserve. -/
def launchWaits : State := (((paged true).withS [(8, 0x40100)]).updC 0 fun c => { c with drawer := some { group := 0, split := 1 } }).updDev
  fun d => { d with used := [(0, totalFrames)] }
theorem wit_launch_waits : Runs (.s64 0x3E launchO) launchWaits ∧ launchWaits.my.memIdle = true ∧
    (launchWaits.releaseAll 0 0).2 = [] ∧ (match (launchWaits.releaseAll 0 0).1.readRecord 0 (launchWaits.addrAt 8) (some 0) 0 with
      | .wait => true | _ => false) = true := by decide +kernel
/-- A group with one pending launch; with four. -/
def pending (n : Nat) : State := base.withG fun g => { g with queue := List.replicate n (loadRecord, 0x10200, 3) }
theorem wit_take : ((pending 1).grp 0).queue = [(loadRecord, 0x10200, 3)] ∧ ((pending 1).ctx 0).st = .running ∧
    (∀ h ∈ (pending 1).groups, h.queueHead = some 3) ∧ ¬ ((pending 4).me.queue.length < 4) := by decide +kernel
theorem wit_launch_held : Runs (.s64 0x3E launchO) (launchState.withSp fun sp => { sp with vmc := 1 }) ∧
    (launchState.withSp fun sp => { sp with vmc := 1 }).my.memIdle = false ∧
    Runs (.s64 0x3E launchO) (launchState.withG fun g => { g with queue := (pending 4).me.queue }) ∧
    (launchOk (launchState.withG fun g => { g with queue := (pending 4).me.queue })).isSome = true ∧ nbit launchO.aux.toNat 0 = false := by
  decide +kernel
/-- One queued launch of one context, without any bind record; its only block bound to entry 0 of core 0. -/
def unbound : State := ({ State.reset with ctxs := [loadContext] } : State).addLaunch 0 loadRecord 0 0 .queued none
def boundOne : State :=
  (unbound.updCore 0 fun k => { k with slots := k.slots.set 0 { st := .bound, bind := loadBind, order := 0 },
                                       ctxs := k.ctxs.set 0 (some 0), slotSt := k.slotSt.set 0 1 }).updCl 0 fun c => { c with idle := false }
def doneOne : State := base.updCore 0 fun k => { k with slots := k.slots.set 0 { st := .done, bind := loadBind, order := 0 } }
theorem wit_binds : ((unbound.core 0).slots.getD 0 default).st = .empty ∧ 0 < (unbound.core 0).slots.length ∧
    unbound.bindable 0 0 loadBind = true ∧ ((doneOne.core 0).slots.getD 0 default).st = .done := by decide +kernel
theorem wit_block_start : (boundOne.launch? 0 1).isSome = true ∧ (boundOne.boundParts 0 1 0).length = 1 ∧
    boundOne.startsNext 0 0 1 0 = true ∧ (boundOne.cl 0).idle = false := by decide +kernel
/-- The launch of `base` with its block gone, and a completion counter at 0x10100. -/
def allLeft : State :=
  base.updLaunch 0 1 fun l => { l with completed := 1, rc := { l.rc with comp := 0x10100 } }
theorem wit_launch_completes : ((allLeft.launch? 0 1).any fun l => l.state == .running && l.completed == l.rc.blocks) = true ∧
    (allLeft.ctx 0).st = .running ∧ allLeft.mustWait 0 = false ∧ allLeft.xlate 0 0x10100 .r = .ok 0x100 ∧ allLeft.xlate 0 0x10100 .w = .ok 0x100 ∧ 0x100 % 64 = 0x10100 % 64 := by decide +kernel
/-- A save area of 1 MiB; without one the save is refused. -/
def saveArea : State := base.updC 0 fun c => { c with saveLen := 0x100000 }
def runsOf (s : State) : Option (List (Nat × Nat) × List (Nat × Nat)) :=
  takeRuns ((s.ctx 0).saveLen / 65536) [s.partUnits 0 0] (s.ctx 0).runs
theorem wit_save : saveArea.savable 0 = true ∧ saveArea.mayStream 0 .preempt = true ∧ (runsOf saveArea).isSome = true ∧
    base.savable 0 = true ∧ runsOf base = none ∧ (saveArea.blk 0).cores = [0] := by decide +kernel
/-- The block and its group saved, its slot-table entry EMPTY. -/
def savedState : State :=
  (({ saveArea with groups := [{ baseGroup with saved := true }] } : State).updB 0 fun b => { b with saved := true }).updCore 0 fun k =>
    { k with slots := List.replicate 16 { st := .empty, bind := default, order := 0 } }
def homePlace (core : Nat) (gslots : BitVec 64) : Place := { parts := [(core, 0, 0, gslots)], scrOff := 0 }
theorem wit_restore : savedState.restorable 0 (homePlace 0 1) = true ∧ savedState.yieldOver 0 = true ∧
    placeCluster (homePlace 0 1) < savedState.clusters.length ∧ Memory.wf (savedState.blk 0).image = true ∧
    ((savedState.blk 0).image.all fun e => decide (e.1 < (savedState.blk 0).scratch)) = true := by decide +kernel
/-- Cluster 0 is at 120 °C, and cluster 2 holds cool work; block 0 has no scratchpad and its groups have left. -/
def hotState (s : State) : State :=
  ({ s with blocks := [{ baseBlock with groups := [], scrLen := 0, scratch := 0 },
                       { baseBlock with cluster := 2, groups := [], block := 5, cores := [8] }] } : State).updCl 0 fun c =>
    { c with therm := { hot := 120, thr := -25, ihr := 0, gen := 0 } }
theorem wit_migration : (hotState saveArea).chosenMove 0 1 = true ∧ placeCluster (homePlace 4 0) = 1 ∧
    (((hotState saveArea).saveBlock 0 .preempt).any fun u => u.restorable 0 (homePlace 4 0)) = true ∧
    (hotState base).chosenMove 0 1 = true ∧ ((hotState base).saveBlock 0 .preempt).isNone = true ∧
    (hotState saveArea).savable 0 = true ∧ (hotState base).savable 0 = true ∧ (hotState saveArea).tilesIdle 0 1 = true ∧
    (hotState base).tilesIdle 0 1 = true := by decide +kernel
/-- The same while a matrix command of the block waits. -/
def busyMove : State := (hotState saveArea).updCl 0 fun c => { c with matq := [mzeroM] }
theorem wit_migration_waits : busyMove.chosenMove 0 1 = true ∧ busyMove.savable 0 = false := by decide +kernel
/-- Cluster 0, which alone holds work, is at 120 °C; the clock has run. -/
def heated (fstep : Nat) : State :=
  (base.updCl 0 fun c => { c with therm := { hot := 120, thr := -25, ihr := 0, gen := 0 } }).updDev fun d => { d with fstep := fstep, tick := 200000 }
theorem wit_steps : (heated 0).allHot = true ∧ (heated 0).dev.fstepAt + 10000 ≤ (heated 0).dev.tick ∧ base.allHot = false ∧
    base.allCool = true ∧ (base.updDev fun d => { d with fstep := 1, tick := 200000 }).allCool = true ∧ (heated 6).dev.fstep = 6 ∧
    (heated 6).veryHot 0 = true ∧ ((heated 6).cl 0).hotFor + 100000 ≤ (heated 6).dev.tick ∧ 4 < ((heated 6).cl 0).ratio := by decide +kernel
def quiet : State := base.updDev fun d => { d with cycle := 2000 }
/-- Cluster 0 waits for admission; clusters 0 and 1 both ask while the limiter is not free. -/
def oneWaits : State :=
  (base.updCl 0 fun c => { c with idle := true, waiting := true }).updDev fun d => { d with limiter := { d.limiter with queue := [0] } }
def twoAsk : State :=
  ((base.updCl 0 fun c => { c with idle := true, wants := true }).updCl 1 fun c => { c with wants := true }).updDev fun d => { d with limiter := { d.limiter with last := some 0 } }
theorem wit_limiter : (quiet.cl 0).idle = false ∧ quiet.engineBusy 0 = false ∧ (quiet.cl 0).last + 1025 ≤ quiet.dev.cycle ∧
    oneWaits.requests = [] ∧ oneWaits.dev.limiter.queue = [0] ∧ oneWaits.limiterFree = true ∧ twoAsk.requests = [0, 1] ∧
    twoAsk.limiterFree = false := by decide +kernel
/-- A sample that is due and one that is not; at 120 °C the hardware trips. -/
theorem wit_samples : base.dev.tick < base.dev.sampledAt + 1000 ∧
    (base.updDev fun d => { d with tick := 1000 }).dev.sampledAt + 1000 ≤ (base.updDev fun d => { d with tick := 1000 }).dev.tick ∧
    120 ≤ ([((120 : BitVec 8), (0 : BitVec 8))][0]?.getD (base.cl 0).sensor).1.toNat ∧
    (∀ k, k < 24 → ¬ 120 ≤ (([] : List (BitVec 8 × BitVec 8))[k]?.getD (base.cl k).sensor).1.toNat) ∧ base.up = true := by decide +kernel
theorem wit_windows : base.phase < 20 ∧ base.inWindow 3 = false ∧ base.inWindow 0 = true := by decide +kernel
theorem wit_errors : base.dev.errors.length = 123 ∧ (base.grp 0).who.cluster < 24 ∧ base.unitKind (.gddr 4) = (0, 0) ∧
    (base.unitKind (.vreg 0 1 2)).1 = 6 ∧ ((matState.cl 0).tiles.getD 0 default).owner = some 0 ∧ 0 < matState.ctxs.length := by decide +kernel

/-! ## Witnesses: the host and the fabric -/

/-- Queue pair 0 takes commands, 1 is context 0's window queue pair, 2 an unbound one. -/
def hostState (s : State) : State :=
  { s with qps := [{ used := true, kind := .command, ctx := none, tags := [], waiting := [] },
                   { used := true, kind := .window, ctx := some 0, tags := [], waiting := [] },
                   { used := true, kind := .window, ctx := none, tags := [], waiting := [] }] }
def cmd (ctx : Word) (body : List Word) : Cmd := { q := 0, tag := 1, ctx := ctx, body := body }
def dcmd (body : List Word) : Cmd := cmd 0xFFFFFFFF body
def submitState : State := hostState launchState
theorem wit_submit : NewCommand submitState (cmd 0 [0, 0x10200, 0]) 1 ∧ OwnContext submitState (cmd 0 [0, 0x10200, 0]) 0 ∧
    (match submitState.readRecord 0 0x10200 none 0 with | .got (.ok r) _ => r.blocks == 1 | _ => false) = true ∧
    (match submitState.readRecord 0 0x10500 none 0 with | .got (.error n) _ => n == 1 | _ => false) = true ∧
    (cmd 0 [0, 0x10200, 0]).addr 1 = 0x10200 ∧ submitState.mustWait 0 = false := by decide +kernel
def createC : Cmd := dcmd [0, 0x10200, 0, 8, 0x10020, 0, 0, 0, 0x10000, 1, 2]
theorem wit_create : NewCommand (hostState base) createC 2 ∧ DeviceCommand createC 11 ∧ nbit (createC.w 0).toNat 0 = false ∧
    wfield (createC.w 9) 7 0 ≠ 0 ∧ createC.addr 1 % 256 = 0 ∧ createC.addr 4 % 4 = 0 ∧ (createC.w 8).toNat % 65536 = 0 ∧
    ((hostState base).qp 2).used = true ∧ ((hostState base).qp 2).kind = .window ∧ ((hostState base).qp 2).ctx = none ∧
    (hostState base).framesUsed + (hostState base).framesReserved + 256 ≤ totalFrames := by decide +kernel
theorem wit_destroy : NewCommand (hostState base) (cmd 0 [1]) 2 ∧ OwnContext (hostState base) (cmd 0 [1]) 0 ∧
    (∀ v ∈ (hostState base).sets, v.ctx ≠ some 0) := by decide +kernel
def mapC : Cmd := cmd 0 [0x40000, 0, 0x20000, 0x1C]
def grantC : Cmd := cmd 0 [0x400000, 0, 0x200000, 3]
theorem wit_map : NewCommand (hostState base) mapC 3 ∧ OwnContext (hostState base) mapC 0 ∧ (mapC.w 3).toNat % 4 = 0 ∧
    nbit (mapC.w 3).toNat 5 = false ∧ mapC.addr 0 % 65536 = 0 ∧ ((hostState base).ctx 0).overlaps (mapC.addr 0) (mapC.w 2).toNat = false ∧
    NewCommand (hostState base) grantC 3 ∧ (grantC.w 3).toNat % 4 = 3 ∧ grantC.addr 0 % 2097152 = 0 ∧
    (grantC.w 2).toNat % 2097152 = 0 ∧ ((hostState base).ctx 0).grants = [] := by decide +kernel
def unmapC : Cmd := cmd 0 [0x40000, 0, 0x20000, 0]
def xlateC : Cmd := cmd 0 [0x40100, 0, 0]
theorem wit_unmap : NewCommand (hostState (paged true)) unmapC 4 ∧ OwnContext (hostState (paged true)) unmapC 0 ∧
    unmapC.addr 0 % 65536 = 0 ∧ (unmapC.w 2).toNat % 65536 = 0 ∧ NewCommand (hostState (paged true)) xlateC 6 ∧
    (((paged true).ctx 0).maps.find? fun m => decide (m.va ≤ xlateC.addr 0) && decide (xlateC.addr 0 < m.va + m.len)).any (!·.pin) = true ∧
    (hostState (paged true)).mustWait 0 = false ∧
    NewCommand (hostState base) (dcmd []) 5 ∧ DeviceCommand (dcmd []) 0 := by decide +kernel
/-- A view set of one view of 64 by 64 pixels in one strip, sent by port 0 and subport 0. -/
def setWords : List Word := [0x080000, 0x003F003F, 0] ++ List.replicate 13 0 ++ List.replicate 32 0
theorem zero_lt_subports (p : Nat) (h : p < 12) : 0 < subports p := by
  unfold subports
  rw [if_pos h]
  split <;> decide
theorem wit_route : displayRouteOk (List.replicate 16 0) = true := by
  have h : decide (routeSub (List.replicate 16 0) < subports (routePort (List.replicate 16 0))) = true :=
    decide_eq_true (zero_lt_subports 0 (by decide))
  unfold displayRouteOk
  simp only [h, Bool.and_true]
  decide +kernel
theorem wit_vset_parses : (parseSet 0 setWords (List.replicate 16 0)).isSome = true := by
  have h : ((List.range (wfield (wordAt setWords 0) 3 0 + 1)).map fun i =>
      ((List.replicate 16 (0 : Word)).drop (16 * i)).take 16).all displayRouteOk = true := by
    have e : ((List.range (wfield (wordAt setWords 0) 3 0 + 1)).map fun i =>
      ((List.replicate 16 (0 : Word)).drop (16 * i)).take 16) = [List.replicate 16 0] := by decide +kernel
    rw [e]
    simp only [List.all_cons, List.all_nil, wit_route, Bool.and_true]
  unfold parseSet
  simp only [h, Bool.not_true]
  rw [if_neg (by decide +kernel)]
  rfl
def vsetState : State := hostState (base.withMem 0x400 setWords)
def vsetC : Cmd := cmd 0 [0, 0x10400, 0, 0x10800, 0]
theorem wit_vset : NewCommand vsetState vsetC 7 ∧ OwnContext vsetState vsetC 0 ∧ nbit (vsetC.w 0).toNat 8 = false ∧
    (vsetState.set 0).ctx = none ∧ vsetState.mustWait 0 = false ∧ ((vsetState.readHomeVA 0 0x10400 64 .r).map fun x => (wordAt (wordsOf x.2.1) 0, x.2.2)) = some (0x080000, false) ∧
    ((vsetState.readHomeVA 0 0x10400 192 .r).map fun x => (wordsOf x.2.1, x.2.2)) = some (setWords, false) ∧
    ((vsetState.readHomeVA 0 0x10800 64 .r).map fun x => (wordsOf x.2.1, x.2.2)) = some (List.replicate 16 0, false) := by decide +kernel
theorem wit_unbind : NewCommand (hostState (viewState .idle)) (cmd 0 [0x100]) 7 ∧ OwnContext (hostState (viewState .idle)) (cmd 0 [0x100]) 0 ∧
    ((hostState (viewState .idle)).set 0).ctx = some 0 ∧ (∀ x ∈ ((hostState (viewState .idle)).set 0).strips, x.st = .idle) := by decide +kernel
def portC : Cmd := dcmd ([0, 0x00010000 + 1500, 0x0A000001, 8] ++ List.replicate 8 0)
/-- A transition of the weight store, asked for on another queue pair, is under way; nothing reads the store, so that it is over. A wait for a window's request that is not. -/
def waitFor (w : WaitFor) (s : State) : State := s.updDev fun d => { d with waits := [{ q := 3, cmd := cmdWords 8 (dcmd [0]), what := w }] }
def moving : State := waitFor (.mode false) (hostState base)
def ofMode (w : WaitFor) : Bool := match w with | .mode _ => true | _ => false
theorem wit_modes : (∀ c ∈ [dcmd [1], dcmd [0]], NewCommand moving c 8 ∧ DeviceCommand c 1 ∧ NewCommand (hostState base) c 8) ∧
    nbit ((dcmd [1]).w 0).toNat 0 = true ∧ nbit ((dcmd [0]).w 0).toNat 0 = false ∧ moving.dev.waits.any (fun w => ofMode w.what) = true ∧
    (hostState base).dev.waits = [] ∧ (hostState base).dev.wsLoad = true ∧ moving.up = true ∧ moving.waitOver (.mode false) = true := by
  decide +kernel
theorem wit_device : NewCommand (hostState base) (dcmd [1]) 8 ∧ NewCommand (hostState base) (dcmd [0]) 8 ∧ (hostState base).dev.wsLoad = true ∧
    NewCommand (hostState base) (dcmd [7, 80, 0, 1, 2]) 9 ∧ NewCommand (hostState base) portC 10 ∧ DeviceCommand portC 12 ∧
    wfield (portC.w 0) 3 0 = 0 ∧ wfield (portC.w 0) 5 4 = 0 ∧ wfield (portC.w 1) 15 0 = 1500 ∧ wfield (portC.w 1) 27 16 = 1 ∧
    0 < base.ports.length ∧ 0 < (base.ports.getD 0 default).subs.length := by decide +kernel
/-- Slot 1 has an open sequence at its start. -/
def flashOpen : State := hostState { base with boot := { base.boot with seqOpen := some { q := 0, slot := 1, next := 0 } } }
def writeC : Cmd := dcmd ([0x101, 0, 64] ++ (List.range 16).map (BitVec.ofNat 32))
theorem wit_flash : NewCommand (hostState base) (dcmd [0x100]) 11 ∧ (hostState base).boot.seqOpen = none ∧ 1 ≠ (hostState base).boot.running ∧
    1 < (hostState base).boot.slots.length ∧ NewCommand flashOpen writeC 11 ∧ 4 * writeC.len = 12 + (writeC.w 2).toNat ∧
    (writeC.w 0).toNat % 4 = 1 ∧ (writeC.w 0).toNat / 256 % 2 = 1 ∧ NewCommand flashOpen (dcmd [0x102]) 11 ∧
    flashOpen.boot.seqOpen = some { q := 0, slot := 1, next := 0 } := by decide +kernel
/-- A MAP that has been answered. -/
def tagged : State := (hostState base).updQ 0 fun q => { q with tags := [(cmdWords 3 mapC, [[5]])] }
theorem wit_messages : (hostState base).isCommandQueue 0 = true ∧ (hostState base).queueBusy 0 = false ∧
    (wordAt [0x12345678] 0).toNat % 2 ^ 24 ≠ 0x14A43 ∧ ((hostState base).qp 0).tags = [] ∧ tagged.isCommandQueue mapC.q = true ∧
    ((tagged.qp mapC.q).tags.find? fun x => x.1 == cmdWords 3 mapC) = some (cmdWords 3 mapC, [[5]]) := by decide +kernel

/-- Context 0's RKVA is 5, its RKWS 6; a grant of 2 MiB at 0. -/
def fabricState : State := hostState (base.updC 0 fun c => { c with rkva := 5, rkws := 6, grants := [(0, 0x200000)] })
theorem wit_inbound : fabricState.inboundWaits 1 = none ∧ (match fabricState.rdmaKey 1 5 with | .va c => c == 0 | _ => false) = true ∧ OneSector fabricState 0 0x10100 4 0x100 ∧
    OneSector fabricState 0 0x10100 8 0x100 ∧ (match fabricState.rdmaKey 1 6 with | .ws c => c == 0 | _ => false) = true ∧
    (fabricState.ctx 0).grantGap 64 4 = none ∧ fabricState.dev.wsLoad = true ∧
    (match fabricState.rdmaKey 1 7 with | .bad => true | _ => false) = true ∧ fabricState.up = true ∧ (fabricState.qp 1).used = true ∧
    0 < fabricState.ctxs.length := by decide +kernel
/-- An addition of 7 to the doubleword at 0x10100. -/
def addMessage : List Byte := jarianWords false 9 0 3 0 0x10100 7 0
theorem wit_jarian : jarianOk addMessage = true ∧ fabricState.windowCtx 1 = some 0 ∧ 2 ^ field (leAt addMessage 8 4) 2 0 = 8 ∧
    leAt addMessage 16 8 = 0x10100 := by decide +kernel
/-- A load of one lane through a window is outstanding, and an addition. -/
def windowState : State :=
  fabricState.updC 0 fun c => { c with windows := [{ va := 0x80000, len := 0x10000, kind := 3, r := true, w := true, q := 1, remote := 0, x := false }] }
def windowAccess (k : AccKind) : State :=
  windowState.accessWindow { addAtom with kind := k, rkind := 3, d := 4, lanes := [{ lane := 0, va := 0x80000, data := 7, cmp := 0 }] } 1 0
/-- UNMAP of the window while a load through it is outstanding, and once nothing is. -/
def unmapW : Cmd := cmd 0 [0x80000, 0, 0x10000, 1]
theorem wit_unmap_window : NewCommand (windowAccess .load) unmapW 4 ∧ OwnContext (windowAccess .load) unmapW 0 ∧ unmapW.len = 4 ∧
    (unmapW.w 3).toNat % 4 + 2 = 3 ∧ (((windowAccess .load).ctx 0).windows.flatMap fun w =>
      if w.kind = 3 then w.cut 0x80000 0x90000 else [w]).length ≤ 64 ∧
    (windowAccess .load).waitOver (.window 0 3 0x80000 0x90000) = false ∧ NewCommand windowState unmapW 4 ∧ OwnContext windowState unmapW 0 ∧
    windowState.waitOver (.window 0 3 0x80000 0x90000) = true ∧
    (waitFor (.window 0 3 0x80000 0x90000) (windowAccess .load)).waitOver (.window 0 3 0x80000 0x90000) = false := by decide +kernel
def requestOk (s : State) : Bool :=
  (s.winReqs.head?.any fun w => w.use == .lanes 0 && w.failed.isNone && w.group == 0 && !w.acc.scalar && w.id == 1 && w.sent == 0) &&
    (s.findOp 0 0).any fun op => op.kind == .window [1] && op.id == 0 && op.vwrites.isEmpty && (s.grp 0).failTarget op 0 == 0
theorem wit_window : requestOk (windowAccess .load) = true ∧ requestOk (windowAccess (.atom 0)) = true ∧
    ((windowAccess .load).grp 0).live? = true ∧ ((windowAccess .load).spl who0).trap = false ∧
    ((windowAccess .load).spl who0).st = .ready ∧ ((windowAccess .load).grp 0).trapElsewhere 0 = false ∧
    ((windowAccess .load).ctx 0).trapBase ≠ 0 ∧ ((windowAccess .load).findOp 0 0).any (fun op => op.acc.all fun a => a.rkind != 6) ∧ 0 < 100 * (windowAccess .load).dev.remoteTimeout := by decide +kernel
/-- The answer to the addition. -/
def answerMessage : List Byte := jarianWords true 1 0 2 0 0 3 0
theorem wit_answer : answerMessage.length = 40 ∧ leAt answerMessage 0 4 = 0x81014A41 ∧ leAt answerMessage 12 4 = 0 ∧
    ((windowAccess (.atom 0)).winReqs.find? fun x => x.q == 1 && x.id % 2 ^ 32 == leAt answerMessage 4 4 && x.acc.kind.isAtom &&
      x.failed.isNone).isSome = true := by decide +kernel
/-- Subport 0 of port 0 is up with address 10.0.0.1 of a network of 8 bits and a link-local address. -/
def linkState : State :=
  let sub : Subport := { Subport.reset with up := true, linkLocal := true, ip4 := 0x0100000A, ip4len := 8 }
  { base with ports := { Port.reset with subs := sub :: List.replicate 3 Subport.reset } :: List.replicate 11 Port.reset }
theorem wit_ports : linkState.boot.stage = 4 ∧ 0 < linkState.ports.length ∧ 0 < (linkState.ports.getD 0 default).subs.length ∧
    (linkState.subport 0 0).up = true ∧ (linkState.subport 0 0).ip4len ≠ 0 ∧ (linkState.subport 0 0).linkLocal = true ∧
    ((hostState base).qp 3).used = false ∧ base.boot.stage = 4 ∧ ({ base.boot with stage := 1 } : Boot).stage ≠ 4 ∧ popN 24 (0 : BitVec 24).toNat ≤ 2 ∧ 2 < popN 24 (7 : BitVec 24).toNat := by
  decide +kernel

/-! ## Witnesses: the step -/

/-- SMOV s4, 0 at the PC. -/
def codeState : State := base.withMem 0x40 [0x40008000, 0x000001D0]
/-- The splits of a cycle have been chosen: split 0 of group 0 alone. -/
def plannedState (s : State) : State := { s with stage := .planned, plan := [{ who := who0, mate := none }] }
theorem wit_nothing_due : codeState.waitingCommand = none ∧ codeState.stage = .fresh ∧ codeState.dueEviction = none ∧ codeState.due = none ∧
    codeState.markWants.limiterDue = false ∧ codeState.wanting.filter codeState.admitted = [who0] ∧ codeState.resuming = [] ∧
    (codeState.heldBy who0).isNone = true := by decide +kernel
theorem wit_fetches : FetchesInstr (({ plannedState codeState with plan := [] } : State).begin who0) (.smov (s64 4 0 464 0 0)) [] :=
  ⟨codeBytes [0x40008000, 0x000001D0], by rfl, by decide, fun k h => by
    have h2 : k < 2 := h
    match k, h2 with
    | 0, _ => exact ⟨0x40, by decide +kernel⟩
    | 1, _ => exact ⟨0x44, by decide +kernel⟩⟩
theorem wit_planned : (plannedState codeState).waitingCommand = none ∧ (plannedState codeState).dueLate = none ∧
    (plannedState codeState).schedule = [] ∧ ({ plannedState codeState with plan := [] } : State).eligible who0 = true := by decide +kernel
/-- EXIT at the PC of a split beside which another holds the other lanes. -/
def exitState : State := plannedState (halfSplit.withMem 0x40 [0x05000000])
theorem wit_exit_first : exitState.waitingCommand = none ∧ isExit (exitState.nextWord who0) = true ∧
    ({ exitState with plan := [] } : State).eligible who0 = true := by decide +kernel
theorem wit_exit_fetches : FetchesInstr (({ exitState with plan := [] } : State).begin who0) (.exit (c32 0)) [] :=
  ⟨codeBytes [0x05000000], by rfl, by decide, fun k h => by
    have h2 : k < 1 := h
    match k, h2 with
    | 0, _ => exact ⟨0x40, by decide +kernel⟩⟩
/-- Splits 0 and 1 of the group, both at the SMOV, share the cycle: split 0 is next; then split 1, with the registers that split 0 read. -/
def who1 : SplitRef := { group := 0, split := 1 }
def jointState (plan : List Slot) : State :=
  { plannedState ((halfSplit.updS who1 fun sp => { sp with pc := 0x10040 }).withMem 0x40 [0x40008000, 0x000001D0]) with plan := plan }
def jointFirst : State := jointState [{ who := who0, mate := some who1 }, { who := who1, mate := some who0 }]
def jointSecond : State := jointState [{ who := who1, mate := some who0, src := some base.me.regs }]
/-- The state in which split 1 runs. -/
def jointRuns : State := ((jointState []).begin who1).updG 0 fun g => { g with regs := base.me.regs }
theorem wit_joint : jointFirst.waitingCommand = none ∧ jointFirst.dueLate = none ∧ jointFirst.schedule = [] ∧
    isEngine (jointFirst.nextWord who0) = false ∧ ({ jointFirst with plan := jointFirst.plan.tail } : State).eligible who0 = true ∧
    jointSecond.waitingCommand = none ∧ jointSecond.dueLate = none ∧ isEngine (jointSecond.nextWord who1) = false ∧
    (jointState []).eligible who1 = true ∧ ((outcomeState base (execSmov (s64 4 0 464 0 0) jointRuns)).spl who1).pc = 0x10048 ∧
    ((outcomeState base (execSmov (s64 4 0 464 0 0) jointRuns)).spl who1).held = false := by decide +kernel
theorem wit_joint_fetches : FetchesInstr jointRuns (.smov (s64 4 0 464 0 0)) [] :=
  ⟨codeBytes [0x40008000, 0x000001D0], by rfl, by decide, fun k h => by
    have h2 : k < 2 := h
    match k, h2 with
    | 0, _ => exact ⟨0x40, by decide +kernel⟩
    | 1, _ => exact ⟨0x44, by decide +kernel⟩⟩
/-- R129's example: split 0 has made p3 0xAAAAFFFF; split 1's VCMP.I32.ne p3, v4, v4, which read 0xAAAAAAAA, leaves 0x0000FFFF. -/
def withP3 (m : Mask) (s : State) : State := s.withG fun g => { g with regs := { g.regs with p := g.regs.p.set 3 m } }
def coIssue : State :=
  { plannedState (withP3 0xAAAAFFFF ((halfSplit.updS who1 fun sp => { sp with pc := 0x10040 }).withMem 0x40 [0x8C000001, 0x02000004, 0x0042C000]))
    with plan := [{ who := who1, mate := some who0, src := some (withP3 0xAAAAAAAA base).me.regs }] }
theorem test_coissue_predicate : ((outcomeState base (step coIssue)).me.readP 3) = 0x0000FFFF := by decide +kernel
/-- A TEMIT at the PC, and no follow-on offer. -/
def engineNext : State := plannedState (base.withMem 0x40 [0xD1400008, 0x00000A0C, 0])
theorem wit_engine_turn : isEngine (engineNext.nextWord who0) = true ∧ engineNext.dueOffer (some who0) = none := by decide +kernel
/-- The issue of split 0, brought forward by the schedule. -/
def turnState : State := { plannedState codeState with schedule := [{ cycles := 0, ticks := 0, act := .issue who0 }] }
theorem wit_turn : turnState.waitingCommand = none ∧ turnState.dueLate = none ∧ isExit (turnState.nextWord who0) = false ∧
    isEngine (({ turnState with schedule := [] } : State).nextWord who0) = false ∧ turnState.boot.tripped = false ∧
    (∀ y ∈ turnState.plan, y.who.group = who0.group → who0.split ≤ y.who.split) ∧
    (turnState.plan.find? fun y => y.who == who0) = some { who := who0, mate := none } ∧
    ({ turnState with schedule := [], plan := [] } : State).eligible who0 = true := by decide +kernel
theorem wit_events_wait : EventsWait State.reset ∧ Memory.wf State.reset.mem = true ∧ Memory.wf State.reset.ws = true := by
  refine ⟨⟨?_, ?_, ?_⟩, by decide, by decide⟩ <;> intro x h <;> cases h
theorem wit_encodable : kindOk (.nop (c32 0)) = true ∧ toIWord (.nop (c32 0)) ≠ .other := by decide

/-! ## Words of every opcode (R58, R60, R62, R70 to R76) -/

/-- Operand fields that are all 0. -/
def zs : S64 := s64 0 0 0 0 0
def zv : V96 := v96 0 (vreg 0) (vreg 0) 0
def zm : EMem := emem 0 0 0 0 0
def ze : EEng := eeng 0 0 0 0 0 0 0
/-- Words decode to what they stand for. -/
abbrev Decodes (l : List (List Nat × Instr)) : Prop := ∀ e ∈ l, decode (codeBytes e.1) = .instr e.2 []
theorem test_decode_c32 : Decodes [
   ([0x00000000], .nop (c32 0)), ([0x01000000], .bra (c32 0)), ([0x02000000], .brd (c32 0)), ([0x03000000], .call (c32 0)),
   ([0x04000000], .ret (c32 0)), ([0x05000000], .exit (c32 0)), ([0x06000000], .waitc (c32 0)), ([0x07000000], .barSync (c32 0)),
   ([0x07400000], .barArrive (c32 0x400000)), ([0x07800000], .barWait (c32 0x800000)), ([0x08000000], .join (c32 0)),
   ([0x09000000], .yield (c32 0)), ([0x0A000000], .sleep (c32 0)), ([0x0B000000], .lpad (c32 0)), ([0x0C000000], .trap (c32 0)),
   ([0x0D000000], .bkpt (c32 0)), ([0x0E000000], .rte (c32 0)), ([0x0F000000], .fenceFull (c32 0)),
   ([0x0F080000], .fenceAcq (c32 0x080000)), ([0x0F100000], .fenceRel (c32 0x100000)), ([0x10000000], .segw (c32 0))] := by decide +kernel
theorem test_decode_s641 : Decodes [
   ([0x40000000, 0], .smov zs), ([0x40400000, 0], .sadd zs), ([0x40800000, 0], .ssub zs), ([0x40C00000, 0], .smul zs),
   ([0x41000000, 0], .smulhiN zs), ([0x41400000, 0], .smulhiI zs), ([0x41800000, 0], .sand zs), ([0x41C00000, 0], .sor zs),
   ([0x42000000, 0], .sxor zs), ([0x42400000, 0], .sandn zs), ([0x42800000, 0], .sshl zs), ([0x42C00000, 0], .sshr zs),
   ([0x43000000, 0], .ssra zs), ([0x43400000, 0], .sminI zs), ([0x43800000, 0], .smaxI zs), ([0x43C00000, 0], .sminN zs),
   ([0x44000000, 0], .smaxN zs), ([0x44400000, 0], .sbfeN zs), ([0x44800000, 0], .sbfeI zs), ([0x44C00000, 0], .sbfi zs),
   ([0x45000000, 0], .spopc zs), ([0x45400000, 0], .sclz zs), ([0x45800000, 0], .sctz zs), ([0x45C00000, 0], .sbrev zs),
   ([0x46000000, 0], .ssel zs), ([0x46400000, 0], .scmpI zs), ([0x46800000, 0], .scmpN zs), ([0x46C00000, 0], .saddB64 zs),
   ([0x47000000, 0], .ssubB64 zs), ([0x47400000, 0], .smulB64 zs), ([0x47800000, 0], .sshlB64 zs), ([0x47C00000, 0], .sshrB64 zs)] := by decide +kernel
theorem test_decode_s642 : Decodes [
   ([0x48000000, 0], .scmpI64 zs), ([0x48400000, 0], .scmpN64 zs), ([0x4A000000, 0], .sfadd zs), ([0x4A400000, 0], .sfmul zs),
   ([0x4A800000, 0], .sffma zs), ([0x4AC00000, 0], .sfmin zs), ([0x4B000000, 0], .sfmax zs), ([0x4B400000, 0], .sfcmp zs),
   ([0x4B800000, 0], .scvtF32I32 zs), ([0x4BC00000, 0], .scvtI32F32 zs), ([0x4C000000, 0], .srcp zs), ([0x4E000000, 0], .srd zs),
   ([0x4E000000, 0x00800000], .cycloRead { zs with aux := 0x20 }), ([0x4E400000, 0], .swr zs), ([0x4E800000, 0], .brx zs),
   ([0x4EC00000, 0], .callx zs), ([0x4F000000, 0], .vacq zs), ([0x4F400000, 0], .vrel zs), ([0x4F800000, 0], .launch zs),
   ([0x4FC00000, 0], .swaitg zs), ([0x50000000, 0], .sld zs), ([0x50400000, 0], .sst zs), ([0x50800000, 0], .satom zs),
   ([0x50C00000, 0], .ssld zs), ([0x51000000, 0], .ssst zs), ([0x51400000, 0], .waita zs), ([0x51800000, 0], .sacq zs),
   ([0x51C00000, 0], .srel zs), ([0x52000000, 0], .sobind zs), ([0x52400000, 0], .sounbind zs)] := by decide +kernel
theorem test_decode_v96_1 : Decodes [
   ([0x80000000, 0, 0], .vaddI32 zv), ([0x80400000, 0, 0], .vsubI32 zv), ([0x80800000, 0, 0], .vmulloI32 zv),
   ([0x80C00000, 0, 0], .vmulhiI32 zv), ([0x81000000, 0, 0], .vmulhiN32 zv), ([0x81400000, 0, 0], .vmadI32 zv),
   ([0x81800000, 0, 0], .vabsdiffN32 zv), ([0x81C00000, 0, 0], .vminI32 zv), ([0x82000000, 0, 0], .vmaxI32 zv),
   ([0x82400000, 0, 0], .vminN32 zv), ([0x82800000, 0, 0], .vmaxN32 zv), ([0x82C00000, 0, 0], .vand zv), ([0x83000000, 0, 0], .vor zv),
   ([0x83400000, 0, 0], .vxor zv), ([0x83800000, 0, 0], .vandn zv), ([0x83C00000, 0, 0], .vshl zv), ([0x84000000, 0, 0], .vshr zv),
   ([0x84400000, 0, 0], .vsra zv), ([0x84800000, 0, 0], .vrotl zv), ([0x84C00000, 0, 0], .vbfeN zv), ([0x85000000, 0, 0], .vbfeI zv),
   ([0x85400000, 0, 0], .vbfi zv), ([0x85800000, 0, 0], .vpopc zv), ([0x85C00000, 0, 0], .vclz zv), ([0x86000000, 0, 0], .vbrev zv),
   ([0x86400000, 0, 0], .vsel zv), ([0x86800000, 0, 0], .vaddsatI32 zv), ([0x86C00000, 0, 0], .vaddsatN32 zv),
   ([0x87000000, 0, 0], .vsubsatI32 zv), ([0x87400000, 0, 0], .vsubsatN32 zv), ([0x87800000, 0, 0], .vdot4I8 zv),
   ([0x87C00000, 0, 0], .vdot4N8 zv)] := by decide +kernel
theorem test_decode_v96_2 : Decodes [
   ([0x88000000, 0, 0], .vaddI64 zv), ([0x88400000, 0, 0], .vsubI64 zv), ([0x88800000, 0, 0], .vmulloI64 zv),
   ([0x88C00000, 0, 0], .vmulhiI64 zv), ([0x89000000, 0, 0], .vmulhiN64 zv), ([0x89400000, 0, 0], .vminI64 zv),
   ([0x89800000, 0, 0], .vmaxI64 zv), ([0x89C00000, 0, 0], .vminN64 zv), ([0x8A000000, 0, 0], .vmaxN64 zv),
   ([0x8A400000, 0, 0], .vshlB64 zv), ([0x8A800000, 0, 0], .vshrB64 zv), ([0x8AC00000, 0, 0], .vsraI64 zv),
   ([0x8B000000, 0, 0], .vmulwI32 zv), ([0x8B400000, 0, 0], .vmulwN32 zv), ([0x8B800000, 0, 0], .vmadwI32 zv),
   ([0x8BC00000, 0, 0], .vmadwN32 zv), ([0x8C000000, 0, 0], .vcmpI32 zv), ([0x8C400000, 0, 0], .vcmpN32 zv),
   ([0x8C800000, 0, 0], .vcmpI64 zv), ([0x8CC00000, 0, 0], .vcmpN64 zv), ([0x8D000000, 0, 0], .vcmpF32 zv),
   ([0x8D400000, 0, 0], .vcmpF16 zv), ([0x8D800000, 0, 0], .vclassF32 zv), ([0x90000000, 0, 0], .vfadd zv),
   ([0x90400000, 0, 0], .vfsub zv), ([0x90800000, 0, 0], .vfmul zv), ([0x90C00000, 0, 0], .vffma zv), ([0x91000000, 0, 0], .vfmin zv),
   ([0x91400000, 0, 0], .vfmax zv), ([0x91800000, 0, 0], .vfminx zv), ([0x91C00000, 0, 0], .vfmaxx zv),
   ([0x92000000, 0, 0], .vffloor zv)] := by decide +kernel
theorem test_decode_v96_3 : Decodes [
   ([0x92400000, 0, 0], .vfceil zv), ([0x92800000, 0, 0], .vftrunc zv), ([0x92C00000, 0, 0], .vfrint zv),
   ([0x93000000, 0, 0], .vffract zv), ([0x93400000, 0, 0], .vfldexp zv), ([0x93800000, 0, 0], .vfsat zv),
   ([0x94000000, 0, 0], .vhaddF16 zv), ([0x94400000, 0, 0], .vhmulF16 zv), ([0x94800000, 0, 0], .vhfmaF16 zv),
   ([0x94C00000, 0, 0], .vhminF16 zv), ([0x95000000, 0, 0], .vhmaxF16 zv), ([0x95400000, 0, 0], .vhaddBf16 zv),
   ([0x95800000, 0, 0], .vhmulBf16 zv), ([0x95C00000, 0, 0], .vhfmaBf16 zv), ([0x96000000, 0, 0], .vfmixF16 zv),
   ([0x96400000, 0, 0], .vdot2F16 zv), ([0x96800000, 0, 0], .vdot2Bf16 zv), ([0x98000000, 0, 0], .vcadd zv),
   ([0x98400000, 0, 0], .vcsub zv), ([0x98800000, 0, 0], .vcmul zv), ([0x98C00000, 0, 0], .vcfma zv), ([0x99000000, 0, 0], .vcmulj zv),
   ([0x99400000, 0, 0], .vcfmaj zv), ([0x99800000, 0, 0], .vcabs2 zv), ([0x99C00000, 0, 0], .vcscl zv), ([0x9C000000, 0, 0], .vrcp zv),
   ([0x9C400000, 0, 0], .vrsq zv), ([0x9C800000, 0, 0], .vsqrt zv), ([0x9CC00000, 0, 0], .vexp2 zv), ([0x9D000000, 0, 0], .vlog2 zv),
   ([0x9D400000, 0, 0], .vsinpi zv), ([0x9D800000, 0, 0], .vcospi zv)] := by decide +kernel
theorem test_decode_v96_4 : Decodes [
   ([0x9DC00000, 0, 0], .vsincospi zv), ([0x9E000000, 0, 0], .vdiv zv), ([0x9E400000, 0, 0], .vtanh zv),
   ([0xA0000000, 0, 0], .vcvtF32I32 zv), ([0xA0400000, 0, 0], .vcvtF32N32 zv), ([0xA0800000, 0, 0], .vcvtI32F32 zv),
   ([0xA0C00000, 0, 0], .vcvtN32F32 zv), ([0xA1000000, 0, 0], .vcvtF32F16 zv), ([0xA1400000, 0, 0], .vcvtF32Bf16 zv),
   ([0xA1800000, 0, 0], .vpackF16 zv), ([0xA1C00000, 0, 0], .vpackBf16 zv), ([0xA2000000, 0, 0], .vcvtF32I64 zv),
   ([0xA2400000, 0, 0], .vcvtI64F32 zv), ([0xA2800000, 0, 0], .vcvtnTo zv), ([0xA2C00000, 0, 0], .vcvtnFrom zv),
   ([0xA3000000, 0, 0], .vmxscale zv), ([0xA4000000, 0, 0], .vmov zv), ([0xA4400000, 0, 0], .vrdlane zv),
   ([0xA4800000, 0, 0], .vwrlane zv), ([0xA4C00000, 0, 0], .vlaneid zv), ([0xA5000000, 0, 0], .vbshuf zv),
   ([0xA5400000, 0, 0], .vfunnel zv), ([0xA5800000, 0, 0], .vrngrd zv), ([0xA5C00000, 0, 0], .vrngwr zv),
   ([0xA6000000, 0, 0], .vbrx zv), ([0xA8000000, 0, 0], .vredAddI32 zv), ([0xA8400000, 0, 0], .vredAddF32 zv),
   ([0xA8800000, 0, 0], .vredMinI32 zv), ([0xA8C00000, 0, 0], .vredMaxI32 zv), ([0xA9000000, 0, 0], .vredMinF32 zv),
   ([0xA9400000, 0, 0], .vredMaxF32 zv), ([0xA9800000, 0, 0], .vredAnd zv)] := by decide +kernel
theorem test_decode_v96_5 : Decodes [
   ([0xA9C00000, 0, 0], .vredOr zv), ([0xAA000000, 0, 0], .vscanAddI32 zv), ([0xAA400000, 0, 0], .vscanAddF32 zv),
   ([0xAA800000, 0, 0], .vvoteAny zv), ([0xAAC00000, 0, 0], .vvoteAll zv), ([0xAB000000, 0, 0], .vballot zv),
   ([0xAB400000, 0, 0], .vmatch zv), ([0xAB800000, 0, 0], .vbrank zv), ([0xABC00000, 0, 0], .vfirst zv)] := by decide +kernel
theorem test_decode_mem : Decodes [
   ([0xC0000000, 0, 0], .vld zm), ([0xC0400000, 0, 0], .vst zm), ([0xC0800000, 0, 0], .vatom zm), ([0xC0C00000, 0, 0], .vsld zm),
   ([0xC1000000, 0, 0], .vsst zm), ([0xC1400000, 0, 0], .vsatom zm), ([0xC1800000, 0, 0], .vpref zm), ([0xC1C00000, 0, 0], .vldw zm)] := by decide +kernel
theorem test_decode_eng : Decodes [
   ([0xC4000000, 0, 0], .tsample ze), ([0xC4400000, 0, 0], .tfetch ze), ([0xC4800000, 0, 0], .tgather4 ze),
   ([0xC4C00000, 0, 0], .tquery ze), ([0xC5000000, 0, 0], .trec ze), ([0xC8000000, 0, 0], .mma ze), ([0xC8400000, 0, 0], .mzero ze),
   ([0xC8800000, 0, 0], .mrd ze), ([0xC8C00000, 0, 0], .mst ze), ([0xC9000000, 0, 0], .mld ze), ([0xC9400000, 0, 0], .mver ze),
   ([0xC9800000, 0, 0], .mwait ze), ([0xCC000000, 0, 0], .cpy ze), ([0xCC400000, 0, 0], .cpym ze), ([0xCC800000, 0, 0], .cpub ze),
   ([0xCCC00000, 0, 0], .cpenc ze), ([0xCD000000, 0, 0], .cpdec ze), ([0xCD400000, 0, 0], .cprem ze), ([0xD0000000, 0, 0], .gzlatch ze),
   ([0xD0400000, 0, 0], .vwarpProj ze), ([0xD0400000, 0x04000000, 0], .vwarpPos { ze with sub := 1 }),
   ([0xD0400000, 0x08000000, 0], .vwarpGeom { ze with sub := 2 }), ([0xD0800000, 0, 0], .rtri ze), ([0xD0C00000, 0, 0], .rwalk ze),
   ([0xD1000000, 0, 0], .lres ze), ([0xD1400000, 0, 0], .temit ze), ([0xD4000000, 0, 0], .rtrace ze), ([0xD4400000, 0, 0], .rnext ze),
   ([0xD4800000, 0, 0], .rcommit ze), ([0xD4C00000, 0, 0], .rspawn ze), ([0xD5000000, 0, 0], .rpop ze)] := by decide +kernel

/-! ## Worked encodings of the spec (ch. 3 to 16) -/

/-- `?!p2 VFFMA.rz v9:b1, -v4~rot(3), s40, 1.0`, with a route byte for A. -/
def vffmaO (route : BitVec 8) : V96 :=
  { vd := 9, nw := false, lat := 5, pe := true, pi := 2, pn := true, ew := 0, rnd := 2,
    a := { route := route, abs := false, neg := true, elem := 0, sel := 4 }, b := vreg 552, cRoute := 0, cSel := 962 }
theorem test_words : Decodes [
    ([0x90C256A2, 0x1411A004, 0x00F08001], .vffma (vffmaO 0x23)),
    ([0x80018000, 0xD0510005, 0x00000001],
      .vaddI32 (v96 6 { route := 0xA2, abs := false, neg := false, elem := 0, sel := 5 } (vreg 928) 0)),
    ([0x4040A06D, 0x000003E8], .sadd { sd := 5, sa := 6, imm := true, cf := 5, sb := 488, sc := 1, aux := 0 }),
    ([0x4040A060, 0x000001F8], .sadd (s64 5 6 504 0 0)),
    ([0x07440004], .barArrive (c32 0x440004)), ([0x027FFFFA], .brd (c32 0x7FFFFA)), ([0x0F908000], .fenceRel (c32 0x908000)),
    ([0x0F8A0000], .fenceAcq (c32 0x8A0000)),
    ([0x4640404D, 0x00000064], .scmpI { sd := 2, sa := 4, imm := true, cf := 5, sb := 100, sc := 0, aux := 0 }),
    ([0xC0810008, 0x02060503, 0x4A000000], .vatom { emem 4 3 5 8 2 with vb := 6, sub := 0xA, scope := 4 }),
    ([0xC4020028, 0x00100000, 0], .tsample (eeng 8 4 40 0 0 0 0))] := by decide +kernel
theorem test_unassigned : decode (codeBytes [0x13C00000]) = .unassigned 0x13C00000 ∧ decode (codeBytes [0x40000000]) = .truncated ∧
    decode [] = .truncated ∧ decodeTableWord 32 0x0B001234 = some (.lpad (c32 0x1234)) := by decide +kernel
/-- Command messages of R413, by their header and first body word. -/
def msg (op : Nat) (body : List Word) : Instr :=
  decodeMessage 0 ([BitVec.ofNat 32 (op * 0x1000000 + 0x14A43), 1, 0, BitVec.ofNat 32 (4 * body.length)] ++ body)
theorem test_messages : msg 1 [0, 0, 0] = .submit (cmd 0 [0, 0, 0]) ∧ msg 2 [0] = .ctxCreate (cmd 0 [0]) ∧ msg 2 [1] = .ctxDestroy (cmd 0 [1]) ∧
    msg 3 [] = .map (cmd 0 []) ∧ msg 4 [] = .unmap (cmd 0 []) ∧ msg 5 [] = .syncsum (cmd 0 []) ∧ msg 6 [] = .xlate (cmd 0 []) ∧
    msg 7 [0] = .vset (cmd 0 [0]) ∧ msg 7 [0x100] = .vsetUnbind (cmd 0 [0x100]) ∧ msg 8 [1] = .wsmodeLoad (cmd 0 [1]) ∧
    msg 8 [0] = .wsmodeRead (cmd 0 [0]) ∧ msg 9 [] = .config (cmd 0 []) ∧ msg 10 [] = .portcfg (cmd 0 []) ∧
    msg 11 [0] = .flashBegin (cmd 0 [0]) ∧ msg 11 [1] = .flashWrite (cmd 0 [1]) ∧ msg 11 [2] = .flashCommit (cmd 0 [2]) ∧
    msg 12 [] = .malformedMessage 0 [0x0C014A43, 1, 0, 0] := by decide +kernel

/-! ## Ill-formed instructions -/

/-- No instruction of a list is well formed. -/
abbrev Refused (l : List Instr) : Prop := ∀ i ∈ l, wellFormed i = false
theorem test_kinds_refused : Refused [.barSync (c32 0x400000), .barArrive (c32 0), .barWait (c32 0x400000), .fenceFull (c32 0x888000),
    .fenceAcq (c32 0x808000), .fenceRel (c32 0x888000), .srd (s64 4 0 0 0 0x20), .cycloRead (s64 4 0 0 0 0),
    .vwarpProj (eeng 8 4 464 464 0 1 0), .vwarpPos (eeng 8 4 464 0 0 0 0), .vwarpGeom (eeng 8 4 464 464 0 1 0)] := by decide +kernel
/-- R58: a reserved bit or value of each layout. -/
theorem test_c32_refused : Refused [.bra (c32 0x100000), .call (c32 0x100000), .barSync (c32 0x010000), .barWait (c32 0x800004),
    .join (c32 0x010000), .trap (c32 0x000100), .fenceFull (c32 0x008000), .fenceFull (c32 0x800000), .fenceFull (c32 0x808001),
    .segw (c32 6), .segw (c32 0), .ret (c32 1)] := by decide +kernel
/-- R60, R61, R83 to R112, R246: selectors, pairs, quads, flags and reserved bits. -/
theorem test_s64_refused : Refused [.sadd (s64 400 0 0 0 0), .sadd (s64 4 400 0 0 0), .sadd (s64 4 0 0 1 0), .sadd (s64 4 0 0 0 1),
    .sadd { s64 4 0 0 0 0 with cf := 1 }, .smov (s64 4 1 0 0 0), .sbfi (s64 4 0 0 400 0), .spopc (s64 4 0 1 0 0),
    .ssel (s64 4 0 0 0 4), .scmpI (s64 2 0 0 0 0), .saddB64 (s64 5 6 8 0 0), .sshlB64 (s64 4 5 0 0 0), .scmpI64 (s64 2 4 6 0 0),
    .sfadd (s64 4 0 0 0 7), .sffma (s64 4 0 0 0 7), .sfcmp (s64 2 0 0 0 0), .srcp (s64 4 0 0 0 7), .srd (s64 4 1 0 0 0),
    .swr (s64 1 4 0 0 0), .brx (s64 0 3 0 0 0), .vacq (s64 0 0 400 0 0), .vrel (s64 0 0 464 0 1), .launch (s64 400 8 0 0 0),
    .swaitg (s64 4 8 14 0 7), .sld (s64 4 9 14 0 2), .sst (s64 1 8 14 15 2), .satom (s64 4 8 14 15 2), .waita (s64 4 8 14 1 0),
    .sacq (s64 4 9 0 0 0), .sobind (s64 4 8 11 0 0), .sounbind (s64 4 8 0 0 1)] := by decide +kernel
/-- R57, R62 to R69: predicate, element width, rounding, latch, destination, sources, modifiers and routes of V96. -/
theorem test_v96_refused : Refused [.vaddI32 { zv with pi := 1 }, .vmulloI32 { zv with ew := 2 }, .vfadd { zv with rnd := 7 },
    .vaddI32 { zv with rnd := 1 }, .vaddI32 { zv with lat := 1 }, .vaddI64 { zv with vd := 1 }, .vaddI64 { zv with lat := 4 },
    .vcmpI32 { zv with vd := 1 }, .vcmpI32 zv, .vaddI32 { zv with a := vreg 976 }, .vaddI64 { zv with a := vreg 5 },
    .vaddI32 { zv with cSel := 1 }, .vffma (vffmaO 0xE3), .vaddI32 { zv with a := { vreg 0 with route := 1 } },
    .vaddI32 { zv with a := { vreg 0 with elem := 7 } }, .vand { zv with a := { vreg 0 with abs := true } },
    .vffract { zv with b := vreg 1 }, .vrdlane zv] := by decide +kernel
/-- R231 to R241: the fields of the memory family. -/
theorem test_mem_refused : Refused [.vld { zm with pn := true }, .vld { zm with mode := 3 }, .vld { zm with mode := 1, va := 1 },
    .vld { zm with policy := 5 }, .vld { zm with scope := 7 }, .vld { zm with sa := 2 }, .vld { zm with vdat := 1 }, .vst { zm with d := 1 },
    .vld { zm with width := 5 }, .vld { zm with d := 1, width := 3 }, .vatom { zm with width := 2 }, .vatom { zm with sub := 0xB, scope := 1 },
    .vsld { zm with scope := 1 }, .vldw { zm with d := 8 }, .vpref { zm with d := 1 }] := by decide +kernel
/-- The fields of the engine family, one of each layout. -/
theorem test_eng_refused : Refused [.mma (eeng 8 0 464 16 464 0 0), .mzero (eeng 0 0 1 464 464 0 0), .mrd (eeng 4 0 464 0 464 0 0x100),
    .mst (eeng 0 0 464 0 464 6 0), .mld (eeng 0 0 464 1 464 0 0), .mver (eeng 0 0 0 400 0 0 0), .mwait (eeng 0 0 1 0 464 0 0),
    .cpy (eeng 1 0 8 12 465 0 0), .cpym (eeng 0 0 8 12 20 0 0), .cpub (eeng 0 0 8 12 24 2 0), .cpenc (eeng 0 0 9 12 24 0 0),
    .tsample (eeng 9 4 464 0 0 0 0), .tsample (eeng 8 4 464 0 0 3 0), .tquery (eeng 8 4 464 4 0 0 0), .trec (eeng 0 0 464 9 0 0 0),
    .gzlatch (eeng 1 0 464 4 0 0 0), .rtri (eeng 4 0 8 4 0 0 0), .rwalk (eeng 9 0 464 4 0 0 0), .lres (eeng 8 4 9 464 0 0 0),
    .temit (eeng 0 0 8 464 400 0 0), .rtrace (eeng 17 4 8 0 0 0 0), .rnext (eeng 16 1 0 0 0 0 0), .rcommit (eeng 0 0 0 0 0 4 0),
    .rspawn (eeng 16 5 0 0 0 0 0), .rpop (eeng 16 0 0 400 0 0 0)] := by decide +kernel
theorem test_accepted : ∀ i ∈ [Instr.bra (c32 0x900000), .sadd (s64 4 0 0 0 0), .vaddI32 zv, .vld zm, .tsample texO, .vffma (vffmaO 0x23),
    .satom (s64 4 8 14 15 10), .mma mmaO, .cpy (copyCase 0x30).2, .rpop popO], wellFormed i = true := by decide +kernel

/-! ## Worked examples of the spec -/

/-- What an instruction leaves. -/
noncomputable def after (i : Instr) (s : State) : State := outcomeState base (exec i s)
/-- Ch. 4, 64-bit integers: SADD.B64 s8, s8, 1; SADD.B64.c0 s8, s8, −1. -/
theorem test_sadd_b64 :
    (let t := after (.saddB64 (s64 8 8 465 0 0)) (base.withS [(8, 0xFFFFFFFF), (9, 1)]); t.readSs t.cur 8 2 = [0, 2]) ∧
    (let t := after (.saddB64 { s64 8 8 463 0 0 with cf := 4 }) (base.withS [(8, 0), (9, 2)])
     t.readSs t.cur 8 2 = [0xFFFFFFFF, 1] ∧ t.my.c = 1) := by decide +kernel
/-- One active lane with words in v0 to v3. -/
def lane0 (l : List Word) : State :=
  (l.zipIdx.foldl (fun s x => s.updG 0 fun g => g.writeV x.2 0 x.1) base).withSp fun sp => { sp with mask := 1 }
def res (t : State) (r : Nat) : Word × Fl := (t.me.readV r 0, t.me.regs.flags)
/-- Ch. 5: VADDSAT.I32.x4 and VDOT4.I8.x4. -/
theorem test_bytes :
    res (after (.vaddsatI32 { v96 2 (vreg 0) (vreg 1) 0 with ew := 2 }) (lane0 [0x7F80FF01, 0x01010203])) 2 = (0x7F810104, 0) ∧
    res (after (.vdot4I8 { v96 3 (vreg 0) (vreg 1) 928 with ew := 2 }) (lane0 [0x7F80FF01, 0x01010203])) 3 = (0, 0) := by decide +kernel
/-- Ch. 5: VFFRACT of −2⁻³⁰. -/
theorem test_vffract : res (after (.vffract (v96 2 (vreg 0) (vreg 0) 0)) (lane0 [0xB0800000])) 2 = (0x3F7FFFFF, flNX) := by decide +kernel
/-- Ch. 5: VBSHUF and VFUNNEL. -/
theorem test_shuffles :
    res (after (.vbshuf (v96 4 (vreg 0) (vreg 1) 2)) (lane0 [0x44332211, 0x88776655, 0x180F0400])) 4 = (0xFF115511, 0) ∧
    res (after (.vfunnel (v96 4 (vreg 0) (vreg 1) 936)) (lane0 [0x44332211, 0x88776655])) 4 = (0x55443322, 0) := by decide +kernel
/-- Ch. 5: VCVTN.TO of −6, 1.25 and 0.075 to E2M1 slots 0 to 2. -/
theorem test_vcvtn :
    let cvt (a slot : BitVec 10) : Instr := .vcvtnTo { v96 3 (vreg a) (vreg 552) slot with rnd := 1 }
    res (after (cvt 2 930) (after (cvt 1 929) (after (cvt 0 928) ((lane0 [0xC0C00000, 0x3FA00000, 0x3D99999A]).withS [(40, 0x000101A4)])))) 3 =
      (0x0000002F, flNX ||| flUF) := by decide +kernel
/-- Ch. 1: the address of i = 200 in a swizzled record. -/
theorem test_swizzle : (parseRec [0x00012300, 0x02000040, 0x1000, 0x20060000]).1.addr 200 0 = 0x4000012610 ∧
    (parseRec [0x00012300, 0x02000040, 0x1000, 0x20060000]).1.inBounds 200 0 4 = true := by decide +kernel
/-- Ch. 2: values encoded into E4M3 with SAT. -/
theorem test_e4m3 :
    let enc (x : Rat) : Nat × Fl := let r := encodeNarrow (FmtWord.ofWord 0x000147C8) 1 (.fin false x) 0; (r.bits, r.flags)
    enc 300 = (0x79, flNX) ∧ enc 460 = (0x7E, flNX) ∧ enc 470 = (0x7E, flCVTSAT ||| flNX) := by decide +kernel
/-- Ch. 2: stochastic rounding of 1 + 2⁻²⁴ with state 1. -/
theorem test_stochastic : let r := fF32.roundMag false 6 false (1 + 1 / 16777216) 1
    (r.bits, r.flags, r.rng) = (0x3F800001, flNX, 0x00042021) := by decide +kernel
/-- Ch. 8: VSCAN.ADD.F32 over lanes 0, 1, 2 and 4 of a segment of 8. -/
def scanState : State :=
  ([0x4B800000, 0x3F800000, 0x3F800000, 0x42C80000, 0xCB800000].zipIdx.foldl (fun s x => s.updG 0 fun g => g.writeV 7 x.2 x.1) base
    |>.withSp fun sp => { sp with mask := 0x17 }).withG fun g => { g with regs := { g.regs with segw := 8 } }
theorem test_vscan : let t := after (.vscanAddF32 { v96 8 (vreg 7) (vreg 0) 0 with rnd := 1 }) scanState
    [0, 1, 2, 3, 4].map (fun l => t.me.readV 8 l) = [0x4B800000, 0x4B800000, 0x4B800000, 0, 0] := by decide +kernel
/-- Ch. 9: an F32 add of 1, 2²⁴, 1, 1 to 3; ch. 10: compare-and-swap of 5 with 10 to 13. -/
def four (f g : Nat → Nat) : List LaneReq := (List.range 4).map fun l => { lane := l, va := 0, data := f l, cmp := g l }
theorem test_atomics :
    (let r := atomLanes 1 32 0x40400000 (four (fun l => if l = 1 then 0x4B800000 else 0x3F800000) fun _ => 0)
     r.new = 0x4B800002 ∧ r.rets = [(0, 0x40400000), (1, 0x40800000), (2, 0x4B800002), (3, 0x4B800002)]) ∧
    let r := atomLanes 0xA 32 5 (four (10 + ·) fun _ => 5)
    r.new = 10 ∧ r.rets = [(0, 5), (1, 10), (2, 10), (3, 10)] := by decide +kernel
/-- Ch. 13: the block of 0, 7.25, 4k + 3 and 63. -/
theorem test_block : let v := [0, 0x4740] ++ (List.range 14).map fun k => (fF16.roundMag false 1 false ((4 * (k + 2) + 3 : Nat) : Rat) 0).bits
    leNat ((encodeBlock v).1.take 8) = 0xD33CB1C03C000000 ∧ (encodeBlock v).2 = 0x3400 := by decide +kernel
/-- Ch. 7: ITFIX of N = 10, P = 4 and 3 blocks. -/
theorem test_itfix : (List.range 3).map (itFix 10 4 3) = [0x00000002, 0x00000103, 0x00000101] ∧
    (List.range 4).map (itBeg 10 3) = [0, 3, 6, 10] := by decide +kernel
/-- Ch. 6: BRD of split 2 with every entry in use; then EXIT of split 3. -/
def fourFull : State :=
  let a := base.my
  (base.withG fun g =>
    { g with regs := { g.regs with p := g.regs.p.set 1 0x00F00000 },
             splits := [{ a with mask := 0xFF }, { a with mask := 0xFF00 }, { a with mask := 0xFF0000 }, { a with mask := 0xFF000000 }] })
def at' (s : State) (i : Nat) : State := { s with cur := { group := 0, split := i } }
theorem test_divergence :
    let t := after (.brd (c32 0x200010)) (at' fourFull 2)
    let u := after (.splitDeferral 0) (after (.exit (c32 0)) (at' t 3))
    t.me.deferred.map (fun d => (d.mask, d.pc)) = [(0x00F00000, 0x10080)] ∧ (t.spl { group := 0, split := 2 }).mask = 0x000F0000 ∧
      (t.spl { group := 0, split := 2 }).pc = 0x10044 ∧ u.me.deferred = [] ∧
      ((u.spl { group := 0, split := 3 }).mask, (u.spl { group := 0, split := 3 }).pc) = (0x00F00000, 0x10080) := by decide +kernel
/-- Ch. 14: TSAMPLE of a 4 by 4 R32F texture at u = 0.3, v = 0.125. -/
def sampleState : State :=
  (((base.updC 0 fun c => { c with heapBase := 0x10200, heapN := 1 }).withMem 0x200
    [0x10300, 0, 0x00030003, 0x00060000, 0, 0x00000010, 0, 0x20000000]).withMem 0x300 [0x3F800000, 0x40000000]).withV 4 (fun _ => 0x3E99999A)
    |>.withV 5 (fun _ => 0x3E000000) |>.withSp fun sp => { sp with mask := 1 }
theorem test_tsample : let t := after (.tsample (eeng 8 4 464 0 0 0 0)) sampleState
    t.me.ops.head?.map (·.vwrites) = some [(8, 0, 0x3FD98000), (9, 0, 0), (10, 0, 0), (11, 0, 0x3F800000)] := by decide +kernel
/-- R105, R85, R98, R378: one step of the machine runs the word at the PC. -/
theorem test_step : (match step codeState with
    | .next t => t.readS t.cur 4 == 0 && t.my.pc == 0x10048 && t.dev.cycle == 0 && t.plan.isEmpty
    | _ => false) = true := by decide +kernel
theorem test_step_from_reset : (match step (State.reset.withFetchWord 64 0x000003E84040A06D) with
    | .next t => t.readS t.cur 5 == 1000 && t.my.pc == 0x10048 && t.my.c == 2
    | _ => false) = true := by decide +kernel
/-- R427: SHA-384 of "abc" (FIPS 180-4). -/
theorem test_sha384 : sha384 [0x61, 0x62, 0x63] = 0xcb00753f45a35e8bb5a03d699ac65007272c32ab0eded1631a8b605a43ff5bed8086072ba1e7cc2358baeca134c825a7 := by
  decide +kernel
/-- R322: a BC7 block of mode 6 and a BC6H block of one region, all endpoints and indices at their largest. -/
theorem test_bptc : bc7 (2 ^ 128 - 1 - 0x3F) 5 = [255, 255, 255, 255] ∧ bc6h false ((2 ^ 128 - 1) / 32 * 32 + 3) 5 = [31743, 31743, 31743] := by
  decide +kernel
/-- R218: two addresses whose fields cancel or do not. -/
theorem test_home_slice : homeSlice 0x100 = 1 ∧ homeSlice 0x2100 = 0 ∧ homeSlice 0x1FFF = 31 := by decide +kernel

end Sys2Proof.Tests
end

section
/-!
PROOFS. System registers: what SRD does (R20, R103), the cycle counter's pair of registers (R24).
-/

namespace Sys2Proof.Machine

/-! ## SRD (R20, R103) -/

/-- An instruction word that a split runs has its effect. -/
theorem issue_of_runs {w : IWord} {s : State} (body : State → State) (h : Runs w s) : issue w s body = .next (body s) := by
  obtain ⟨hcur, hpre⟩ := h
  exact issue_next body hcur hpre
/-- The meaning of SRD in the dispatch. -/
theorem exec_srd (o : S64) (s : State) : exec (.srd o) s = execSrd o s := rfl
/-- The meaning of SRD of CYCLO in the dispatch. -/
theorem exec_cycloRead (o : S64) (s : State) : exec (.cycloRead o) s = execCycloRead o s := rfl
/-- A read of a listed number below 0x80 is allowed in and outside trap mode. -/
theorem sysCheck_read_of_lt (s : State) {n : Nat} {w : Bool} (hn : n < 128) (ha : sysAccess n = some w) : s.sysCheck n false = none := by
  have hp : ¬ 128 ≤ n := by omega
  simp [State.sysCheck, ha, hp]
/-- SRD of CYCLO as a body: the low half goes where a scalar result goes, from the state that holds the capture. -/
theorem srdBody_cyclo (o : S64) (s : State) (hn : o.aux.toNat % 256 = 0x20) :
    srdBody o s = s.readCyclo.2.scalarDone o s.readCyclo.1 := by
  have hc : s.sysCheck 0x20 false = none := sysCheck_read_of_lt s (by decide) (rfl : sysAccess 0x20 = some false)
  simp [srdBody, hn, hc, State.scalarDone]
/-- SRD of any other number that may be read: its value goes where a scalar result goes. -/
theorem srdBody_sysRead (o : S64) (s : State) (hc : s.sysCheck (o.aux.toNat % 256) false = none) (hn : o.aux.toNat % 256 ≠ 0x20) :
    srdBody o s = s.scalarDone o (s.sysRead (o.aux.toNat % 256)) := by
  simp [srdBody, hc, hn, State.scalarDone]
/-- SRD of a readable number other than CYCLO completes with the number's value. -/
theorem exec_srd_sysRead (o : S64) (s : State) (h : Runs (.s64 0x38 o) s) (hc : s.sysCheck (o.aux.toNat % 256) false = none)
    (hn : o.aux.toNat % 256 ≠ 0x20) : exec (.srd o) s = .next (s.scalarDone o (s.sysRead (o.aux.toNat % 256))) := by
  rw [exec_srd, execSrd, issue_of_runs _ h, srdBody_sysRead o s hc hn]

/-! ## The cycle counter (R24) -/

/-- CYCLO_READ completes with the low half in sd, from the state that holds the captured high half. -/
theorem exec_cycloRead_next (o : S64) (s : State) (h : Runs (.s64 0x38 o) s) :
    exec (.cycloRead o) s = .next (s.readCyclo.2.scalarDone o s.readCyclo.1) := by
  rw [exec_cycloRead, execCycloRead, issue_of_runs _ h]; rfl
/-- SRD with CYCLO's number and CYCLO_READ, the two rows of one opcode, complete alike. -/
theorem exec_srd_cyclo (o : S64) (s : State) (h : Runs (.s64 0x38 o) s) (hn : o.aux.toNat % 256 = 0x20) :
    exec (.srd o) s = exec (.cycloRead o) s := by
  rw [exec_cycloRead_next o s h, exec_srd, execSrd, issue_of_runs _ h, srdBody_cyclo o s hn]
/-- SRD of CYCHI completes with the half that the split has captured. -/
theorem exec_srd_cychi (o : S64) (s : State) (h : Runs (.s64 0x38 o) s) (hn : o.aux.toNat % 256 = 0x21) :
    exec (.srd o) s = .next (s.scalarDone o (s.my).cychi) := by
  have hc : s.sysCheck (o.aux.toNat % 256) false = none := by
    rw [hn]; exact sysCheck_read_of_lt s (by decide) (rfl : sysAccess 0x21 = some false)
  have hv : s.sysRead (o.aux.toNat % 256) = (s.my).cychi := by rw [hn]; rfl
  rw [exec_srd_sysRead o s h hc (by omega), hv]
/-- Every core's counter starts from cycle 0 of the device; a core number past the last one reads as 0 too. -/
theorem reset_core_cycleBase (k : Nat) : (State.reset.core k).cycleBase = 0 := by
  have hcores : State.reset.cores = List.replicate 96 CoreSt.reset := rfl
  rw [State.core, hcores, List.getD_eq_getElem?_getD, List.getElem?_replicate]
  split <;> rfl
/-- Settles O18: a read of CYCLO, by either row, stores the low half in the state that holds the capture, a read of CYCHI gives the
capture, and the counters of the device and of every core start at 0. -/
theorem cycleCounterRead : Obligations.CycleCounterRead := by
  refine ⟨fun o s h hn => ⟨?_, exec_srd_cyclo o s h hn⟩, exec_srd_cychi, rfl, fun k => ?_⟩
  · exact exec_cycloRead_next o s h
  · rw [reset_core_cycleBase]; rfl

end Sys2Proof.Machine
end

section
/-!
PROOFS. What an update of the issuing split leaves alone (R12, R381), and what entering a handler writes (R379, R380): the rules that the
control instructions share.
-/

namespace Sys2Proof.Machine

/-! ## Updates of the issuing split -/

/-- A split may issue when what curOk asks for holds. -/
theorem curOk_of (s : State) (hlive : (s.grp s.cur.group).live? = true) (hgroup : s.cur.group < s.groups.length)
    (hsplit : s.cur.split < (s.grp s.cur.group).splits.length) (hready : (s.spl s.cur).st = .ready) : s.curOk = true := by
  simp [State.curOk, hlive, hgroup, hsplit, hready]
/-- Two updates of one split are one update. -/
theorem updS_updS (s : State) (r : SplitRef) (f k : Split → Split) : (s.updS r f).updS r k = s.updS r fun sp => k (f sp) := by
  simp only [State.updS, State.updG, Group.updS, upd, List.modify_modify_eq]
  congr 2
  funext g
  simp only [Function.comp_apply, List.modify_modify_eq]
  rfl
/-- Of its group, an update of the issuing split changes the split table only. -/
theorem me_updS_cur (s : State) (f : Split → Split) : (s.updS s.cur f).me = { s.me with splits := ((s.updS s.cur f).me).splits } := by
  simp only [State.me, State.updS, State.grp_updG]
  split <;> rfl
theorem splitOnly_updS_cur (s : State) (f : Split → Split) : SplitOnly s (s.updS s.cur f) :=
  ⟨⟨rfl, fun _ h => s.grp_updG_ne _ h.symm⟩, fun _ h => spl_updS_ne s f h.symm⟩
theorem memorySame_updS (s : State) (r : SplitRef) (f : Split → Split) : MemorySame s (s.updS r f) :=
  ⟨fun _ => rfl, fun _ => rfl, fun _ _ => rfl, fun _ _ => rfl, fun _ _ => rfl⟩
theorem MemorySame.trans {s t u : State} (h : MemorySame s t) (k : MemorySame t u) : MemorySame s u := by
  obtain ⟨hmem, hws, hsram, hl1, hcc⟩ := h
  obtain ⟨kmem, kws, ksram, kl1, kcc⟩ := k
  exact ⟨fun a => (kmem a).trans (hmem a), fun a => (kws a).trans (hws a), fun n a => (ksram n a).trans (hsram n a),
    fun n a => (kl1 n a).trans (hl1 n a), fun n a => (kcc n a).trans (hcc n a)⟩
/-- What an update of the issuing split does: the split becomes what the update makes of it, and nothing else changes. -/
theorem updS_cur_effect (s : State) (f : Split → Split) (h : s.curOk = true) :
    (s.updS s.cur f).my = f s.my ∧ (s.updS s.cur f).me = { s.me with splits := ((s.updS s.cur f).me).splits } ∧
      SplitOnly s (s.updS s.cur f) ∧ MemorySame s (s.updS s.cur f) :=
  ⟨spl_updS_cur s f h, me_updS_cur s f, splitOnly_updS_cur s f, memorySame_updS s s.cur f⟩
theorem moves_setPc (s : State) (pc : Addr56) (h : s.curOk = true) : Moves s (s.setPc pc) pc := updS_cur_effect s _ h
theorem moves_advance (s : State) (n : Nat) (h : s.curOk = true) : Moves s (s.advance n) ((s.my).pc + BitVec.ofNat 56 (4 * n)) :=
  updS_cur_effect s _ h

/-! ## Entering a handler (R379, R380) -/

/-- A group update that keeps the split table keeps every split. -/
theorem spl_updG_of_splits (s : State) (g : Nat) (f : Group → Group) (hf : ∀ x, (f x).splits = x.splits) (r : SplitRef) :
    (s.updG g f).spl r = s.spl r := by
  simp only [State.spl, State.grp_updG]
  split
  · rw [hf]
  · rfl
/-- A core update that keeps the L1 keeps every sector that the L1s hold. -/
theorem l1At_updCore_of_l1 (s : State) (k : Nat) (f : CoreSt → CoreSt) (hf : ∀ x, (f x).l1 = x.l1) (core a : Nat) :
    (s.updCore k f).l1At core a = s.l1At core a := by
  simp only [State.l1At, State.core_updCore]
  split
  · rw [hf]
  · rfl
/-- Consecutive scalars of a group, from number n on, written with the first k words of a list. -/
def Group.writeWords (g : Group) (n k : Nat) (ws : List Word) : Group :=
  (List.range k).foldl (fun g i => g.writeS (n + i) (wordAt ws i)) g
theorem writeWords_succ (g : Group) (n k : Nat) (ws : List Word) :
    g.writeWords n (k + 1) ws = (g.writeWords n k ws).writeS (n + k) (wordAt ws k) := by
  rw [Group.writeWords, List.range_succ, List.foldl_append]; rfl
/-- They change the group's scalars and the poison of these only. -/
theorem writeWords_frame (g : Group) (n k : Nat) (ws : List Word) :
    g.writeWords n k ws = { g with regs := { g.regs with s := (g.writeWords n k ws).regs.s,
                                                         spoison := (g.writeWords n k ws).regs.spoison } } := by
  induction k with
  | zero => rfl
  | succ k ih => rw [writeWords_succ]; exact congrArg (·.writeS (n + k) (wordAt ws k)) ih
theorem writeWords_splits (g : Group) (n k : Nat) (ws : List Word) : (g.writeWords n k ws).splits = g.splits := by
  rw [writeWords_frame]
theorem writeWords_live (g : Group) (n k : Nat) (ws : List Word) : (g.writeWords n k ws).live? = g.live? := by
  rw [writeWords_frame]; rfl
theorem sget_writeWords (g : Group) (n k m : Nat) (ws : List Word) :
    sget 0 (g.writeWords n k ws).regs.s m = if n ≤ m ∧ m < n + k then wordAt ws (m - n) else sget 0 g.regs.s m := by
  induction k with
  | zero => rw [if_neg (by omega)]; rfl
  | succ k ih =>
    rw [writeWords_succ, Group.writeS_regs, sget_sset, ih]
    by_cases hm : m = n + k
    · subst hm; simp
    · have hlt : (n ≤ m ∧ m < n + (k + 1)) ↔ (n ≤ m ∧ m < n + k) := by omega
      simp only [hm, if_false, hlt]

/-- The words that a cause of the issuing split puts into s376 to s383. -/
def State.entryWords (s : State) (c : Cause) : List Word := entryScalars s.cur s.my (c.keeping s.my)
/-- The state on the way into the handler: no VACQ of the split waits any more and R380's scalars are written; its split is still to be
changed. -/
def State.handlerWritten (s : State) (c : Cause) : State :=
  (s.updCore (s.me).coreIx fun k => { k with vacqs := k.vacqs.filter fun v => v.1 != s.cur }).updG s.cur.group fun g =>
    g.writeWords 376 8 (s.entryWords c)
/-- Entering the handler is an update of the issuing split of that state, which makes of the split what R379 and R380 say. -/
theorem enterTrap_eq_updS (s : State) (c : Cause) :
    ∃ f : Split → Split, s.enterTrap s.cur c = (s.handlerWritten c).updS s.cur f ∧ f s.my = handlerSplit s c := ⟨_, rfl, rfl⟩
theorem handlerWritten_spl (s : State) (c : Cause) (r : SplitRef) : (s.handlerWritten c).spl r = s.spl r :=
  spl_updG_of_splits _ _ _ (fun _ => writeWords_splits ..) r
theorem handlerWritten_me (s : State) (c : Cause) (h : s.cur.group < s.groups.length) :
    (s.handlerWritten c).me = (s.me).writeWords 376 8 (s.entryWords c) :=
  State.grp_updG_self _ _ _ h
theorem handlerWritten_memory (s : State) (c : Cause) : MemorySame s (s.handlerWritten c) :=
  ⟨fun _ => rfl, fun _ => rfl, fun _ _ => rfl, l1At_updCore_of_l1 s _ _ fun _ => rfl, fun _ _ => rfl⟩
/-- The split may still issue there. -/
theorem handlerWritten_curOk (s : State) (c : Cause) (h : s.curOk = true) : (s.handlerWritten c).curOk = true := by
  obtain ⟨hlive, hgroup, hsplit, hready⟩ := curOk_spec s h
  have hme : (s.handlerWritten c).grp s.cur.group = (s.me).writeWords 376 8 (s.entryWords c) := handlerWritten_me s c hgroup
  have hlen : (s.handlerWritten c).groups.length = s.groups.length := length_upd ..
  refine curOk_of _ ?_ (hlen ▸ hgroup) ?_ ((congrArg Split.st (handlerWritten_spl s c s.cur)).trans hready)
  · exact ((congrArg Group.live? hme).trans (writeWords_live ..)).trans hlive
  · have hs := (congrArg Group.splits hme).trans (writeWords_splits ..)
    exact (congrArg List.length hs) ▸ hsplit
theorem enterTrap_my (s : State) (c : Cause) (h : s.curOk = true) : (s.enterTrap s.cur c).my = handlerSplit s c := by
  obtain ⟨f, heq, hf⟩ := enterTrap_eq_updS s c
  have hu := spl_updS_cur (s.handlerWritten c) f (handlerWritten_curOk s c h)
  rw [← hf, heq]
  exact hu.trans (congrArg f (handlerWritten_spl s c s.cur))
theorem enterTrap_regs (s : State) (c : Cause) : ((s.enterTrap s.cur c).me).regs = ((s.handlerWritten c).me).regs := by
  obtain ⟨f, heq, -⟩ := enterTrap_eq_updS s c
  rw [heq]
  exact regs_updS ..
/-- The scalars of the split after the handler has been entered. -/
theorem enterTrap_readS (s : State) (c : Cause) (n : Nat) (h : s.curOk = true) (hn : n < 384) :
    (s.enterTrap s.cur c).readS s.cur n = if 376 ≤ n then wordAt (s.entryWords c) (n - 376) else s.readS s.cur n := by
  obtain ⟨-, hgroup, -, -⟩ := curOk_spec s h
  by_cases hb : n < 32
  · have hs : ((s.enterTrap s.cur c).spl s.cur).s = (s.spl s.cur).s := (congrArg Split.s (enterTrap_my s c h) :)
    rw [if_neg (by omega), State.readS, State.readS, if_pos hb, if_pos hb, hs]
  · have hr : ((s.enterTrap s.cur c).grp s.cur.group).regs = ((s.handlerWritten c).me).regs := enterTrap_regs s c
    rw [State.readS, State.readS, if_neg hb, if_neg hb, hr, handlerWritten_me s c hgroup, sget_writeWords]
    simp only [hn, and_true]
    rfl
/-- Entering the handler has the effect that R379 steps 4 to 6 and R380 give. -/
theorem enters_enterTrap (s : State) (c : Cause) (h : s.curOk = true) : Enters s (s.enterTrap s.cur c) c := by
  obtain ⟨-, hgroup, -, -⟩ := curOk_spec s h
  obtain ⟨f, heq, -⟩ := enterTrap_eq_updS s c
  have hgrp := writeWords_frame s.me 376 8 (s.entryWords c)
  rw [← handlerWritten_me s c hgroup] at hgrp
  refine ⟨enterTrap_my s c h, fun n hn => enterTrap_readS s c n h hn, fun r hr => ?_, fun r l => ?_, ?_, ?_, ?_⟩
  · rw [heq, spl_updS_ne _ _ hr.symm, handlerWritten_spl]
  · rw [Group.readV, enterTrap_regs, hgrp]; rfl
  · rw [enterTrap_regs, hgrp]
  · rw [enterTrap_regs, hgrp]
  · rw [heq]; exact (handlerWritten_memory s c).trans (memorySame_updS ..)
/-- A cause enters the handler where one can be entered. -/
theorem enters_takeTrap (s : State) (c : Cause) (h : s.curOk = true) (hc : CanTrap s) : Enters s (s.takeTrap s.cur c) c := by
  obtain ⟨htrap, helse, hbase⟩ := hc
  rw [takeTrap_enters s s.cur c helse htrap hbase]
  exact enters_enterTrap s c h

end Sys2Proof.Machine
end

section
/-!
PROOFS. Scalar shifts (R86), NOP (R105), BRA and RET (R98, R100).
-/

namespace Sys2Proof.Machine

/-! ## Shifts (R86) -/

/-- A shift to the left multiplies by a power of two. -/
theorem shl32_eq_mul (a : Word) (n : Nat) : shl32 a n = if 32 ≤ n then 0 else BitVec.ofNat 32 (a.toNat * 2 ^ n) := by
  have hlt : a <<< n = BitVec.ofNat 32 (a.toNat * 2 ^ n) := by
    apply BitVec.eq_of_toNat_eq
    rw [BitVec.toNat_shiftLeft, Nat.shiftLeft_eq, BitVec.toNat_ofNat]
  rw [shl32, hlt]
/-- A shift to the right with zero fill divides by a power of two. -/
theorem shr32_eq_div (a : Word) (n : Nat) : shr32 a n = if 32 ≤ n then 0 else BitVec.ofNat 32 (a.toNat / 2 ^ n) := by
  have hlt : a >>> n = BitVec.ofNat 32 (a.toNat / 2 ^ n) := by
    apply BitVec.eq_of_toNat_eq
    rw [BitVec.toNat_ushiftRight, Nat.shiftRight_eq_div_pow, BitVec.toNat_ofNat]
    exact (Nat.mod_eq_of_lt (Nat.lt_of_le_of_lt (Nat.div_le_self ..) a.isLt)).symm
  rw [shr32, hlt]
/-- Shifted by its whole width, a word is 32 copies of its sign. -/
theorem sshiftRight_width (a : Word) : a.sshiftRight 32 = if a.msb then 0xFFFFFFFF else 0 := by
  have hones : (0xFFFFFFFF : Word) = BitVec.allOnes 32 := rfl
  ext i hi
  rw [BitVec.getElem_sshiftRight, dif_neg (by omega), hones]
  cases a.msb
  · simp
  · rw [if_pos rfl, BitVec.getElem_allOnes]
/-- A shift to the right with sign fill divides, rounding down, and from 32 on leaves the sign. -/
theorem sra32_eq_ediv (a : Word) (n : Nat) :
    sra32 a n = if 32 ≤ n then (if a.msb then 0xFFFFFFFF else 0) else BitVec.ofInt 32 (a.toInt / 2 ^ n) := by
  rw [sra32]
  split
  · next h => rw [Nat.min_eq_right h, sshiftRight_width]
  · next h =>
    rw [Nat.min_eq_left (by omega), ← BitVec.ofInt_toInt (x := a.sshiftRight n), BitVec.toInt_sshiftRight, Int.shiftRight_eq_div_pow]
    norm_cast

/-- The meaning of SSHL in the dispatch. -/
theorem exec_sshl (o : S64) (s : State) :
    exec (.sshl o) s = issue (toIWord (.sshl o)) s (sResult o fun s => shl32 (s.srcA o) (s.srcB o).toNat) := rfl
/-- The meaning of SSHR in the dispatch. -/
theorem exec_sshr (o : S64) (s : State) :
    exec (.sshr o) s = issue (toIWord (.sshr o)) s (sResult o fun s => shr32 (s.srcA o) (s.srcB o).toNat) := rfl
/-- The meaning of SSRA in the dispatch. -/
theorem exec_ssra (o : S64) (s : State) :
    exec (.ssra o) s = issue (toIWord (.ssra o)) s (sResult o fun s => sra32 (s.srcA o) (s.srcB o).toNat) := rfl
/-- A word with a 32-bit result completes with what R83 and R84 make of the result. -/
theorem issue_sResult {w : IWord} {s : State} (o : S64) (f : State → Word) (h : Runs w s) :
    issue w s (sResult o f) = .next (s.scalarDone o (f s)) := issue_of_runs _ h
/-- Settles O1: each shift issues its 32-bit result, and the model's shift is the arithmetic of R86. -/
theorem shiftResults : Obligations.ShiftResults := by
  simp only [Obligations.ShiftResults, shiftRows, List.forall_mem_cons]
  refine ⟨fun o s h => ?_, fun o s h => ?_, fun o s h => ?_, fun r hr => nomatch hr⟩
  · rw [exec_sshl, issue_sResult o _ h, shl32_eq_mul]
  · rw [exec_sshr, issue_sResult o _ h, shr32_eq_div]
  · rw [exec_ssra, issue_sResult o _ h, sra32_eq_ediv]

/-! ## NOP (R105) -/

/-- The meaning of NOP in the dispatch. -/
theorem exec_nop (o : C32) (s : State) : exec (.nop o) s = issue (.c32 0x00 o) s fun s => (s.ageLatches).advance 1 := rfl
/-- Aging the latches and moving on is one update of the issuing split. -/
theorem ageLatches_advance (s : State) (n : Nat) :
    (s.ageLatches).advance n = s.updS s.cur fun sp => { sp.advance n with latches := sp.latches.map Latch.aged } := updS_updS ..
theorem decode_zeroWord : decode [0, 0, 0, 0] = .instr (.nop { f := 0 }) [] := rfl
/-- The all-zero word passes every check of R56, whatever latches are live: it reads nothing. -/
theorem precheck_zeroWord (s : State) : s.precheck (.c32 0x00 { f := 0 }) = none := by
  simp [State.precheck, latchSafe, operandsOk, c32Ok, privileged, Split.staleLatch, wordRegs, State.poisonLanes]
/-- Settles O6: NOP is one update of the issuing split, and the all-zero word is a NOP that passes its checks. -/
theorem nopOnlyTakesAnIssueSlot : Obligations.NopOnlyTakesAnIssueSlot := by
  refine ⟨fun o s h => ⟨_, (exec_nop o s).trans (issue_of_runs _ h), ?_⟩, decode_zeroWord, fun s _ => precheck_zeroWord s⟩
  rw [ageLatches_advance]
  exact updS_cur_effect s _ h.1

/-! ## Fields of a C32 word (R58, R59) -/

theorem c32Bits_eq_extract (o : C32) (hi lo : Nat) : c32Bits o hi lo = (o.f.extractLsb' lo (hi + 1 - lo)).toNat :=
  (BitVec.extractLsb'_toNat ..).symm
theorem c32Bits_single (o : C32) (k : Nat) : c32Bits o k k = (o.f.getLsbD k).toNat := by
  simp only [c32Bits, field, BitVec.getLsbD, Nat.toNat_testBit, Nat.shiftRight_eq_div_pow, Nat.add_sub_cancel_left, Nat.pow_one]
/-- Sext of a bit pattern is its signed value. -/
theorem sextN_toNat {n : Nat} (x : BitVec (n + 1)) : sextN (n + 1) x.toNat = x.toInt := by
  have hpow : 2 ^ (n + 1) = 2 * 2 ^ n := Nat.pow_succ'
  simp only [sextN, Nat.add_one_ne_zero, if_false, Nat.mod_eq_of_lt x.isLt, Nat.add_sub_cancel]
  rw [BitVec.toInt_eq_toNat_cond]
  split
  · next h => rw [if_neg (by omega)]
  · next h => rw [if_pos (by omega)]
theorem target_eq_branchTarget (s : State) (o : C32) : s.target o = branchTarget s o := by
  rw [State.target, c32Bits_eq_extract, sextN_toNat]; rfl
/-- When the model takes a BRA: its flag is not enabled, or equals the sense bit. -/
theorem branchTaken_iff (s : State) (o : C32) :
    (c32Bits o 23 23 = 0 ∨ s.cflag (c32Bits o 21 20) = (c32Bits o 22 22 == 1)) ↔
      (o.f.getLsbD 23 = false ∨ (s.my).c.getLsbD (o.f.extractLsb' 20 2).toNat = o.f.getLsbD 22) := by
  have hsense : (c32Bits o 22 22 == 1) = o.f.getLsbD 22 := by rw [c32Bits_single]; cases o.f.getLsbD 22 <;> rfl
  rw [hsense, c32Bits_single, c32Bits_eq_extract, Bool.toNat_eq_zero]
  rfl

/-! ## BRA and RET (R98, R100) -/

/-- The address in a pair: bits [31:24] of the odd register are ignored. -/
theorem addrAt_eq (s : State) (n : Nat) :
    s.addrAt n = (s.readS s.cur n).toNat + 2 ^ 32 * ((s.readS s.cur (n + 1)).toNat % 2 ^ 24) := by
  have := (s.readS s.cur n).isLt
  simp only [State.addrAt, State.readAddr, State.readPair]
  omega
/-- The meaning of BRA in the dispatch. -/
theorem exec_bra (o : C32) (s : State) : exec (.bra o) s = issue (.c32 0x01 o) s fun s =>
    if c32Bits o 23 23 = 0 ∨ s.cflag (c32Bits o 21 20) = (c32Bits o 22 22 == 1) then s.setPc (s.target o) else s.advance 1 := rfl
/-- The meaning of RET in the dispatch. -/
theorem exec_ret (o : C32) (s : State) : exec (.ret o) s = issue (.c32 0x04 o) s fun s =>
    if s.addrAt 30 % 4 ≠ 0 then s.trapAt 0x08 (s.my).mask (s.addrAt 30) else s.setPc (BitVec.ofNat 56 (s.addrAt 30)) := rfl
/-- Settles O7: BRA and RET set the PC of the issuing split, and RET to a misaligned address takes its cause. -/
theorem branchAndReturn : Obligations.BranchAndReturn := by
  refine ⟨fun o s h => ⟨_, (exec_bra o s).trans (issue_of_runs _ h), ?_⟩, fun o s h => ?_⟩
  · simp only [branchTaken_iff, target_eq_branchTarget]
    split
    · exact moves_setPc s _ h.1
    · exact moves_advance s 1 h.1
  · rw [exec_ret, issue_of_runs _ h, addrAt_eq]
    refine ⟨fun aligned => ⟨_, rfl, ?_⟩, fun misaligned hc => ⟨_, rfl, ?_⟩⟩
    · rw [if_neg (not_not_intro aligned)]
      exact moves_setPc s _ h.1
    · rw [if_pos misaligned]
      exact enters_takeTrap s _ h.1 hc

end Sys2Proof.Machine
end
